-- ==== Sys2Proof/Word.lean ====
section
/-! DEFINITION. The byte, the one word type of the part: every frame body and plan record is a sequence of bytes (R186). -/

namespace Sys2Proof

/-- One byte of a frame, as R182 and R186 lay frames out. -/
abbrev Byte := BitVec 8

end Sys2Proof
end

