-- ==== Sys2Proof/Syntax.lean ====
section
/-! DEFINITION. The commands of the part: one constructor of `Instr` for each row of spec/opcode_table.json. -/

namespace Sys2Proof

/-- One character as a line's receiver samples it (R184): eight data bits, the parity bit (`false` when the format has
none), and the first stop bit. Whether it is in error depends on the line's format. -/
structure RxChar where
  data   : Byte
  parity : Bool
  stop   : Bool
deriving DecidableEq, Repr

/-- The two peer ports (R134). -/
inductive PeerPort
  | a | b
deriving DecidableEq, Repr

/-- The five serial lines, numbered 0 to 4 in this order (8.1). -/
inductive LineId
  | message | detector | sign | peerA | peerB
deriving DecidableEq, Repr

/-- The commands. A request row carries the request's tag and the bytes of its body after kind and tag, whatever their
number, so that a body of wrong length is a command too (R158). A `…FrameReceived` row carries the characters the line's
receiver takes. An event row carries what names the unit it happens to. -/
inductive Instr
  | powerOn
  | resetLine
  | messageFrameReceived (chars : List RxChar)
  | unknownKind (kind tag : Byte) (fields : List Byte)
  | identify (tag : Byte) (fields : List Byte)
  | status (tag : Byte) (fields : List Byte)
  | planBegin (tag : Byte) (fields : List Byte)
  | planPut (tag : Byte) (fields : List Byte)
  | planCheck (tag : Byte) (fields : List Byte)
  | planActivate (tag : Byte) (fields : List Byte)
  | planDiscard (tag : Byte) (fields : List Byte)
  | planRead (tag : Byte) (fields : List Byte)
  | exitSet (tag : Byte) (fields : List Byte)
  | zoneForce (tag : Byte) (fields : List Byte)
  | zoneReset (tag : Byte) (fields : List Byte)
  | evacuate (tag : Byte) (fields : List Byte)
  | standDown (tag : Byte) (fields : List Byte)
  | groupSet (tag : Byte) (fields : List Byte)
  | nodeQuery (tag : Byte) (fields : List Byte)
  | signQuery (tag : Byte) (fields : List Byte)
  | zoneQuery (tag : Byte) (fields : List Byte)
  | detectorQuery (tag : Byte) (fields : List Byte)
  | portalQuery (tag : Byte) (fields : List Byte)
  | noticeSetup (tag : Byte) (fields : List Byte)
  | clearFlags (tag : Byte) (fields : List Byte)
  | faultRead (tag : Byte) (fields : List Byte)
  | faultClear (tag : Byte) (fields : List Byte)
  | counterSetup (tag : Byte) (fields : List Byte)
  | counterRead (tag : Byte) (fields : List Byte)
  | outputSetup (tag : Byte) (fields : List Byte)
  | lineSetup (tag : Byte) (fields : List Byte)
  | lineHalt (tag : Byte) (fields : List Byte)
  | lineRun (tag : Byte) (fields : List Byte)
  | restart (tag : Byte) (fields : List Byte)
  /-- `noticeFirst`: the transmitter, free at the end of the reply, chooses before the next reply is placed (R172; log
  entry 45). -/
  | replySent (noticeFirst : Bool := false)
  /-- `noticeFirst`: as at the end of a reply. -/
  | messagePortFormatChange (noticeFirst : Bool := false)
  | restartBegin
  | noticeFrameStart
  | frameGapAbort (line : LineId)
  | detectorFrameReceived (chars : List RxChar)
  | silenceTimerExpiry
  | contactChangeAccepted (channel : Fin 8)
  | pulseWidthLimit (channel : Fin 8)
  | takeBegin
  | takeComplete
  | suspectTimerExpiry (zone : Nat)
  | clearHoldTimerExpiry (zone : Nat)
  | tenthTick
  | planCheckEnd
  /-- `readBack`: the image as it reads back from plan memory (R20 step 4). -/
  | planStoreEnd (readBack : List Byte)
  | solveStart
  | solveEnd
  | refreshTimerExpiry
  | showFrameSent
  | signFrameReceived (chars : List RxChar)
  | replyWindowClose
  | fallbackFrameSent
  | emphasisTimerExpiry (sign : Nat)
  | advertReceived (port : PeerPort) (chars : List RxChar)
  | ageTimerExpiry (port : PeerPort)
  | advertTimerExpiry (port : PeerPort)
  | spacingTimerExpiry (port : PeerPort)
  | advertFrameSent (port : PeerPort)
  /-- `levels`: bit n is set when CIn reads CLOSED at this sample (R32). -/
  | contactSample (levels : BitVec 8)
  | noticeFrameSent
  | resetLineAsserted
  | powerLoss
  | startUpLoadEnd
deriving DecidableEq, Repr

end Sys2Proof
end

