-- ==== Sys2Proof/Decode.lean ====
section
/-! DEFINITION. `decodeTableWord`. No row of spec/opcode_table.json gives a word any bits (every row's "fields" is
empty and none has "fixed"), so no word spells a command. -/

namespace Sys2Proof

/-- The command that a table word spells: none, since the table gives no row any bits. -/
def decodeTableWord (_nbits _w : Nat) : Option Instr :=
  none

end Sys2Proof
end

