-- ==== Sys2Proof/Config.lean ====
section
/-! DEFINITION. What is fixed in the part (capacities, identity) and the free values the manual leaves open. -/

namespace Sys2Proof

/-- FREE VALUE (log entry 12): the content of a byte whose field is announced as absent by its own present byte.
R186 says an absent value is all ones and excepts exactly the fields that carry a present byte, for which it states no
content. The index is a counter of the state, so that no two such bytes are known to be equal. -/
opaque Config.freeByte : Nat → Byte

/-- Part number given by IDENTIFY (R160). -/
def Config.partNumber : Nat := 3140
/-- Design revision given by IDENTIFY (R160). -/
def Config.revision : Nat := 1
/-- Capacity in nodes (1.2, R160). -/
def Config.maxNodes : Nat := 384
/-- Capacity in links (1.2, R160). -/
def Config.maxLinks : Nat := 768
/-- Capacity in zones (1.2, R160). -/
def Config.maxZones : Nat := 64
/-- Capacity in windows (1.2, R160). -/
def Config.maxWindows : Nat := 16
/-- Capacity in exits (1.2, R160). -/
def Config.maxExits : Nat := 32
/-- Capacity in portals (R15 reason 10, R160). -/
def Config.maxPortals : Nat := 8
/-- Capacity in signs (1.2, R160). -/
def Config.maxSigns : Nat := 250
/-- Bytes of the longest image of a plan that passes the check: every section full, eight of the exits portals, every map
of eight entries and every group list of four (R15, R190; log entry 9). -/
def Config.maxImage : Nat := 16912
/-- Entries of the pending report table (R37). -/
def Config.maxPending : Nat := 32
/-- Records of the detector table (R42). -/
def Config.maxDetectors : Nat := 256
/-- Largest exposure X of a cost, which saturates there (R66, R67). -/
def Config.maxExposure : Nat := 65535
/-- Largest distance D of a reachable cost, which saturates there (R66, R67). -/
def Config.maxDistance : Nat := 65534
/-- The hop limit (R73, R149). -/
def Config.hopLimit : Nat := 3
/-- Largest value of an event counter (R178). -/
def Config.maxCount : Nat := 16777215
/-- Largest value of the seconds-since-reset count (R65). -/
def Config.maxSeconds : Nat := 4294967295
/-- Cycles a second of the crystal from which the five character clocks are derived (R184). -/
def Config.characterCrystal : Nat := 14745600
/-- Free indices one taken request may use; each taken request moves the counter on by this much (log entry 12). -/
def Config.freeBlock : Nat := 1024

end Sys2Proof
end

