-- ==== Sys2Proof/Machine/Types.lean ====
section
/-! DEFINITION. The kinds, codes and records of the manual as plain types. -/

namespace Sys2Proof.Machine

/-! ## Named values -/

/-- The four detector levels, in rising severity (R24). -/
inductive Level | normal | fault | prealarm | alarm deriving DecidableEq, Repr
/-- The road by which a report came (R24). -/
inductive Source | line | contact (channel : Nat) deriving DecidableEq, Repr
/-- The detector line's lock state (R26). -/
inductive LockState | silent | seeking | locked deriving DecidableEq, Repr
/-- A contact channel's mode (R31). -/
inductive ContactMode | off | levelOpenAlarm | levelClosedAlarm | pulse deriving DecidableEq, Repr
/-- What a contact input reads (R32). -/
inductive ContactLevel | opened | closed deriving DecidableEq, Repr
/-- A contact channel's candidate (R32). `accepting`: the second differing sample has been taken and the acceptance
(CONTACT_CHANGE_ACCEPTED) is the next thing to happen to the channel (log entry 26). -/
inductive Candidate | absent | present | accepting deriving DecidableEq, Repr
/-- A zone's hazard state (R46). -/
inductive ZoneState | clear | suspect | smoke | clearing deriving DecidableEq, Repr
/-- The evacuation state of the hall (R59). -/
inductive EvacState | quiet | alert | active deriving DecidableEq, Repr
/-- The cause carried by an EVAC_STATE notice (R62). -/
inductive EvacCause | zone (z : Nat) | evacuate | standDown | plan deriving DecidableEq, Repr
/-- An exit's runtime state (R70). -/
inductive ExitState | opened | restricted | closed deriving DecidableEq, Repr
/-- In which directions a link may be travelled (R4). -/
inductive Passage | both | aToB | bToA deriving DecidableEq, Repr
/-- The unit of a timing setting (R3). -/
inductive TimeUnit | tenth | second | tenSeconds | minute deriving DecidableEq, Repr
/-- The sections of a plan (1.2). -/
inductive Section | header | nodes | links | zones | windows | exits | signs deriving DecidableEq, Repr
/-- The two plan banks (R1). -/
inductive Bank | active | staging deriving DecidableEq, Repr
/-- The stages of the staging bank (1.3). -/
inductive Stage | empty | opened | checking | passed | failed | activating deriving DecidableEq, Repr
/-- The reasons of the plan check, in the order of R15. -/
inductive CheckReason
  | sectionMissing | countRange | linkEndpoint | linkZone | nodeDegree | windowAlign | windowOverlap | windowZone
  | exitNode | portalCount | portalPort | signAddress | signNode | signMap | signGroup | noExit
deriving DecidableEq, Repr
/-- Plan memory's condition mark (R20). -/
inductive MemoryMark | blank | written deriving DecidableEq, Repr
/-- Plan memory's condition as STATUS shows it (R21). -/
inductive MemoryCondition | blank | good | bad deriving DecidableEq, Repr
/-- The outcomes of a PLAN_EVENT notice (R170). -/
inductive PlanOutcome | passed | failed | activated | stored | storeFailed deriving DecidableEq, Repr
/-- The Route Solver's state (R75). -/
inductive SolverState | idle | solving deriving DecidableEq, Repr
/-- The Sign Line Controller's cycle state (R112). -/
inductive CycleState | dormant | idle | cycling deriving DecidableEq, Repr
/-- A line mark (R154). -/
inductive LineMark | running | halted deriving DecidableEq, Repr
/-- A face's symbol, the direction standing with ARROW only (R97). -/
inductive FaceSymbol | arrow (dir : Nat) | exitHere | noRoute | blank | test deriving DecidableEq, Repr
/-- How a sign flashes (R97). -/
inductive Flash | steady | slow | fast deriving DecidableEq, Repr
/-- A group's class (R103). -/
inductive GroupClass | normal | service deriving DecidableEq, Repr
/-- A sign head's health (R111). -/
inductive SignState | unseen | online | missing | lost | faulty deriving DecidableEq, Repr
/-- A lamp state (R119); `part` is PARTIAL. -/
inductive Lamp | ok | part | failed deriving DecidableEq, Repr
/-- How a sign's last exchange ended (R111). -/
inductive SignOutcome | none | taken | noReply | charError | echoMismatch deriving DecidableEq, Repr
/-- A peer port's state (R134). -/
inductive PortState | down | up | miswired deriving DecidableEq, Repr
/-- A line's parity (R154). -/
inductive Parity | none | even | odd | zero deriving DecidableEq, Repr
/-- The kinds of reset (R160). -/
inductive ResetKind | powerOn | resetLine | restart deriving DecidableEq, Repr
/-- The ten notice kinds (R170). -/
inductive NoticeKind
  | evacState | zoneChange | routePublished | noRoute | signTrouble | portalChange | faultCaptured | lineState
  | planEvent | overrun
deriving DecidableEq, Repr
/-- The thirteen fault kinds (R175). -/
inductive FaultKind
  | planStoreFault | detectorLineLost | intakeOverrun | detectorTableFull | signLost | signLampFault | portMiswired
  | peerDown | unmappedDetector | sequenceGap | lineCharError | signReplyError | portFrameDropped
deriving DecidableEq, Repr
/-- A fault's class (R175). -/
inductive FaultClass | minor | major deriving DecidableEq, Repr
/-- The twelve event counter inputs (R178). -/
inductive CounterInput
  | solveDone | solveStale | headingChange | showSent | replyMissed | cycleOverrun | cycleCut | reportTaken
  | reportMerged | reportDropped | advertSent | advertTaken
deriving DecidableEq, Repr
/-- The twelve signals of the status output menu (R179). -/
inductive Signal
  | off | evacActive | alertOrActive | anySmoke | noRoutePresent | signTrouble | portalUnknown | faultPresent
  | detectorNotLocked | planAbsent | solving | noticePending
deriving DecidableEq, Repr
/-- The reply statuses (8.3). -/
inductive ReplyStatus
  | ok | clamped | unknownKind | badLength | badValue | busy | refused | noPlan | wrongStage
deriving DecidableEq, Repr

/-! ## Plan records (R2 to R7) -/

/-- A timing setting: a count and a unit (R3). -/
structure Timing where
  count : Nat
  unit  : TimeUnit
deriving DecidableEq, Repr

/-- The header record (R2). -/
structure Header where
  planId      : Nat
  nodeCount   : Nat
  linkCount   : Nat
  zoneCount   : Nat
  windowCount : Nat
  exitCount   : Nat
  signCount   : Nat
  suspect     : Timing
  clearHold   : Timing
  emphasis    : Timing
  refresh     : Timing
  advertise   : Timing
  ageLimit    : Timing
  silence     : Timing
  spacing     : Timing
  quietLevel  : Nat
  alertLevel  : Nat
  activeLevel : Nat
  margin      : Nat
  surcharge   : Nat
  replyWindow : Nat
  missLimit   : Nat
  ownId       : Nat
  expectedA   : Nat
  expectedB   : Nat
deriving DecidableEq, Repr

/-- A node record: an optional label (R4). -/
structure NodeRec where
  label : Option Nat
deriving DecidableEq, Repr

/-- A link record (R4). -/
structure LinkRec where
  a       : Nat
  b       : Nat
  len     : Nat
  width   : Nat
  zone    : Nat
  passage : Passage
deriving DecidableEq, Repr

/-- A zone record (R5). -/
structure ZoneRec where
  latch         : Bool
  suspectWeight : Nat
  smokeWeight   : Nat
  confirmCount  : Nat
deriving DecidableEq, Repr

/-- A window record (R5). -/
structure WindowRec where
  base : Nat
  size : Nat
  zone : Nat
deriving DecidableEq, Repr

/-- The three fields only a PORTAL record has (R6). -/
structure PortalFields where
  port     : PeerPort
  remote   : Nat
  crossing : Nat
deriving DecidableEq, Repr

/-- An exit record (R6); `portal` is `none` for a DOOR. -/
structure ExitRec where
  node    : Nat
  bias    : Nat
  initial : ExitState
  portal  : Option PortalFields
deriving DecidableEq, Repr

/-- A sign record (R7); `map` holds link index and direction, in the order written. -/
structure SignRec where
  address : Nat
  node    : Nat
  map     : List (Nat × Nat)
  groups  : List Nat
deriving DecidableEq, Repr

/-- A complete plan, as the active bank holds it (R1, R17). -/
structure Plan where
  header  : Header
  nodes   : List NodeRec
  links   : List LinkRec
  zones   : List ZoneRec
  windows : List WindowRec
  exits   : List ExitRec
  signs   : List SignRec
deriving DecidableEq, Repr

/-- A list of records by index, indices strictly rising; an index not listed is absent. -/
abbrev Slots (α : Type) := List (Nat × α)

/-- The failure report of the FAILED stage (R1, R14). -/
structure FailureReport where
  reason  : CheckReason
  sect    : Section
  index   : Nat
deriving DecidableEq, Repr

/-- The staging bank (R1). -/
structure Staging where
  stage   : Stage
  failure : Option FailureReport
  header  : Slots Header
  nodes   : Slots NodeRec
  links   : Slots LinkRec
  zones   : Slots ZoneRec
  windows : Slots WindowRec
  exits   : Slots ExitRec
  signs   : Slots SignRec
deriving DecidableEq, Repr

/-- Plan memory (R20): the mark, the image's bytes, and the stored check value, 16 bits; `none` while no whole check
value stands beside the image: never written, or not yet written by a store (log entry 9). -/
structure PlanMemory where
  mark  : MemoryMark
  image : List Byte
  check : Option Nat
deriving DecidableEq, Repr

/-- The Plan Store. -/
structure PlanStore where
  active    : Option Plan
  staging   : Staging
  memory    : PlanMemory
  condition : MemoryCondition
  /-- The store-in-flight flag (R20). -/
  storing   : Bool
deriving DecidableEq, Repr

/-! ## Timers -/

/-- A timer: `none` idle, `some n` running with n tenth ticks left; `some 0` has reached its expiry, which the command
of that expiry then acts on (log entry 10). -/
abbrev Timer := Option Nat

/-! ## Detector Intake -/

/-- A contact channel (R31 to R34). -/
structure Channel where
  mode      : ContactMode
  address   : Nat
  /-- The accepted level; absent in OFF (R32). -/
  accepted  : Option ContactLevel
  candidate : Candidate
  /-- The width count of the closure being measured, absent while none is (R34). -/
  width     : Option Nat
deriving DecidableEq, Repr

/-- An entry of the pending report table (R37). -/
structure PendingEntry where
  address  : Nat
  zone     : Nat
  unmapped : Bool
  level    : Level
  sequence : Option Nat
  merged   : Nat
  peak     : Level
  tail     : Nat
  source   : Source
deriving DecidableEq, Repr

/-- Detector Intake: the lock machine (R26), the held panel id (R29), the contact channels and the pending table. -/
structure Intake where
  lock       : LockState
  validRun   : Nat
  invalidRun : Nat
  silence    : Timer
  panel      : Option Nat
  channels   : Vector Channel 8
  reports    : List PendingEntry
deriving DecidableEq, Repr

/-! ## Zone Hazard Unit -/

/-- A zone record (R46); `setting` is the copy of the plan's zone record. -/
structure ZoneRun where
  state     : ZoneState
  suspect   : Timer
  clearHold : Timer
  untracked : Bool
  setting   : ZoneRec
deriving DecidableEq, Repr

/-- A record of the detector table, less its address, which is its key (R42). -/
structure DetectorRec where
  zone         : Nat
  level        : Level
  lastSequence : Option Nat
  alarms       : Nat
  time         : Nat
deriving DecidableEq, Repr

/-- The evacuation clock (R63). -/
structure EvacClock where
  minutes : Nat
  seconds : Nat
  tenths  : Nat
  running : Bool
deriving DecidableEq, Repr

/-- The Zone Hazard Unit. -/
structure Hazard where
  zones       : List ZoneRun
  /-- The detector table, keyed by address (R42). -/
  detectors   : Slots DetectorRec
  /-- The entry of the take in progress (R41). -/
  take        : Option PendingEntry
  evac        : EvacState
  declaration : Bool
  clock       : EvacClock
deriving DecidableEq, Repr

/-! ## Route Solver -/

/-- A cost pair (R66). -/
structure Cost where
  x : Nat
  d : Nat
deriving DecidableEq, Repr

/-- A LIVE portal's advertisement (R135). -/
structure Advertisement where
  cost    : Cost
  hop     : Nat
  isHere  : Bool
  already : Bool
deriving DecidableEq, Repr

/-- The inputs of a running solve (R77): a weight per zone, a state per exit, and for each PORTAL exit its index and
its advertisement, absent when UNKNOWN. -/
structure Snapshot where
  weights : List Nat
  exits   : List ExitState
  portals : List (Nat × Option Advertisement)
deriving DecidableEq, Repr

/-- A node's working values (R75): cost, and origin exit and hop together. -/
structure NodeWork where
  cost  : Cost
  route : Option (Nat × Nat)
deriving DecidableEq, Repr

/-- The heading kind with what stands with it (R89). -/
inductive Choice
  | seed (origin hop : Nat)
  | link (index origin hop : Nat)
  | none
deriving DecidableEq, Repr

/-- A heading record (R89). -/
structure Heading where
  cost    : Cost
  choice  : Choice
  changed : Bool
deriving DecidableEq, Repr

/-- What is kept with a published set for an exit that gave a seed (R146): the seed cost, and whether its portal's
advertisement carried HERE or ALREADY. -/
structure SeedNote where
  exit    : Nat
  cost    : Cost
  isHere  : Bool
  already : Bool
deriving DecidableEq, Repr

/-- A published heading set with the seeds kept beside it (R89, R146). -/
structure HeadingSet where
  records : List Heading
  seeds   : List SeedNote
deriving DecidableEq, Repr

/-- The last-solve report (R75). -/
structure SolveReport where
  passes  : Nat
  limited : Bool
deriving DecidableEq, Repr

/-- The Route Solver (R75). -/
structure Solver where
  state             : SolverState
  wanted            : Bool
  stale             : Bool
  activationPending : Bool
  snapshot          : Option Snapshot
  nodes             : List NodeWork
  passes            : Nat
  published         : Option HeadingSet
  epoch             : Nat
  report            : Option SolveReport
  exits             : List ExitState
deriving DecidableEq, Repr

/-! ## Sign Line Controller -/

/-- A face (R97). -/
structure Face where
  symbol : FaceSymbol
  flash  : Flash
  level  : Nat
deriving DecidableEq, Repr

/-- A group record (R103). -/
structure GroupRec where
  enabled    : Bool
  cls        : GroupClass
  maskSymbol : Bool
  maskFlash  : Bool
  maskLevel  : Bool
  face       : Face
deriving DecidableEq, Repr

/-- A record of the sign runtime table (R111, R100). -/
structure SignRun where
  address   : Nat
  node      : Nat
  state     : SignState
  misses    : Nat
  lamp      : Option Lamp
  lastFace  : Option Face
  outcome   : SignOutcome
  composed  : Option Face
  /-- The composed face's flash is settled from the emphasis timer when the SHOW frame is built: the base face was an
  ARROW in ACTIVE and no group replaced its flash (R101, R118). -/
  flashOpen : Bool
  emphasis  : Timer
  lastBase  : Option FaceSymbol
deriving DecidableEq, Repr

/-- An entry of the cycle order (R117). -/
inductive OrderEntry | blank (address : Nat) | sign (index : Nat) deriving DecidableEq, Repr

/-- Whom a frame on the sign line is for: a sign of the runtime table; a sign of the plan that a swap has just replaced,
with its index, its record and its miss limit; an address being blanked; or every head (FALLBACK). -/
inductive Target
  | sign (index : Nat)
  | former (index : Nat) (record : SignRun) (limit : Nat)
  | blank
  | fallback
deriving DecidableEq, Repr

/-- How far a frame on the sign line has come: being sent; its window open, with the outcome decided so far; or the
exchange ended while a frame was still being received, which must end first (R120). -/
inductive ExchangePhase
  | sending
  | window (decided : Option SignOutcome)
  | drain
deriving DecidableEq, Repr

/-- The frame on the sign line (R118 to R120, R124, R125). -/
structure Exchange where
  target    : Target
  address   : Nat
  face      : Face
  epochByte : Nat
  phase     : ExchangePhase
deriving DecidableEq, Repr

/-- The heading set a cycle has adopted, with its epoch (R116). -/
structure Adopted where
  set   : HeadingSet
  epoch : Nat
deriving DecidableEq, Repr

/-- The Sign Line Controller (R111, R112, R103). Its line mark stands with the lines. -/
structure SignLine where
  signs         : List SignRun
  cycle         : CycleState
  startPending  : Bool
  cutPending    : Bool
  /-- A cycle is to start as soon as the frame on the line has ended (R128; log entry 21). -/
  startWaiting  : Bool
  number        : Nat
  adopted       : Option Adopted
  adoptedGroups : Option (Vector GroupRec 16)
  cycleEvac     : EvacState
  removal       : List Nat
  order         : List OrderEntry
  position      : Nat
  refresh       : Timer
  noRouteCount  : Nat
  groups        : Vector GroupRec 16
  exchange      : Option Exchange
deriving DecidableEq, Repr

/-! ## Peer Ports -/

/-- An ADVERT entry (R136). -/
structure AdvertEntry where
  exit    : Nat
  cost    : Cost
  hop     : Nat
  isHere  : Bool
  already : Bool
  unknown : Bool
deriving DecidableEq, Repr

/-- An ADVERT frame (R136). -/
structure Advert where
  station : Nat
  planId  : Nat
  entries : List AdvertEntry
deriving DecidableEq, Repr

/-- The frame a port is sending; `former` when it was begun under a plan that a swap has replaced (R148). -/
structure AdvertSending where
  frame  : Advert
  former : Bool
deriving DecidableEq, Repr

/-- A port record (R134). Its line mark stands with the lines. -/
structure PortRec where
  state       : PortState
  station     : Option Nat
  planId      : Option Nat
  age         : Timer
  advertise   : Timer
  spacing     : Timer
  sendPending : Bool
  sending     : Option AdvertSending
deriving DecidableEq, Repr

/-- A portal record (R135): freshness is LIVE exactly when an advertisement is held. -/
structure PortalRun where
  exit          : Nat
  advertisement : Option Advertisement
  lastSent      : Option AdvertEntry
deriving DecidableEq, Repr

/-- The Peer Ports. -/
structure Peers where
  a       : PortRec
  b       : PortRec
  portals : List PortalRun
deriving DecidableEq, Repr

/-! ## Message Port -/

/-- A request frame (R155): kind, tag and the rest of its body. -/
structure Request where
  kind   : Byte
  tag    : Byte
  fields : List Byte
deriving DecidableEq, Repr

/-- A reply (R157, R188): the bytes after its four leading ones are `fields`. -/
structure Reply where
  kind   : Byte
  tag    : Byte
  status : ReplyStatus
  fields : List Byte
deriving DecidableEq, Repr

/-- What a LINE_STATE notice says of its line (R170). -/
inductive LineCondition | lock (state : LockState) | port (state : PortState) deriving DecidableEq, Repr
/-- The cause of an OVERRUN notice (R170). -/
inductive OverrunCause | pendingTable (address : Nat) | messagePort deriving DecidableEq, Repr

/-- The body of a notice, one form per kind (R62, R54, R86, R108, R123, R142, R170). -/
inductive NoticeBody
  | evacState (prev new : EvacState) (declared : Bool) (cause : EvacCause)
  | zoneChange (zone : Nat) (prev new : ZoneState)
  | routePublished (epoch passes : Nat) (limited stale : Bool) (changed nones : Nat)
  | noRoute (epoch count node address : Nat)
  | signTrouble (index address : Nat) (state : SignState) (misses : Nat) (lamp : Option Lamp)
  | portalChange (port : PeerPort) (state : PortState) (live : Nat) (lowest : Option Nat)
  | faultCaptured (kind : FaultKind) (subject : Nat)
  | lineState (line : Nat) (condition : LineCondition) (panel : Option Nat)
  | planEvent (outcome : PlanOutcome) (planId : Nat) (failure : Option FailureReport)
  | overrun (cause : OverrunCause)
deriving DecidableEq, Repr

/-- What the Message Port records at a rise (R170). -/
structure NoticeEvent where
  body    : NoticeBody
  clock   : EvacClock
  seconds : Nat
deriving DecidableEq, Repr

/-- A notice kind's flag, enable and priority, and the event recorded while the flag is set (R170, R171). -/
structure KindRec where
  flag     : Bool
  enable   : Bool
  priority : Nat
  event    : Option NoticeEvent
deriving DecidableEq, Repr

/-- A notice on the notice list (R171). -/
structure Notice where
  kind     : NoticeKind
  priority : Nat
  event    : NoticeEvent
deriving DecidableEq, Repr

/-- What the message port's transmitter is sending (R172): nothing, the reply in the reply slot, or a notice frame with
the bytes of its body. -/
inductive Transmitter | idle | reply | notice (body : List Byte) deriving DecidableEq, Repr

/-- An effect that waits for its request's reply (R164, R167): a new format or the restart, before and after the last
character of that reply has been sent. -/
inductive Deferred
  | none
  | formatAfterReply (speed : Nat) (parity : Parity) (stop : Nat)
  | formatDue (speed : Nat) (parity : Parity) (stop : Nat)
  | restartAfterReply
  | restartDue
deriving DecidableEq, Repr

/-- The Message Port (R156, R170 to R172). -/
structure MessagePort where
  hand        : Option Request
  waiting     : Option Request
  reply       : Option Reply
  transmitter : Transmitter
  deferred    : Deferred
  kinds       : Vector KindRec 10
  threshold   : Nat
  notices     : List Notice
  lastReset   : ResetKind
deriving DecidableEq, Repr

/-! ## Fault Capture -/

/-- The fault record while it is valid (R175). -/
structure FaultRecord where
  kind    : FaultKind
  subject : Nat
  time    : Nat
deriving DecidableEq, Repr

/-- An event counter (R178). -/
structure Counter where
  input : CounterInput
  value : Nat
deriving DecidableEq, Repr

/-- Fault Capture (R175, R178 to R180). -/
structure FaultCapture where
  record        : Option FaultRecord
  multipleMinor : Bool
  multipleMajor : Bool
  ignoreMinor   : Bool
  tallies       : Vector Nat 13
  counters      : Vector Counter 2
  outputs       : Vector Signal 4
  /-- The fault output mask: for each kind, whether FAULT_PRESENT disregards it (R180). -/
  mask          : Vector Bool 13
deriving DecidableEq, Repr

/-! ## Timebase and lines -/

/-- The Timebase (R64): the step of the tenth-tick pattern, 0 to 9, and the seconds since reset. -/
structure Timebase where
  step    : Nat
  seconds : Nat
deriving DecidableEq, Repr

/-- A line format (R154). -/
structure Format where
  speed  : Nat
  parity : Parity
  stop   : Nat
deriving DecidableEq, Repr

/-- A serial line: the format stored, the format its receiver and transmitter use, its mark, and the characters its
receiver retains since the SYNC it is working on (R154, R183). Line 0 has no mark; its mark stays RUNNING. -/
structure LineRec where
  format : Format
  inUse  : Format
  mark   : LineMark
  rx     : List RxChar
deriving DecidableEq, Repr

/-- The five serial lines (8.1). -/
structure Lines where
  message  : LineRec
  detector : LineRec
  sign     : LineRec
  peerA    : LineRec
  peerB    : LineRec
deriving DecidableEq, Repr

/-- Whether the part runs (log entries 6 and 8): without supply; the reset line held active; the start-up load under
way; or running. -/
inductive Phase | off | held | loading | running deriving DecidableEq, Repr

end Sys2Proof.Machine
end

