-- ==== Sys2Proof/Machine/Bytes.lean ====
section
/-! DEFINITION. Numbers as bytes and bytes as numbers, and the named codes of R186. -/

namespace Sys2Proof.Machine

/-! ## Bytes (R186: most significant byte first; an absent value is all ones) -/

/-- A number as one byte. -/
def byte1 (n : Nat) : Byte := BitVec.ofNat 8 n

/-- A number as two bytes. -/
def byte2 (n : Nat) : List Byte := [byte1 (n / 256), byte1 n]

/-- A number as three bytes. -/
def byte3 (n : Nat) : List Byte := byte1 (n / 65536) :: byte2 n

/-- A number as four bytes. -/
def byte4 (n : Nat) : List Byte := byte2 (n / 65536) ++ byte2 n

/-- A flag or yes/no byte. -/
def flagByte (b : Bool) : Byte := if b then 1 else 0

/-- The byte of all ones. -/
def onesByte : Byte := 0xFF

/-- One byte, all ones when absent. -/
def optByte1 : Option Nat → Byte
  | some n => byte1 n
  | none => onesByte

/-- A timer in three bytes, all ones when idle. -/
def timerBytes : Timer → List Byte
  | some n => byte3 n
  | none => [onesByte, onesByte, onesByte]

/-- The number two bytes stand for. -/
def num2 (h l : Byte) : Nat := h.toNat * 256 + l.toNat

/-- The number three bytes stand for. -/
def num3 (h m l : Byte) : Nat := h.toNat * 65536 + num2 m l

/-- `k` free bytes from index `base` on (R186's fields with a present byte, when absent; log entry 12). -/
def freeBytes (base k : Nat) : List Byte :=
  (List.range k).map fun i => Config.freeByte (base + i)

/-! ## Codes sent (R186) -/

def levelCode : Level → Nat
  | .normal => 0 | .fault => 1 | .prealarm => 2 | .alarm => 3

def zoneStateCode : ZoneState → Nat
  | .clear => 0 | .suspect => 1 | .smoke => 2 | .clearing => 3

def evacStateCode : EvacState → Nat
  | .quiet => 0 | .alert => 1 | .active => 2

def evacCauseCode : EvacCause → Nat
  | .zone _ => 0 | .evacuate => 1 | .standDown => 2 | .plan => 3

def exitStateCode : ExitState → Nat
  | .opened => 0 | .restricted => 1 | .closed => 2

def passageCode : Passage → Nat
  | .both => 0 | .aToB => 1 | .bToA => 2

def portCode : PeerPort → Nat
  | .a => 0 | .b => 1

def timeUnitCode : TimeUnit → Nat
  | .tenth => 0 | .second => 1 | .tenSeconds => 2 | .minute => 3

def flashCode : Flash → Nat
  | .steady => 0 | .slow => 1 | .fast => 2

def symbolCode : FaceSymbol → Nat
  | .arrow _ => 0 | .exitHere => 1 | .noRoute => 2 | .blank => 3 | .test => 4

def groupClassCode : GroupClass → Nat
  | .normal => 0 | .service => 1

def solverStateCode : SolverState → Nat
  | .idle => 0 | .solving => 1

def cycleStateCode : CycleState → Nat
  | .dormant => 0 | .idle => 1 | .cycling => 2

def signStateCode : SignState → Nat
  | .unseen => 0 | .online => 1 | .missing => 2 | .lost => 3 | .faulty => 4

def lampCode : Lamp → Nat
  | .ok => 0 | .part => 1 | .failed => 2

def signOutcomeCode : SignOutcome → Nat
  | .none => 0 | .taken => 1 | .noReply => 2 | .charError => 3 | .echoMismatch => 4

def lockStateCode : LockState → Nat
  | .silent => 0 | .seeking => 1 | .locked => 2

def portStateCode : PortState → Nat
  | .down => 0 | .up => 1 | .miswired => 2

def lineMarkCode : LineMark → Nat
  | .running => 0 | .halted => 1

def sourceCode : Source → Nat
  | .line => 0 | .contact n => 1 + n

def sectionCode : Section → Nat
  | .header => 0 | .nodes => 1 | .links => 2 | .zones => 3 | .windows => 4 | .exits => 5 | .signs => 6

def bankCode : Bank → Nat
  | .active => 0 | .staging => 1

def stageCode : Stage → Nat
  | .empty => 0 | .opened => 1 | .checking => 2 | .passed => 3 | .failed => 4 | .activating => 5

def memoryConditionCode : MemoryCondition → Nat
  | .blank => 0 | .good => 1 | .bad => 2

/-- The numbers 1 to 16 of the check table (R15). -/
def checkReasonCode : CheckReason → Nat
  | .sectionMissing => 1 | .countRange => 2 | .linkEndpoint => 3 | .linkZone => 4 | .nodeDegree => 5
  | .windowAlign => 6 | .windowOverlap => 7 | .windowZone => 8 | .exitNode => 9 | .portalCount => 10
  | .portalPort => 11 | .signAddress => 12 | .signNode => 13 | .signMap => 14 | .signGroup => 15 | .noExit => 16

def planOutcomeCode : PlanOutcome → Nat
  | .passed => 0 | .failed => 1 | .activated => 2 | .stored => 3 | .storeFailed => 4

def replyStatusCode : ReplyStatus → Nat
  | .ok => 0 | .clamped => 1 | .unknownKind => 2 | .badLength => 3 | .badValue => 4 | .busy => 5 | .refused => 6
  | .noPlan => 7 | .wrongStage => 8

/-- Place in the fault table of R175, which is also the fault's code. -/
def FaultKind.idx : FaultKind → Fin 13
  | .planStoreFault => 0 | .detectorLineLost => 1 | .intakeOverrun => 2 | .detectorTableFull => 3 | .signLost => 4
  | .signLampFault => 5 | .portMiswired => 6 | .peerDown => 7 | .unmappedDetector => 8 | .sequenceGap => 9
  | .lineCharError => 10 | .signReplyError => 11 | .portFrameDropped => 12

/-- A fault kind's class (R175). -/
def faultClassOf : FaultKind → FaultClass
  | .planStoreFault | .detectorLineLost | .intakeOverrun | .detectorTableFull | .signLost | .signLampFault
  | .portMiswired | .peerDown => .major
  | .unmappedDetector | .sequenceGap | .lineCharError | .signReplyError | .portFrameDropped => .minor

def faultClassCode : FaultClass → Nat
  | .minor => 0 | .major => 1

/-- Place in the notice table of R170, from 0; the notice's number is one more. -/
def NoticeKind.idx : NoticeKind → Fin 10
  | .evacState => 0 | .zoneChange => 1 | .routePublished => 2 | .noRoute => 3 | .signTrouble => 4
  | .portalChange => 5 | .faultCaptured => 6 | .lineState => 7 | .planEvent => 8 | .overrun => 9

/-- The notice kinds' numbers, 1 to 10 (R170). -/
def noticeKindCode (k : NoticeKind) : Nat := k.idx.val + 1

def counterInputCode : CounterInput → Nat
  | .solveDone => 0 | .solveStale => 1 | .headingChange => 2 | .showSent => 3 | .replyMissed => 4
  | .cycleOverrun => 5 | .cycleCut => 6 | .reportTaken => 7 | .reportMerged => 8 | .reportDropped => 9
  | .advertSent => 10 | .advertTaken => 11

def signalCode : Signal → Nat
  | .off => 0 | .evacActive => 1 | .alertOrActive => 2 | .anySmoke => 3 | .noRoutePresent => 4 | .signTrouble => 5
  | .portalUnknown => 6 | .faultPresent => 7 | .detectorNotLocked => 8 | .planAbsent => 9 | .solving => 10
  | .noticePending => 11

def parityCode : Parity → Nat
  | .none => 0 | .even => 1 | .odd => 2 | .zero => 3

def contactModeCode : ContactMode → Nat
  | .off => 0 | .levelOpenAlarm => 1 | .levelClosedAlarm => 2 | .pulse => 3

def contactLevelCode : ContactLevel → Nat
  | .opened => 0 | .closed => 1

def resetKindCode : ResetKind → Nat
  | .powerOn => 0 | .resetLine => 1 | .restart => 2

/-! ## Codes received (R186): `none` when the code names nothing -/

def levelOf : Nat → Option Level
  | 0 => some .normal | 1 => some .fault | 2 => some .prealarm | 3 => some .alarm | _ => none

def exitStateOf : Nat → Option ExitState
  | 0 => some .opened | 1 => some .restricted | 2 => some .closed | _ => none

def passageOf : Nat → Option Passage
  | 0 => some .both | 1 => some .aToB | 2 => some .bToA | _ => none

def portOf : Nat → Option PeerPort
  | 0 => some .a | 1 => some .b | _ => none

def timeUnitOf : Nat → Option TimeUnit
  | 0 => some .tenth | 1 => some .second | 2 => some .tenSeconds | 3 => some .minute | _ => none

def flashOf : Nat → Option Flash
  | 0 => some .steady | 1 => some .slow | 2 => some .fast | _ => none

def groupClassOf : Nat → Option GroupClass
  | 0 => some .normal | 1 => some .service | _ => none

def lampOf : Nat → Option Lamp
  | 0 => some .ok | 1 => some .part | 2 => some .failed | _ => none

def sectionOf : Nat → Option Section
  | 0 => some .header | 1 => some .nodes | 2 => some .links | 3 => some .zones | 4 => some .windows
  | 5 => some .exits | 6 => some .signs | _ => none

def bankOf : Nat → Option Bank
  | 0 => some .active | 1 => some .staging | _ => none

def noticeKindOf : Nat → Option NoticeKind
  | 1 => some .evacState | 2 => some .zoneChange | 3 => some .routePublished | 4 => some .noRoute
  | 5 => some .signTrouble | 6 => some .portalChange | 7 => some .faultCaptured | 8 => some .lineState
  | 9 => some .planEvent | 10 => some .overrun | _ => none

def counterInputOf : Nat → Option CounterInput
  | 0 => some .solveDone | 1 => some .solveStale | 2 => some .headingChange | 3 => some .showSent
  | 4 => some .replyMissed | 5 => some .cycleOverrun | 6 => some .cycleCut | 7 => some .reportTaken
  | 8 => some .reportMerged | 9 => some .reportDropped | 10 => some .advertSent | 11 => some .advertTaken
  | _ => none

def signalOf : Nat → Option Signal
  | 0 => some .off | 1 => some .evacActive | 2 => some .alertOrActive | 3 => some .anySmoke
  | 4 => some .noRoutePresent | 5 => some .signTrouble | 6 => some .portalUnknown | 7 => some .faultPresent
  | 8 => some .detectorNotLocked | 9 => some .planAbsent | 10 => some .solving | 11 => some .noticePending
  | _ => none

def parityOf : Nat → Option Parity
  | 0 => some .none | 1 => some .even | 2 => some .odd | 3 => some .zero | _ => none

def contactModeOf : Nat → Option ContactMode
  | 0 => some .off | 1 => some .levelOpenAlarm | 2 => some .levelClosedAlarm | 3 => some .pulse | _ => none

/-- A yes/no code that names nothing when it is neither 0 nor 1 (R186). -/
def strictFlagOf : Nat → Option Bool
  | 0 => some false | 1 => some true | _ => none

/-- A flag or present byte read as set when it is not 0 (R186). -/
def looseFlag (b : Byte) : Bool := decide (b ≠ 0)

/-- The speeds of R154. -/
def speeds : List Nat := [1200, 2400, 4800, 9600, 19200, 38400, 57600, 115200]

/-- A speed of R154. -/
def speedOf (n : Nat) : Option Nat := if speeds.contains n then some n else none

/-- A stop-bit count of R154. -/
def stopOf (n : Nat) : Option Nat := if n = 1 ∨ n = 2 then some n else none

/-- A symbol with the direction byte that goes with it; the direction is looked at with ARROW only (R104). -/
def symbolOf (sym dir : Nat) : Option FaceSymbol :=
  match sym with
  | 0 => if dir ≤ 7 then some (.arrow dir) else none
  | 1 => some .exitHere
  | 2 => some .noRoute
  | 3 => some .blank
  | 4 => some .test
  | _ => none

/-! ## Composite values (R186) -/

/-- A face in four bytes. -/
def faceBytes (f : Face) : List Byte :=
  let dir : Byte := match f.symbol with
    | .arrow d => byte1 d
    | _ => onesByte
  [byte1 (symbolCode f.symbol), dir, byte1 (flashCode f.flash), byte1 f.level]

/-- A face in four bytes, all ones when absent. -/
def optFaceBytes : Option Face → List Byte
  | some f => faceBytes f
  | none => [onesByte, onesByte, onesByte, onesByte]

/-- A cost in four bytes, X then D. -/
def costBytes (c : Cost) : List Byte := byte2 c.x ++ byte2 c.d

/-- An ADVERT flags byte: 1 for HERE, 2 for ALREADY, 4 for UNKNOWN. -/
def advertFlags (isHere already unknown : Bool) : Nat :=
  (if isHere then 1 else 0) + (if already then 2 else 0) + (if unknown then 4 else 0)

/-- An ADVERT entry in seven bytes (R187). -/
def entryBytes (e : AdvertEntry) : List Byte :=
  byte1 e.exit :: costBytes e.cost ++ [byte1 e.hop, byte1 (advertFlags e.isHere e.already e.unknown)]

end Sys2Proof.Machine
end

