-- ==== Sys2Proof/Machine/Framing.lean ====
section
/-! DEFINITION. Frames and characters (R182 to R185), and the bodies of the frames the part sends on the field lines
(R187). -/

namespace Sys2Proof.Machine

/-! ## The check value (R182) -/

/-- One bit of the CRC-16 of x¹⁶+x¹²+x⁵+1, most significant bit first. -/
def crcShift (c : Nat) : Nat :=
  if c < 32768 then c * 2 else (c * 2 - 65536) ^^^ 0x1021

/-- One byte taken into the CRC-16. -/
def crcByte (c : Nat) (b : Byte) : Nat :=
  crcShift (crcShift (crcShift (crcShift (crcShift (crcShift (crcShift (crcShift (c ^^^ (b.toNat * 256)))))))))

/-- The CRC-16 of a byte sequence: initial value all ones, no reflection, no final inversion. -/
def crc16 (bytes : List Byte) : Nat := bytes.foldl crcByte 0xFFFF

/-- The SYNC byte. -/
def syncByte : Byte := 0xA5

/-- A frame on a line: SYNC, LENGTH, body, check value. -/
def frameBytes (body : List Byte) : List Byte :=
  let counted := byte1 body.length :: body
  syncByte :: counted ++ byte2 (crc16 counted)

/-! ## Characters (R184) -/

/-- Whether the count of ones among the data bits is odd. -/
def oddOnes (b : Byte) : Bool :=
  (List.range 8).foldl (fun acc i => xor acc (b.getLsbD i)) false

/-- A character as the part sends it in a format. -/
def sendChar (f : Format) (b : Byte) : RxChar :=
  let parity := match f.parity with
    | .even => oddOnes b
    | .odd => !oddOnes b
    | .none | .zero => false
  { data := b, parity := parity, stop := true }

/-- The characters of a frame in a format. -/
def frameChars (f : Format) (body : List Byte) : List RxChar :=
  (frameBytes body).map (sendChar f)

/-- The levels of a character on a line that is otherwise at the level of a stop bit, in the order in which they are
sent: the start bit, the data bits least significant first, the parity bit unless the parity is NONE, and the stop bits
of the format. -/
def charLevels (f : Format) (b : Byte) : List Bool :=
  let c := sendChar f b
  [false] ++ (List.range 8).map c.data.getLsbD ++ (if f.parity = .none then [] else [c.parity]) ++
    List.replicate f.stop c.stop

/-- The levels of a whole frame in a format. -/
def frameLevels (f : Format) (body : List Byte) : List Bool := (frameBytes body).flatMap (charLevels f)

/-- A byte of its bits, the least significant first. -/
def byteOfBits (bits : List Bool) : Byte :=
  byte1 (bits.foldr (fun bit n => n * 2 + bit.toNat) 0)

/-- What a receiver reads in a format from the levels of one character, the start bit first: the data, the parity bit if
there is one, and the first stop bit, the only one it looks at. No character begins without a start bit. -/
def readChar (f : Format) (levels : List Bool) : Option RxChar :=
  match levels with
  | false :: rest =>
    let after := rest.drop 8
    if f.parity = .none then
      after.head?.map fun stop => { data := byteOfBits (rest.take 8), parity := false, stop := stop }
    else
      match after with
      | parity :: stop :: _ => some { data := byteOfBits (rest.take 8), parity := parity, stop := stop }
      | _ => none
  | _ => none

/-- A framing error, or a parity error where the parity is EVEN or ODD. -/
def charError (f : Format) (c : RxChar) : Bool :=
  !c.stop || match f.parity with
    | .even => xor c.parity (oddOnes c.data)
    | .odd => !xor c.parity (oddOnes c.data)
    | .none | .zero => false

/-- Bits in one character of a format. -/
def charBits (f : Format) : Nat :=
  1 + 8 + (if f.parity = .none then 0 else 1) + f.stop

/-- A character time in cycles of the crystal, which every speed divides. -/
def charCycles (f : Format) : Nat := charBits f * (Config.characterCrystal / f.speed)

/-- Whether the gap rule aborts a frame when so many cycles of the crystal have passed since its last character (R183).
FRAME_GAP_ABORT stands for the moment at which this comes to hold (log entry 36). -/
def gapAborts (f : Format) (cycles : Nat) : Bool := decide (10 * charCycles f < cycles)

/-! ## Receiving (R183)

A receiver is the list of characters it retains, the SYNC it is working on first; an empty list is HUNT. -/

/-- What a receiver hands on: a frame with a correct check value, or word of one discarded for a wrong one. `err` says
that some character of it had a parity or framing error. -/
inductive RxEvent
  | frame (body : List Byte) (err : Bool)
  | badCheck (err : Bool)
deriving DecidableEq, Repr

/-- What the characters after a SYNC amount to. -/
inductive FrameTry
  | noFrame                                   -- the LENGTH byte is 0 or 251 to 255
  | incomplete
  | complete (body : List Byte) (err : Bool) (rest : Nat)   -- `rest`: characters of the frame after the SYNC
  | wrong (err : Bool)
deriving DecidableEq, Repr

/-- The characters after a SYNC, tried as a frame. -/
def tryFrame (f : Format) (after : List RxChar) : FrameTry :=
  match after with
  | [] => .incomplete
  | lenChar :: tail =>
    let n := lenChar.data.toNat
    if n = 0 ∨ 250 < n then .noFrame
    else if tail.length < n + 2 then .incomplete
    else
      let chars := lenChar :: tail.take (n + 2)
      let err := chars.any (charError f)
      let body := (tail.take n).map (·.data)
      let check := (tail.drop n).take 2 |>.map (·.data)
      if check = byte2 (crc16 (lenChar.data :: body)) then .complete body err (n + 3) else .wrong err

/-- Works through retained characters from HUNT: `skip` more of them belong to a frame already handed on. Gives what is
handed on and what stays retained. A SYNC with an error is hunted over; after a wrong check value or an impossible
LENGTH, hunting resumes at the character after the SYNC. -/
def scan (f : Format) (skip : Nat) (chars : List RxChar) : List RxEvent × List RxChar :=
  match chars with
  | [] => ([], [])
  | c :: rest =>
    match skip with
    | k + 1 => scan f k rest
    | 0 =>
      if c.data = syncByte && !charError f c then
        match tryFrame f rest with
        | .incomplete => ([], c :: rest)
        | .noFrame => scan f 0 rest
        | .wrong err =>
          let r := scan f 0 rest
          (.badCheck err :: r.1, r.2)
        | .complete body err k =>
          let r := scan f k rest
          (.frame body err :: r.1, r.2)
      else scan f 0 rest

/-- One character into a receiver. -/
def receiveChar (f : Format) (retained : List RxChar) (c : RxChar) : List RxEvent × List RxChar :=
  scan f 0 (retained ++ [c])

/-- Whether a character in error stands in a frame: it is not hunted over, and it is not a LENGTH that begins none
(R183). -/
def errorInFrame (f : Format) (retained : List RxChar) (c : RxChar) : Bool :=
  charError f c && match retained with
    | [] => false
    | [_] => decide (1 ≤ c.data.toNat ∧ c.data.toNat ≤ 250)
    | _ => true

/-! ## Bodies the part sends on the field lines (R187) -/

/-- SHOW, and BLANK to a removed address. -/
def showBody (address : Nat) (face : Face) (epochByte : Nat) : List Byte :=
  [0x20, byte1 address] ++ faceBytes face ++ [byte1 epochByte]

/-- FALLBACK, to the broadcast address 255. -/
def fallbackBody : List Byte := [0x22, 0xFF]

/-- ADVERT. -/
def advertBody (a : Advert) : List Byte :=
  [0x30, byte1 a.station] ++ byte2 a.planId ++ [byte1 a.entries.length] ++ a.entries.flatMap entryBytes

end Sys2Proof.Machine
end

