-- ==== Sys2Proof/Machine/State.lean ====
section
/-! DEFINITION. The state of the part, by block as 00_scope.md names the blocks, and the state after reset. -/

namespace Sys2Proof.Machine

/-- Why a command stops with a fault: nothing in the manual stops the part, so there is no reason. -/
inductive Fault
deriving DecidableEq, Repr

/-- Why a command is refused. -/
inductive Refusal
  /-- Raised by `exec` alone, for a command that has no meaning yet (safe: the model stops). No arm raises it. -/
  | notModelled (mnemonic : String)
deriving DecidableEq, Repr

/-- The whole state. -/
structure State where
  /-- The commands that are waiting, first in, first out: the model's own. -/
  pending : List Instr
  phase   : Phase
  ps      : PlanStore
  di      : Intake
  zh      : Hazard
  rsv     : Solver
  slc     : SignLine
  pp      : Peers
  mp      : MessagePort
  fc      : FaultCapture
  tb      : Timebase
  lines   : Lines
  /-- The index of the next free value: the model's own (log entry 12). -/
  free    : Nat
deriving DecidableEq, Repr

/-! ## Values after reset -/

/-- The staging bank after every reset (R1). -/
def stagingEmpty : Staging :=
  { stage := .empty, failure := none, header := [], nodes := [], links := [], zones := [], windows := [], exits := [],
    signs := [] }

/-- A contact channel after power-on and the reset line (R31). -/
def channelOff : Channel :=
  { mode := .off, address := 0, accepted := none, candidate := .absent, width := none }

/-- The evacuation clock after every reset (R63). -/
def clockZero : EvacClock :=
  { minutes := 0, seconds := 0, tenths := 0, running := false }

/-- A group record after every reset (R103). -/
def groupReset : GroupRec :=
  { enabled := false, cls := .normal, maskSymbol := false, maskFlash := false, maskLevel := false,
    face := { symbol := .blank, flash := .steady, level := 0 } }

/-- A port record after reset with no plan active (R134). -/
def portReset : PortRec :=
  { state := .down, station := none, planId := none, age := none, advertise := none, spacing := none,
    sendPending := false, sending := none }

/-- A notice kind's record after power-on: flag clear, enable and priority as the table of R170 gives. -/
def kindReset (enable : Bool) (priority : Nat) : KindRec :=
  { flag := false, enable := enable, priority := priority, event := none }

/-- The ten kinds after power-on, in the order of R170. -/
def kindsReset : Vector KindRec 10 :=
  #v[kindReset true 3, kindReset true 2, kindReset false 1, kindReset true 3, kindReset true 2, kindReset true 2,
     kindReset true 1, kindReset true 1, kindReset true 1, kindReset true 1]

/-- Fault Capture after power-on and the reset line (R175, R178, R179, R180). -/
def faultReset : FaultCapture :=
  { record := none, multipleMinor := false, multipleMajor := false, ignoreMinor := false,
    tallies := #v[0, 0, 0, 0, 0, 0, 0, 0, 0, 0, 0, 0, 0],
    counters := #v[{ input := .solveDone, value := 0 }, { input := .replyMissed, value := 0 }],
    outputs := #v[.evacActive, .faultPresent, .noticePending, .planAbsent],
    mask := #v[false, false, false, false, false, false, false, false, false, false, false, false, false] }

/-- A line after power-on: RUNNING in the given format, receiver hunting with nothing retained (R154, R183). -/
def lineReset (speed : Nat) (parity : Parity) : LineRec :=
  { format := { speed := speed, parity := parity, stop := 1 }, inUse := { speed := speed, parity := parity, stop := 1 },
    mark := .running, rx := [] }

/-- The five lines after power-on and the reset line (R154). -/
def linesReset : Lines :=
  { message := lineReset 38400 .even, detector := lineReset 9600 .even, sign := lineReset 57600 .none,
    peerA := lineReset 38400 .odd, peerB := lineReset 38400 .odd }

/-- The part after power-on with plan memory never written, its start-up load ended (R21, mark BLANK): every block at
its values after reset (log entry 7). -/
def State.reset : State :=
  { pending := []
    phase := .running
    ps := { active := none, staging := stagingEmpty, memory := { mark := .blank, image := [], check := none },
            condition := .blank, storing := false }
    di := { lock := .silent, validRun := 0, invalidRun := 0, silence := none, panel := none,
            channels := #v[channelOff, channelOff, channelOff, channelOff, channelOff, channelOff, channelOff,
              channelOff],
            reports := [] }
    zh := { zones := [], detectors := [], take := none, evac := .quiet, declaration := false, clock := clockZero }
    rsv := { state := .idle, wanted := false, stale := false, activationPending := false, snapshot := none,
             nodes := [], passes := 0, published := none, epoch := 0, report := none, exits := [] }
    slc := { signs := [], cycle := .idle, startPending := false, cutPending := false, startWaiting := false,
             number := 0, adopted := none, adoptedGroups := none, cycleEvac := .quiet, removal := [], order := [],
             position := 0, refresh := some 5, noRouteCount := 0,
             groups := #v[groupReset, groupReset, groupReset, groupReset, groupReset, groupReset, groupReset,
               groupReset, groupReset, groupReset, groupReset, groupReset, groupReset, groupReset, groupReset,
               groupReset],
             exchange := none }
    pp := { a := portReset, b := portReset, portals := [] }
    mp := { hand := none, waiting := none, reply := none, transmitter := .idle, deferred := .none,
            kinds := kindsReset, threshold := 1, notices := [], lastReset := .powerOn }
    fc := faultReset
    tb := { step := 0, seconds := 0 }
    lines := linesReset
    free := 0 }

end Sys2Proof.Machine
end

