-- ==== Sys2Proof/Machine/Ops.lean ====
section
/-! DEFINITION. The named operations shared by the blocks: record slots, timers and settings, lines, plan look-ups. -/

namespace Sys2Proof.Machine

/-! ## Record slots (R1): kept by rising index -/

/-- The record at an index. -/
def slotGet {α : Type} (slots : Slots α) (i : Nat) : Option α :=
  match slots with
  | [] => none
  | (j, r) :: rest => if j = i then some r else slotGet rest i

/-- Writes a record at an index, replacing any record there. -/
def slotPut {α : Type} (slots : Slots α) (i : Nat) (x : α) : Slots α :=
  match slots with
  | [] => [(i, x)]
  | (j, r) :: rest =>
    if i < j then (i, x) :: (j, r) :: rest
    else if i = j then (i, x) :: rest
    else (j, r) :: slotPut rest i x

/-- Removes the record at an index. -/
def slotErase {α : Type} (slots : Slots α) (i : Nat) : Slots α :=
  slots.filter fun p => p.1 ≠ i

/-- Writes consecutive records from an index on. -/
def slotPutAll {α : Type} (slots : Slots α) (first : Nat) (xs : List α) : Slots α :=
  match xs with
  | [] => slots
  | x :: rest => slotPutAll (slotPut slots first x) (first + 1) rest

/-- The present records at indices below a count. -/
def slotDense {α : Type} (slots : Slots α) (count : Nat) : List α :=
  (List.range count).filterMap (slotGet slots)

/-- The indices rise strictly, so that each index is listed at most once. -/
def slotsWf {α : Type} (slots : Slots α) : Bool :=
  match slots with
  | [] => true
  | (i, _) :: rest => rest.all (fun p => decide (i < p.1)) && slotsWf rest

/-! ## Eight channels and sixteen groups -/

/-- The map of a vector, by index. -/
def vecMap {α β : Type} {n : Nat} (f : α → β) (v : Vector α n) : Vector β n :=
  Vector.ofFn fun i => f v[i]

/-! ## Timers and timing settings (R3, R65) -/

/-- Tenth ticks in one count of a unit (R3). -/
def unitTicks : TimeUnit → Nat
  | .tenth => 1 | .second => 10 | .tenSeconds => 100 | .minute => 600

/-- The tenth ticks a timing setting gives (R3). -/
def timingTicks (t : Timing) : Nat := t.count * unitTicks t.unit

/-- One tenth tick taken by a timer (R65). -/
def tickTimer : Timer → Timer
  | some (n + 1) => some n
  | t => t

/-- A timer has reached its expiry (R65). -/
def timerDue (t : Timer) : Bool := decide (t = some 0)

/-- Suspect time in tenth ticks. -/
def suspectTicks (s : State) : Nat :=
  match s.ps.active with
  | some p => timingTicks p.header.suspect
  | none => 600

/-- Clear-hold time in tenth ticks. -/
def clearHoldTicks (s : State) : Nat :=
  match s.ps.active with
  | some p => timingTicks p.header.clearHold
  | none => 1200

/-- Supervision silence in tenth ticks; 3 SECOND with no plan active (R22, R26). -/
def silenceTicks (s : State) : Nat :=
  match s.ps.active with
  | some p => timingTicks p.header.silence
  | none => 30

/-- The refresh timer as it is started or reloaded: the refresh interval, idle when its count is 0, and 5 TENTH with no
plan active (R3, R113). -/
def refreshSetting (s : State) : Timer :=
  match s.ps.active with
  | some p => if p.header.refresh.count = 0 then none else some (timingTicks p.header.refresh)
  | none => some 5

/-- Whether cycles follow one another without the refresh timer: refresh interval with count 0 (R3, R126). -/
def backToBack (s : State) : Bool :=
  match s.ps.active with
  | some p => decide (p.header.refresh.count = 0)
  | none => false

/-- Advertise interval in tenth ticks. -/
def advertiseTicks (s : State) : Nat :=
  match s.ps.active with
  | some p => timingTicks p.header.advertise
  | none => 10

/-- Portal age limit in tenth ticks. -/
def ageTicks (s : State) : Nat :=
  match s.ps.active with
  | some p => timingTicks p.header.ageLimit
  | none => 50

/-- Advert minimum spacing in tenth ticks. -/
def spacingTicks (s : State) : Nat :=
  match s.ps.active with
  | some p => timingTicks p.header.spacing
  | none => 2

/-! ## Lines (R154) -/

/-- A line's record. -/
def lineGet (l : Lines) : LineId → LineRec
  | .message => l.message
  | .detector => l.detector
  | .sign => l.sign
  | .peerA => l.peerA
  | .peerB => l.peerB

/-- Replaces a line's record. -/
def lineSet (l : Lines) (id : LineId) (r : LineRec) : Lines :=
  match id with
  | .message => { l with message := r }
  | .detector => { l with detector := r }
  | .sign => { l with sign := r }
  | .peerA => { l with peerA := r }
  | .peerB => { l with peerB := r }

/-- Changes one line's record in the state. -/
def State.onLine (s : State) (id : LineId) (f : LineRec → LineRec) : State :=
  { s with lines := lineSet s.lines id (f (lineGet s.lines id)) }

/-- The line of a peer port. -/
def portLine : PeerPort → LineId
  | .a => .peerA
  | .b => .peerB

/-- A line's number (8.1). -/
def lineNumber : LineId → Nat
  | .message => 0 | .detector => 1 | .sign => 2 | .peerA => 3 | .peerB => 4

/-- A peer port's line number. -/
def portNumber (p : PeerPort) : Nat := lineNumber (portLine p)

/-- A line's mark. -/
def State.mark (s : State) (id : LineId) : LineMark := (lineGet s.lines id).mark

/-! ## Looking into the active plan -/

/-- The zone to which the windows map an address (R36). -/
def decodeZone (p : Plan) (address : Nat) : Option Nat :=
  (p.windows.find? fun w => decide (w.base ≤ address ∧ address < w.base + w.size)).map (·.zone)

/-- The active plan's id, 0 with no plan (R1). -/
def activePlanId (s : State) : Nat :=
  match s.ps.active with
  | some p => p.header.planId
  | none => 0

/-- The expected station id of a port in a header (R2). -/
def expectedId (h : Header) : PeerPort → Nat
  | .a => h.expectedA
  | .b => h.expectedB

/-- A port is in use when a plan is active and its expected station id is 1 to 15 (R134). -/
def portInUse (s : State) (port : PeerPort) : Bool :=
  match s.ps.active with
  | some p => decide (expectedId p.header port ≠ 0)
  | none => false

/-- A port's record. -/
def portGet (p : Peers) : PeerPort → PortRec
  | .a => p.a
  | .b => p.b

/-- Changes one port's record in the state. -/
def State.onPort (s : State) (port : PeerPort) (f : PortRec → PortRec) : State :=
  match port with
  | .a => { s with pp := { s.pp with a := f s.pp.a } }
  | .b => { s with pp := { s.pp with b := f s.pp.b } }

/-- The portal fields of an exit of a plan. -/
def portalOf (p : Plan) (exit : Nat) : Option PortalFields :=
  match p.exits[exit]? with
  | some e => e.portal
  | none => none

/-- Whether an exit of a plan is a PORTAL on a port. -/
def onPort (p : Plan) (exit : Nat) (port : PeerPort) : Bool :=
  match portalOf p exit with
  | some f => decide (f.port = port)
  | none => false

/-! ## Headings of a set -/

/-- The heading of a node in a set; NONE where there is no record. -/
def headingAt (set : HeadingSet) (node : Nat) : Heading :=
  set.records.getD node { cost := { x := 65535, d := 65535 }, choice := .none, changed := false }

/-- Whether a node's heading is NONE. -/
def isNone (set : HeadingSet) (node : Nat) : Bool :=
  decide ((headingAt set node).choice = .none)

/-- The nodes of kind NONE at which a sign stands, rising (R108). -/
def signedNone (p : Plan) (set : HeadingSet) : List Nat :=
  (List.range p.header.nodeCount).filter fun n => isNone set n && p.signs.any fun g => decide (g.node = n)

end Sys2Proof.Machine
end

