-- ==== Sys2Proof/Machine/Operands.lean ====
section
/-! DEFINITION. How the operands of requests are read: quantities that are clamped, plan records (R8, R190), and the
bytes in which plan records are read back (R12, R190). -/

namespace Sys2Proof.Machine

/-- Byte `i` of a record. -/
def at1 (bs : List Byte) (i : Nat) : Nat := (bs.getD i 0).toNat

/-- The two bytes from byte `i` of a record. -/
def at2 (bs : List Byte) (i : Nat) : Nat := num2 (bs.getD i 0) (bs.getD (i + 1) 0)

/-! ## Quantities (R8, R159) -/

/-- The nearer end of a range for a value outside it. -/
def clampTo (lo hi n : Nat) : Nat := max lo (min hi n)

/-- Whether a value is outside its range. -/
def outside (lo hi n : Nat) : Bool := decide (n < lo ∨ hi < n)

/-- A value as stored, and whether it was clamped. -/
abbrev Stored (α : Type) := α × Bool

/-- A quantity with no default. -/
def quantity (lo hi n : Nat) : Stored Nat := (clampTo lo hi n, outside lo hi n)

/-- A quantity with a default, DEFAULT being all ones in the field (R186). -/
def quantityOr (ones dflt lo hi n : Nat) : Stored Nat :=
  if n = ones then (dflt, false) else quantity lo hi n

/-- The largest power of two not above a value, 0 giving 1 and anything above 1024 giving 1024 (R8). -/
def windowSize (n : Nat) : Stored Nat :=
  let size := if 1024 < n then 1024 else if n = 0 then 1 else 2 ^ Nat.log2 n
  (size, decide (size ≠ n))

/-- A timing setting: DEFAULT is a unit byte of all ones; a count of 0 is clamped to 1 unless `zeroOk` (R3, R186). -/
def readTiming (dflt : Timing) (zeroOk : Bool) (count unit : Nat) : Option (Stored Timing) :=
  if unit = 0xFF then some (dflt, false)
  else match timeUnitOf unit with
    | none => none
    | some u =>
      if count = 0 && !zeroOk then some ({ count := 1, unit := u }, true)
      else some ({ count := count, unit := u }, false)

/-- A station id, a code field with a default (R2, R8). -/
def readStation (dflt lo n : Nat) : Option Nat :=
  if n = 0xFF then some dflt else if lo ≤ n ∧ n ≤ 15 then some n else none

/-! ## Plan records read (R8, R190): `none` is a code field error, the mark says that a field was clamped -/

/-- A header record. -/
def readHeader (bs : List Byte) : Option (Stored Header) := do
  let suspect ← readTiming { count := 60, unit := .second } false (at1 bs 10) (at1 bs 11)
  let clearHold ← readTiming { count := 120, unit := .second } false (at1 bs 12) (at1 bs 13)
  let emphasis ← readTiming { count := 10, unit := .second } false (at1 bs 14) (at1 bs 15)
  let refresh ← readTiming { count := 5, unit := .tenth } true (at1 bs 16) (at1 bs 17)
  let advertise ← readTiming { count := 1, unit := .second } false (at1 bs 18) (at1 bs 19)
  let ageLimit ← readTiming { count := 5, unit := .second } false (at1 bs 20) (at1 bs 21)
  let silence ← readTiming { count := 3, unit := .second } false (at1 bs 22) (at1 bs 23)
  let spacing ← readTiming { count := 2, unit := .tenth } false (at1 bs 24) (at1 bs 25)
  let quiet := quantityOr 0xFF 8 0 15 (at1 bs 26)
  let alert := quantityOr 0xFF 12 0 15 (at1 bs 27)
  let active := quantityOr 0xFF 15 0 15 (at1 bs 28)
  let margin := quantityOr 0xFFFF 100 0 1023 (at2 bs 29)
  let surcharge := quantityOr 0xFFFF 600 0 4095 (at2 bs 31)
  let window := quantityOr 0xFF 10 2 50 (at1 bs 33)
  let miss := quantityOr 0xFF 3 1 7 (at1 bs 34)
  let own ← readStation 1 1 (at1 bs 35)
  let expA ← readStation 0 0 (at1 bs 36)
  let expB ← readStation 0 0 (at1 bs 37)
  some
    ({ planId := at2 bs 0, nodeCount := at2 bs 2, linkCount := at2 bs 4, zoneCount := at1 bs 6,
       windowCount := at1 bs 7, exitCount := at1 bs 8, signCount := at1 bs 9,
       suspect := suspect.1, clearHold := clearHold.1, emphasis := emphasis.1, refresh := refresh.1,
       advertise := advertise.1, ageLimit := ageLimit.1, silence := silence.1, spacing := spacing.1,
       quietLevel := quiet.1, alertLevel := alert.1, activeLevel := active.1, margin := margin.1,
       surcharge := surcharge.1, replyWindow := window.1, missLimit := miss.1, ownId := own,
       expectedA := expA, expectedB := expB },
     suspect.2 || clearHold.2 || emphasis.2 || refresh.2 || advertise.2 || ageLimit.2 || silence.2 || spacing.2 ||
       quiet.2 || alert.2 || active.2 || margin.2 || surcharge.2 || window.2 || miss.2)

/-- A node record. -/
def readNode (bs : List Byte) : Option (Stored NodeRec) :=
  some ({ label := if looseFlag (bs.getD 0 0) then some (at2 bs 1) else none }, false)

/-- A link record. -/
def readLink (bs : List Byte) : Option (Stored LinkRec) := do
  let passage ← passageOf (at1 bs 8)
  let len := quantity 1 4095 (at2 bs 4)
  let width := quantity 0 3 (at1 bs 6)
  some ({ a := at2 bs 0, b := at2 bs 2, len := len.1, width := width.1, zone := at1 bs 7, passage := passage },
    len.2 || width.2)

/-- A latch, a code field whose default is no (R5, R8). -/
def readLatch (n : Nat) : Option Bool :=
  if n = 0xFF then some false else strictFlagOf n

/-- A zone record. -/
def readZone (bs : List Byte) : Option (Stored ZoneRec) := do
  let latch ← readLatch (at1 bs 0)
  let suspect := quantityOr 0xFF 1 0 15 (at1 bs 1)
  let smoke := quantityOr 0xFF 8 1 15 (at1 bs 2)
  let confirm := quantityOr 0xFF 3 1 7 (at1 bs 3)
  some ({ latch := latch, suspectWeight := suspect.1, smokeWeight := smoke.1, confirmCount := confirm.1 },
    suspect.2 || smoke.2 || confirm.2)

/-- A window record. -/
def readWindow (bs : List Byte) : Option (Stored WindowRec) :=
  let size := windowSize (at2 bs 2)
  some ({ base := at2 bs 0, size := size.1, zone := at1 bs 4 }, size.2)

/-- An exit record. -/
def readExit (bs : List Byte) : Option (Stored ExitRec) := do
  let initial ← exitStateOf (at1 bs 5)
  let bias := quantity 0 4095 (at2 bs 3)
  match at1 bs 2 with
  | 0 => some ({ node := at2 bs 0, bias := bias.1, initial := initial, portal := none }, bias.2)
  | 1 =>
    let port ← portOf (at1 bs 6)
    let remote ← if at1 bs 7 ≤ 31 then some (at1 bs 7) else none
    let crossing := quantity 0 4095 (at2 bs 8)
    some ({ node := at2 bs 0, bias := bias.1, initial := initial,
            portal := some { port := port, remote := remote, crossing := crossing.1 } }, bias.2 || crossing.2)
  | _ => none

/-- The arrow map of a sign record, `n` entries from byte `at_` on; a direction above 7 is a code field error. -/
def readMap (bs : List Byte) (at_ : Nat) : Nat → Option (List (Nat × Nat))
  | 0 => some []
  | n + 1 =>
    if at1 bs (at_ + 2) ≤ 7 then
      match readMap bs (at_ + 3) n with
      | some rest => some ((at2 bs at_, at1 bs (at_ + 2)) :: rest)
      | none => none
    else none

/-- A sign record. -/
def readSign (bs : List Byte) : Option (Stored SignRec) :=
  let n := at1 bs 3
  match readMap bs 4 n with
  | none => none
  | some map =>
    let groupAt := 4 + 3 * n
    let groups := (List.range (at1 bs groupAt)).map fun i => at1 bs (groupAt + 1 + i)
    some ({ address := at1 bs 0, node := at2 bs 1, map := map, groups := groups }, false)

/-- Every record of a list, or none when one has a code field error; the mark says that some field was clamped. -/
def readAll {α : Type} (read : List Byte → Option (Stored α)) : List (List Byte) → Option (Stored (List α))
  | [] => some ([], false)
  | bs :: rest =>
    match read bs, readAll read rest with
    | some x, some xs => some (x.1 :: xs.1, x.2 || xs.2)
    | _, _ => none

/-! ## Where one record ends (R10, R190) -/

/-- What reading a record's length in a body gives: its length, a body too short for it, or a length code that names
nothing. -/
inductive LengthTry | length (n : Nat) | short | badValue deriving DecidableEq, Repr

/-- A fixed length, if the body has as many bytes left. -/
def fixedLength (n : Nat) (bs : List Byte) : LengthTry :=
  if bs.length < n then .short else .length n

/-- The length of the record at the head of a body's remaining bytes. -/
def recordLength (sect : Section) (bs : List Byte) : LengthTry :=
  match sect with
  | .header => fixedLength 38 bs
  | .nodes => fixedLength 3 bs
  | .links => fixedLength 9 bs
  | .zones => fixedLength 4 bs
  | .windows => fixedLength 5 bs
  | .exits => if bs.length < 3 then .short else fixedLength (if at1 bs 2 = 1 then 10 else 6) bs
  | .signs =>
    if bs.length < 4 then .short
    else
      let n := at1 bs 3
      if n < 1 ∨ 8 < n then .badValue
      else if bs.length < 5 + 3 * n then .short
      else
        let g := at1 bs (4 + 3 * n)
        if 4 < g then .badValue else fixedLength (5 + 3 * n + g) bs

/-- What cutting a body into its records gives. -/
inductive SplitTry | records (rs : List (List Byte)) | badLength | badValue deriving DecidableEq, Repr

/-- Cuts a body into `count` records that sum to it exactly (R10, R188). -/
def splitRecords (sect : Section) : Nat → List Byte → SplitTry
  | 0, bs => if bs.isEmpty then .records [] else .badLength
  | n + 1, bs =>
    match recordLength sect bs with
    | .short => .badLength
    | .badValue => .badValue
    | .length k =>
      match splitRecords sect n (bs.drop k) with
      | .records rs => .records (bs.take k :: rs)
      | .badLength => .badLength
      | .badValue => .badValue

/-! ## Sections -/

/-- A section's maximum count (1.2). -/
def sectionMax : Section → Nat
  | .header => 1
  | .nodes => Config.maxNodes
  | .links => Config.maxLinks
  | .zones => Config.maxZones
  | .windows => Config.maxWindows
  | .exits => Config.maxExits
  | .signs => Config.maxSigns

/-- Writes the records of a PLAN PUT into the staging slots; `none` when one has a code field error (R8, R10). -/
def putRecords (g : Staging) (sect : Section) (first : Nat) (rs : List (List Byte)) : Option (Stored Staging) :=
  match sect with
  | .header => (readAll readHeader rs).map fun x => ({ g with header := slotPutAll g.header first x.1 }, x.2)
  | .nodes => (readAll readNode rs).map fun x => ({ g with nodes := slotPutAll g.nodes first x.1 }, x.2)
  | .links => (readAll readLink rs).map fun x => ({ g with links := slotPutAll g.links first x.1 }, x.2)
  | .zones => (readAll readZone rs).map fun x => ({ g with zones := slotPutAll g.zones first x.1 }, x.2)
  | .windows => (readAll readWindow rs).map fun x => ({ g with windows := slotPutAll g.windows first x.1 }, x.2)
  | .exits => (readAll readExit rs).map fun x => ({ g with exits := slotPutAll g.exits first x.1 }, x.2)
  | .signs => (readAll readSign rs).map fun x => ({ g with signs := slotPutAll g.signs first x.1 }, x.2)

/-! ## Plan records in bytes (R190) -/

/-- A timing setting in two bytes. -/
def timingBytes (t : Timing) : List Byte := [byte1 t.count, byte1 (timeUnitCode t.unit)]

def headerBytes (h : Header) : List Byte :=
  byte2 h.planId ++ byte2 h.nodeCount ++ byte2 h.linkCount ++
    [byte1 h.zoneCount, byte1 h.windowCount, byte1 h.exitCount, byte1 h.signCount] ++
    timingBytes h.suspect ++ timingBytes h.clearHold ++ timingBytes h.emphasis ++ timingBytes h.refresh ++
    timingBytes h.advertise ++ timingBytes h.ageLimit ++ timingBytes h.silence ++ timingBytes h.spacing ++
    [byte1 h.quietLevel, byte1 h.alertLevel, byte1 h.activeLevel] ++ byte2 h.margin ++ byte2 h.surcharge ++
    [byte1 h.replyWindow, byte1 h.missLimit, byte1 h.ownId, byte1 h.expectedA, byte1 h.expectedB]

/-- A node record, with the two bytes that stand in place of an absent label. -/
def nodeBytes (absent : List Byte) (n : NodeRec) : List Byte :=
  match n.label with
  | some l => 1 :: byte2 l
  | none => 0 :: absent

def linkBytes (l : LinkRec) : List Byte :=
  byte2 l.a ++ byte2 l.b ++ byte2 l.len ++ [byte1 l.width, byte1 l.zone, byte1 (passageCode l.passage)]

def zoneBytes (z : ZoneRec) : List Byte :=
  [flagByte z.latch, byte1 z.suspectWeight, byte1 z.smokeWeight, byte1 z.confirmCount]

def windowBytes (w : WindowRec) : List Byte :=
  byte2 w.base ++ byte2 w.size ++ [byte1 w.zone]

def exitBytes (e : ExitRec) : List Byte :=
  let kind : Nat := if e.portal.isSome then 1 else 0
  byte2 e.node ++ [byte1 kind] ++ byte2 e.bias ++ [byte1 (exitStateCode e.initial)] ++
    match e.portal with
    | some p => [byte1 (portCode p.port), byte1 p.remote] ++ byte2 p.crossing
    | none => []

def signBytes (g : SignRec) : List Byte :=
  [byte1 g.address] ++ byte2 g.node ++ [byte1 g.map.length] ++
    g.map.flatMap (fun e => byte2 e.1 ++ [byte1 e.2]) ++ [byte1 g.groups.length] ++ g.groups.map byte1

/-- The record of a staging slot in bytes, `none` when the slot is absent; an absent label's bytes are free (R186). -/
def stagingSlot (free : Nat) (g : Staging) (sect : Section) (i : Nat) : Option (List Byte) :=
  match sect with
  | .header => (slotGet g.header i).map headerBytes
  | .nodes => (slotGet g.nodes i).map (nodeBytes (freeBytes (free + 2 * i) 2))
  | .links => (slotGet g.links i).map linkBytes
  | .zones => (slotGet g.zones i).map zoneBytes
  | .windows => (slotGet g.windows i).map windowBytes
  | .exits => (slotGet g.exits i).map exitBytes
  | .signs => (slotGet g.signs i).map signBytes

/-- The record of a slot of the active bank in bytes, absent at or above the section's count (R12); an absent label's
bytes are free (R186). -/
def activeSlot (free : Nat) (p : Plan) (sect : Section) (i : Nat) : Option (List Byte) :=
  match sect with
  | .header => if i = 0 then some (headerBytes p.header) else none
  | .nodes => (p.nodes[i]?).map (nodeBytes (freeBytes (free + 2 * i) 2))
  | .links => (p.links[i]?).map linkBytes
  | .zones => (p.zones[i]?).map zoneBytes
  | .windows => (p.windows[i]?).map windowBytes
  | .exits => (p.exits[i]?).map exitBytes
  | .signs => (p.signs[i]?).map signBytes

/-- A slot in a PLAN READ reply: its present byte, and its record when present (R12). -/
def slotBytes : Option (List Byte) → List Byte
  | some r => 1 :: r
  | none => [0]

/-- The slots of a PLAN READ reply from index `i` on: at most `count`, below the section's maximum, whole slots within
`room` bytes (R12). -/
def readSlots (slot : Nat → Option (List Byte)) (max room : Nat) (i : Nat) : Nat → List (List Byte)
  | 0 => []
  | count + 1 =>
    let bytes := slotBytes (slot i)
    if i < max ∧ bytes.length ≤ room then
      bytes :: readSlots slot max (room - bytes.length) (i + 1) count
    else []

end Sys2Proof.Machine
end

