-- ==== Sys2Proof/Machine/Flags.lean ====
section
/-! DEFINITION. Notice flags and the notice list (R170, R171), fault capture (R175, R176), event counters (R178) and
the signals of the status outputs (R179, R180). -/

namespace Sys2Proof.Machine

/-! ## Notices -/

/-- The kind a notice body belongs to (R170). -/
def NoticeBody.kind : NoticeBody → NoticeKind
  | .evacState .. => .evacState
  | .zoneChange .. => .zoneChange
  | .routePublished .. => .routePublished
  | .noRoute .. => .noRoute
  | .signTrouble .. => .signTrouble
  | .portalChange .. => .portalChange
  | .faultCaptured .. => .faultCaptured
  | .lineState .. => .lineState
  | .planEvent .. => .planEvent
  | .overrun .. => .overrun

/-- Places a notice after every notice of equal or higher priority and before every one of lower (R171). -/
def insertNotice (n : Notice) : List Notice → List Notice
  | [] => [n]
  | m :: rest => if n.priority ≤ m.priority then m :: insertNotice n rest else n :: m :: rest

/-- A flag's rise at the Message Port: from clear it records the event and queues a notice when its kind is enabled at
or above the threshold; while set it has no effect (R170, R171). -/
def raiseIn (mp : MessagePort) (body : NoticeBody) (clock : EvacClock) (seconds : Nat) : MessagePort :=
  let k := body.kind
  let r := mp.kinds[k.idx]
  if r.flag then mp
  else
    let event : NoticeEvent := { body := body, clock := clock, seconds := seconds }
    { mp with
      kinds := mp.kinds.set k.idx { r with flag := true, event := some event }
      notices :=
        if r.enable && decide (mp.threshold ≤ r.priority) then
          insertNotice { kind := k, priority := r.priority, event := event } mp.notices
        else mp.notices }

/-- A notice flag rises. -/
def raise (body : NoticeBody) (s : State) : State :=
  { s with mp := raiseIn s.mp body s.zh.clock s.tb.seconds }

/-- CLEAR FLAGS for one kind: its flag is cleared and its queued notice removed (R174). -/
def clearFlagIn (mp : MessagePort) (k : NoticeKind) : MessagePort :=
  { mp with
    kinds := mp.kinds.set k.idx { mp.kinds[k.idx] with flag := false, event := none }
    notices := mp.notices.filter fun n => n.kind ≠ k }

/-! ## Fault capture -/

/-- The tally's part of a capture (R175). -/
def tallyIn (fc : FaultCapture) (k : FaultKind) : FaultCapture :=
  { fc with tallies := fc.tallies.set k.idx (min 255 (fc.tallies[k.idx] + 1)) }

/-- The record's part of a capture, and whether the record was filled or displaced (R176). -/
def recordIn (fc : FaultCapture) (k : FaultKind) (subject seconds : Nat) : FaultCapture × Bool :=
  let filled : FaultRecord := { kind := k, subject := subject, time := seconds }
  match faultClassOf k with
  | .minor =>
    if fc.ignoreMinor then (fc, false)
    else match fc.record with
      | none => ({ fc with record := some filled }, true)
      | some _ => ({ fc with multipleMinor := true }, false)
  | .major =>
    match fc.record with
    | none => ({ fc with record := some filled }, true)
    | some r =>
      match faultClassOf r.kind with
      | .minor => ({ fc with record := some filled, multipleMinor := true }, true)
      | .major => ({ fc with multipleMajor := true }, false)

/-- A fault is captured (R175, R176). -/
def capture (k : FaultKind) (subject : Nat) (s : State) : State :=
  let r := recordIn (tallyIn s.fc k) k subject s.tb.seconds
  { s with
    fc := r.1
    mp := if r.2 then raiseIn s.mp (.faultCaptured k subject) s.zh.clock s.tb.seconds else s.mp }

/-! ## Event counters -/

/-- One counter at `n` firings of an input (R178). -/
def countIn (c : Counter) (input : CounterInput) (n : Nat) : Counter :=
  if c.input = input then { c with value := min Config.maxCount (c.value + n) } else c

/-- An event counter input fires `n` times (R178). -/
def fire (input : CounterInput) (n : Nat) (s : State) : State :=
  { s with fc := { s.fc with counters := vecMap (fun c => countIn c input n) s.fc.counters } }

/-! ## Signals (R179) -/

/-- Whether FAULT_PRESENT is true (R180). -/
def faultPresent (fc : FaultCapture) : Bool :=
  match fc.record with
  | some r => !fc.mask[r.kind.idx]
  | none => false

/-- Whether NOTICE_PENDING is true: the list is not empty, or the flag of an enabled kind is set (R179). -/
def noticePending (mp : MessagePort) : Bool :=
  !mp.notices.isEmpty || mp.kinds.toList.any fun k => k.flag && k.enable

/-- Whether a signal is true (R179). -/
def signalTrue (s : State) : Signal → Bool
  | .off => false
  | .evacActive => decide (s.zh.evac = .active)
  | .alertOrActive => decide (s.zh.evac ≠ .quiet)
  | .anySmoke => s.zh.zones.any fun z => decide (z.state = .smoke)
  | .noRoutePresent => decide (0 < s.slc.noRouteCount)
  | .signTrouble => s.slc.signs.any fun g => decide (g.state = .lost ∨ g.state = .faulty)
  | .portalUnknown => s.pp.portals.any fun p => p.advertisement.isNone
  | .faultPresent => faultPresent s.fc
  | .detectorNotLocked => decide (s.di.lock ≠ .locked)
  | .planAbsent => s.ps.active.isNone
  | .solving => decide (s.rsv.state = .solving)
  | .noticePending => noticePending s.mp

/-- Whether a status output is driven low: while its selected signal is true, and never without supply (R179). -/
def outputDriven (s : State) (n : Fin 4) : Bool :=
  decide (s.phase ≠ .off) && signalTrue s s.fc.outputs[n]

/-- Whether the driver enable SL_DE is asserted: while a frame is being sent on the sign line (R118, R185). -/
def driverEnable (s : State) : Bool :=
  match s.slc.exchange with
  | some e => decide (e.phase = .sending)
  | none => false

end Sys2Proof.Machine
end

