-- ==== Sys2Proof/Machine/Hazard.lean ====
section
/-! DEFINITION. Zones, the evacuation state and its clock (R46 to R63), and the tenth tick's part in them. -/

namespace Sys2Proof.Machine

/-! ## Conditions (R47) -/

/-- The number of a zone's detector records at a level. -/
def levelCount (dets : Slots DetectorRec) (zone : Nat) (level : Level) : Nat :=
  (dets.filter fun p => decide (p.2.zone = zone ∧ p.2.level = level)).length

/-- The highest consecutive alarm count among a zone's records, 0 when it has none (R58). -/
def highestAlarms (dets : Slots DetectorRec) (zone : Nat) : Nat :=
  (dets.filter fun p => decide (p.2.zone = zone)).foldl (fun m p => max m p.2.alarms) 0

/-- The four conditions of a zone. -/
structure Conditions where
  alarm     : Bool
  warning   : Bool
  degraded  : Bool
  confirmed : Bool
deriving DecidableEq, Repr

/-- A zone's conditions, from its records and its untracked-alarm flag. -/
def conditions (dets : Slots DetectorRec) (zone : Nat) (z : ZoneRun) : Conditions :=
  let alarms := levelCount dets zone .alarm
  let alarm := decide (1 ≤ alarms) || z.untracked
  let degraded := decide (1 ≤ levelCount dets zone .fault)
  { alarm := alarm
    warning := decide (1 ≤ levelCount dets zone .prealarm + alarms)
    degraded := degraded
    confirmed :=
      decide (2 ≤ alarms) ||
      dets.any (fun p => decide (p.2.zone = zone ∧ z.setting.confirmCount ≤ p.2.alarms)) ||
      (degraded && alarm) || z.untracked }

/-- PREALARM or ALARM. -/
def isWarningLevel (l : Level) : Bool := decide (l = .prealarm ∨ l = .alarm)

/-! ## The evacuation state (R59, R62, R63, R108) -/

/-- The state derived from the zones outside ACTIVE (R59). -/
def derivedEvac (zones : List ZoneRun) : EvacState :=
  if zones.any fun z => decide (z.state = .suspect ∨ z.state = .clearing) then .alert else .quiet

/-- The NO_ROUTE notice of a set with a signed node of kind NONE (R108). -/
def noRouteBody (p : Plan) (set : HeadingSet) (epoch : Nat) : Option NoticeBody :=
  match signedNone p set with
  | [] => none
  | n :: rest =>
    let address := match p.signs.find? fun g => decide (g.node = n) with
      | some g => g.address
      | none => 0
    some (.noRoute epoch (rest.length + 1) n address)

/-- NO_ROUTE rises when a set is published and has a signed NONE node (R108); the caller says when it is looked at. -/
def checkNoRoute (s : State) : State :=
  match s.ps.active, s.rsv.published with
  | some p, some set =>
    match noRouteBody p set s.rsv.epoch with
    | some body => raise body s
    | none => s
  | _, _ => s

/-- The evacuation state takes a value other than ACTIVE's entry gives, and EVAC_STATE rises when it differs (R62). -/
def setEvac (new : EvacState) (cause : EvacCause) (s : State) : State :=
  if s.zh.evac = new then s
  else
    raise (.evacState s.zh.evac new s.zh.declaration cause) { s with zh := { s.zh with evac := new } }

/-- Entry to ACTIVE: the clock starts from 00:00.0, EVAC_STATE rises, and NO_ROUTE where the published set calls for it
(R60, R62, R63, R108). -/
def enterActive (cause : EvacCause) (s : State) : State :=
  checkNoRoute
    (raise (.evacState s.zh.evac .active s.zh.declaration cause)
      { s with zh := { s.zh with evac := .active, clock := { clockZero with running := true } } })

/-- Leaving ACTIVE: the declaration is cleared, the clock holds its value, every emphasis timer stops, and the state
follows the zones (R61, R63, R102). -/
def leaveActive (cause : EvacCause) (s : State) : State :=
  setEvac (derivedEvac s.zh.zones) cause
    { s with
      zh := { s.zh with declaration := false, clock := { s.zh.clock with running := false } }
      slc := { s.slc with signs := s.slc.signs.map fun g => { g with emphasis := none } } }

/-- The evacuation state after a zone's change to a state (R54 item 3, R59). -/
def evacAfterZone (zone : Nat) (new : ZoneState) (s : State) : State :=
  if s.zh.evac = .active then s
  else if new = .smoke then enterActive (.zone zone) s
  else setEvac (derivedEvac s.zh.zones) (.zone zone) s

/-! ## Zone changes (R53, R54) -/

/-- A new solve is wanted, and the running one is stale (R76). -/
def wantSolve (s : State) : State :=
  { s with rsv := { s.rsv with wanted := true, stale := s.rsv.stale || decide (s.rsv.state = .solving) } }

/-- The consequences of a change of a zone's state, in the order of R54. -/
def zoneChanged (zone : Nat) (prev new : ZoneState) (s : State) : State :=
  evacAfterZone zone new (raise (.zoneChange zone prev new) (wantSolve s))

/-- Replaces a zone's record. -/
def setZone (zone : Nat) (z : ZoneRun) (s : State) : State :=
  { s with zh := { s.zh with zones := s.zh.zones.set zone z } }

/-- Replaces a zone's record, with the consequences of R54 when its state changes. -/
def updateZone (zone : Nat) (old new : ZoneRun) (s : State) : State :=
  if old.state = new.state then setZone zone new s
  else zoneChanged zone old.state new.state (setZone zone new s)

/-- A zone going to SMOKE, both timers stopped. -/
def toSmoke (z : ZoneRun) : ZoneRun := { z with state := .smoke, suspect := none, clearHold := none }

/-- A zone going to CLEAR, both timers stopped. -/
def toClear (z : ZoneRun) : ZoneRun := { z with state := .clear, suspect := none, clearHold := none }

/-- A zone going to SUSPECT, its suspect timer started (R49). -/
def toSuspect (ticks : Nat) (z : ZoneRun) : ZoneRun :=
  { z with state := .suspect, suspect := some ticks, clearHold := none }

/-- A zone going to CLEARING, its clear-hold timer started (R51, R56). -/
def toClearing (ticks : Nat) (z : ZoneRun) : ZoneRun :=
  { z with state := .clearing, suspect := none, clearHold := some ticks }

/-- What an evaluation makes of a zone's record (R49 to R52). -/
def evaluated (z : ZoneRun) (c : Conditions) (peak : Level) (suspectT clearHoldT : Nat) : ZoneRun :=
  match z.state with
  | .clear =>
    if isWarningLevel peak then (if c.confirmed then toSmoke z else toSuspect suspectT z) else z
  | .suspect => if c.confirmed then toSmoke z else z
  | .smoke =>
    if !c.alarm && !c.warning && !z.setting.latch then toClearing clearHoldT z else z
  | .clearing =>
    if c.alarm then toSmoke z
    else if isWarningLevel peak then { z with clearHold := some clearHoldT }
    else z

/-- The zone evaluation that ends a take (R48). -/
def evaluateZone (zone : Nat) (peak : Level) (s : State) : State :=
  match s.zh.zones[zone]? with
  | none => s
  | some z =>
    let new := evaluated z (conditions s.zh.detectors zone z) peak (suspectTicks s) (clearHoldTicks s)
    updateZone zone z new s

/-- A zone's suspect timer, which runs only in SUSPECT, expires (R46, R50). -/
def suspectExpiry (zone : Nat) (s : State) : State :=
  match s.zh.zones[zone]? with
  | none => s
  | some z =>
    if timerDue z.suspect && decide (z.state = .suspect) then
      if (conditions s.zh.detectors zone z).warning then
        setZone zone { z with suspect := some (suspectTicks s) } s
      else updateZone zone z (toClear z) s
    else s

/-- A zone's clear-hold timer, which runs only in CLEARING, expires (R46, R52). -/
def clearHoldExpiry (zone : Nat) (s : State) : State :=
  match s.zh.zones[zone]? with
  | none => s
  | some z =>
    if timerDue z.clearHold && decide (z.state = .clearing) then updateZone zone z (toClear z) s else s

/-- FORCE SMOKE (R55). -/
def forceSmoke (zone : Nat) (z : ZoneRun) (s : State) : State :=
  updateZone zone z (toSmoke z) s

/-- The consecutive alarm counts of a zone's records become 0 (R55). -/
def zeroAlarms (zone : Nat) (dets : Slots DetectorRec) : Slots DetectorRec :=
  dets.map fun p => if p.2.zone = zone then (p.1, { p.2 with alarms := 0 }) else p

/-- FORCE CLEAR (R55, R57). -/
def forceClear (zone : Nat) (z : ZoneRun) (s : State) : State :=
  updateZone zone z { toClear z with untracked := false }
    { s with zh := { s.zh with detectors := zeroAlarms zone s.zh.detectors } }

/-! ## The evacuation clock (R63) -/

/-- One tenth more, carrying, and holding at 99:59.9. -/
def advanceClock (c : EvacClock) : EvacClock :=
  if c.minutes = 99 ∧ c.seconds = 59 ∧ c.tenths = 9 then c
  else if c.tenths < 9 then { c with tenths := c.tenths + 1 }
  else if c.seconds < 59 then { c with tenths := 0, seconds := c.seconds + 1 }
  else { c with tenths := 0, seconds := 0, minutes := c.minutes + 1 }

/-- A zone's timers at a tenth tick (R53). -/
def tickZone (z : ZoneRun) : ZoneRun :=
  { z with suspect := tickTimer z.suspect, clearHold := tickTimer z.clearHold }

/-- The Zone Hazard Unit at a tenth tick (R53, R63). -/
def tickHazard (h : Hazard) : Hazard :=
  { h with
    zones := h.zones.map tickZone
    clock := if h.evac = .active then advanceClock h.clock else h.clock }

end Sys2Proof.Machine
end

