-- ==== Sys2Proof/Machine/Intake.lean ====
section
/-! DEFINITION. Detector Intake and the takes: reports, the detector line's lock machine, the contact channels, the
pending report table and the detector table (R24 to R45). -/

namespace Sys2Proof.Machine

/-! ## Reports and the pending report table (R36 to R40) -/

/-- Severity order of levels (R24). -/
def levelLt (a b : Level) : Bool := decide (levelCode a < levelCode b)

/-- The more severe of two levels. -/
def worse (a b : Level) : Level := if levelLt a b then b else a

/-- A report that joins as a new entry (R38). -/
def newEntry (address zone : Nat) (level : Level) (sequence : Option Nat) (source : Source) : PendingEntry :=
  { address := address, zone := zone, unmapped := false, level := level, sequence := sequence, merged := 1,
    peak := level, tail := if level = .alarm then 1 else 0, source := source }

/-- A report merged into its address's entry (R39). -/
def mergeEntry (e : PendingEntry) (level : Level) (sequence : Option Nat) (source : Source) : PendingEntry :=
  { e with
    level := level
    sequence := match sequence with
      | some q => some q
      | none => e.sequence
    merged := min 63 (e.merged + 1)
    peak := worse e.peak level
    tail := if level = .alarm then min 7 (e.tail + 1) else 0
    source := source }

/-- Merges into the entry of an address, wherever it stands. -/
def mergeInto (reports : List PendingEntry) (address : Nat) (level : Level) (sequence : Option Nat)
    (source : Source) : List PendingEntry :=
  reports.map fun e => if e.address = address then mergeEntry e level sequence source else e

/-- Whether an address has an entry. -/
def hasEntry (reports : List PendingEntry) (address : Nat) : Bool :=
  reports.any fun e => decide (e.address = address)

/-- A decoded report reaches the table: it merges, joins, or is dropped at overrun (R38 to R40). -/
def tableReport (address zone : Nat) (level : Level) (sequence : Option Nat) (source : Source) (s : State) : State :=
  if hasEntry s.di.reports address then
    fire .reportMerged 1
      { s with di := { s.di with reports := mergeInto s.di.reports address level sequence source } }
  else if s.di.reports.length < Config.maxPending then
    { s with di := { s.di with reports := s.di.reports ++ [newEntry address zone level sequence source] } }
  else
    raise (.overrun (.pendingTable address)) (fire .reportDropped 1 (capture .intakeOverrun address s))

/-- A report is made and decoded (R36). -/
def makeReport (address : Nat) (level : Level) (sequence : Option Nat) (source : Source) (s : State) : State :=
  match s.ps.active with
  | none => fire .reportDropped 1 s
  | some p =>
    match decodeZone p address with
    | none => capture .unmappedDetector address s
    | some zone => tableReport address zone level sequence source s

/-! ## The detector line (R25 to R30) -/

/-- A valid frame of the detector line. -/
inductive DetectorFrame
  | report (address : Nat) (level : Level) (sequence : Nat)
  | supervise (panel : Nat)
deriving DecidableEq, Repr

/-- A frame body as a valid frame, `none` when it is none (R25, R187). -/
def readDetectorFrame (body : List Byte) : Option DetectorFrame :=
  match body with
  | [k, h, l, lev, seq] =>
    if k = 0x10 then
      match levelOf lev.toNat with
      | some level => if seq.toNat ≤ 63 then some (.report (num2 h l) level seq.toNat) else none
      | none => none
    else none
  | [k, panel] => if k = 0x11 then some (.supervise panel.toNat) else none
  | _ => none

/-- The lock machine at a valid frame: state, valid-run and invalid-run (R26). The manual counts no valid run in LOCKED,
and the model sets the count to 0 there (log entry 41). -/
def lockAfterValid (di : Intake) : LockState × Nat × Nat :=
  match di.lock with
  | .silent => (.seeking, 1, 0)
  | .seeking => if di.validRun < 2 then (.seeking, di.validRun + 1, 0) else (.locked, 0, 0)
  | .locked => (.locked, 0, 0)

/-- The lock machine at an invalid frame (R27). -/
def lockAfterInvalid (di : Intake) : LockState × Nat × Nat :=
  match di.lock with
  | .silent => (.silent, di.validRun, di.invalidRun)
  | .seeking => (.seeking, 0, 0)
  | .locked => if di.invalidRun < 2 then (.locked, 0, di.invalidRun + 1) else (.seeking, 0, 0)

/-- The lock machine, silence timer and held panel id take new values. LINE_STATE rises when the lock state or a panel
id already held changes, and DETECTOR_LINE_LOST is captured on leaving LOCKED (R29, R30). -/
def setLock (new : LockState × Nat × Nat) (silence : Timer) (panel : Option Nat) (s : State) : State :=
  let old := s.di
  let s1 : State :=
    { s with di := { s.di with lock := new.1, validRun := new.2.1, invalidRun := new.2.2, silence := silence,
                               panel := panel } }
  let s2 :=
    if old.lock ≠ new.1 ∨ (old.panel.isSome ∧ old.panel ≠ panel) then
      raise (.lineState 1 (.lock new.1) panel) s1
    else s1
  if old.lock = .locked ∧ new.1 ≠ .locked then capture .detectorLineLost 1 s2 else s2

/-- A valid frame of the detector line (R26, R29). -/
def detectorValid (f : DetectorFrame) (s : State) : State :=
  let new := lockAfterValid s.di
  match f with
  | .supervise panel => setLock new (some (silenceTicks s)) (some panel) s
  | .report address level sequence =>
    let s1 := setLock new (some (silenceTicks s)) s.di.panel s
    if new.1 = .locked then makeReport address level (some sequence) .line s1 else s1

/-- An invalid frame of the detector line; `err` when a character of it was in error (R25, R27). -/
def detectorInvalid (err : Bool) (s : State) : State :=
  let s1 := if err then capture .lineCharError 1 s else s
  setLock (lockAfterInvalid s.di) s.di.silence s.di.panel s1

/-- What the detector line's receiver hands on (R25). -/
def detectorEvent (s : State) (e : RxEvent) : State :=
  match e with
  | .badCheck err => detectorInvalid err s
  | .frame body err =>
    if err then detectorInvalid true s
    else match readDetectorFrame body with
      | some f => detectorValid f s
      | none => detectorInvalid false s

/-- One character on the detector line; a halted line receives nothing (R25, R28, R183). -/
def detectorChar (s : State) (c : RxChar) : State :=
  let line := s.lines.detector
  match line.mark with
  | .halted => s
  | .running =>
    let r := receiveChar line.inUse line.rx c
    r.1.foldl detectorEvent (s.onLine .detector fun l => { l with rx := r.2 })

/-- The silence timer expires (R28). -/
def silenceExpiry (s : State) : State :=
  if timerDue s.di.silence then setLock (.silent, 0, 0) none s.di.panel s else s

/-! ## Contact channels (R31 to R35) -/

/-- The normal level of a mode (R32). -/
def normalLevel : ContactMode → Option ContactLevel
  | .off => none
  | .levelOpenAlarm => some .closed
  | .levelClosedAlarm => some .opened
  | .pulse => some .opened

/-- A channel starts in a mode with an address (R32). -/
def startChannel (mode : ContactMode) (address : Nat) : Channel :=
  { mode := mode, address := address, accepted := normalLevel mode, candidate := .absent, width := none }

/-- The other contact level. -/
def otherLevel : ContactLevel → ContactLevel
  | .opened => .closed
  | .closed => .opened

/-- The report at the accepted OPEN that ends a closure of a width (R34). -/
def pulseLevel (width : Nat) : Option Level :=
  if width ≤ 12 then none
  else if width ≤ 63 then some .normal
  else if width ≤ 319 then some .alarm
  else some .fault

/-- The report an accepted change to a level calls for (R33, R34). -/
def acceptedReport (c : Channel) (new : ContactLevel) : Option Level :=
  match c.mode with
  | .off => none
  | .levelOpenAlarm => some (if new = .opened then .alarm else .normal)
  | .levelClosedAlarm => some (if new = .closed then .alarm else .normal)
  | .pulse =>
    match new with
    | .closed => none
    | .opened =>
      match c.width with
      | some w => pulseLevel w
      | none => none

/-- A channel's width count after an accepted change to a level (R34). -/
def acceptedWidth (c : Channel) (new : ContactLevel) : Option Nat :=
  match c.mode, new with
  | .pulse, .closed => some 0
  | _, _ => none

/-- Replaces a channel. -/
def setChannel (n : Fin 8) (c : Channel) (s : State) : State :=
  { s with di := { s.di with channels := s.di.channels.set n c } }

/-- A contact report; with address 0 none is made (R35). -/
def contactReport (n : Fin 8) (address : Nat) (level : Option Level) (s : State) : State :=
  match level with
  | none => s
  | some l => if address = 0 then s else makeReport address l none (.contact n) s

/-- The accepted change (R32 to R35); only a channel whose second differing sample has been taken has one. -/
def acceptChange (n : Fin 8) (s : State) : State :=
  let c := s.di.channels[n]
  match c.candidate, c.accepted with
  | .accepting, some old =>
    let new := otherLevel old
    contactReport n c.address (acceptedReport c new)
      (setChannel n { c with accepted := some new, candidate := .absent, width := acceptedWidth c new } s)
  | _, _ => s

/-- The width count reaches 320 with the accepted level left CLOSED: FAULT is reported and counting stops (R34). -/
def widthLimit (n : Fin 8) (s : State) : State :=
  let c := s.di.channels[n]
  match c.candidate, c.width with
  | .accepting, _ => s
  | _, none => s
  | _, some w =>
    if 320 ≤ w then contactReport n c.address (some .fault) (setChannel n { c with width := none } s) else s

/-- One channel's sample (R32, R34). -/
def sampleChannel (c : Channel) (level : ContactLevel) : Channel :=
  match c.accepted with
  | none => c
  | some accepted =>
    { c with
      candidate :=
        if level = accepted then .absent
        else match c.candidate with
          | .absent => .present
          | .present | .accepting => .accepting
      width := c.width.map fun w => min 320 (w + 1) }

/-- A channel's turn at a sampling instant: what an earlier sample left to be accepted or reported comes first. -/
def contactTurn (levels : BitVec 8) (s : State) (n : Fin 8) : State :=
  let s1 := widthLimit n (acceptChange n s)
  setChannel n (sampleChannel s1.di.channels[n] (if levels.getLsbD n then .closed else .opened)) s1

/-- A sampling instant of all channels (R32). -/
def sampleContacts (levels : BitVec 8) (s : State) : State :=
  [0, 1, 2, 3, 4, 5, 6, 7].foldl (contactTurn levels) s

/-! ## Takes and the detector table (R41 to R45) -/

/-- A take begins: the head entry leaves the table, and an unmapped one ends the take at once (R41). -/
def takeBegin (s : State) : State :=
  match s.zh.take, s.di.reports with
  | none, e :: rest =>
    let s1 := fire .reportTaken 1 { s with di := { s.di with reports := rest } }
    if e.unmapped then capture .unmappedDetector e.address s1
    else { s1 with zh := { s1.zh with take := some e } }
  | _, _ => s

/-- The record a take is applied to (R45). -/
def appliedRecord (r : DetectorRec) (e : PendingEntry) (seconds : Nat) : DetectorRec :=
  { r with
    level := e.level
    alarms := if e.tail = e.merged then min 7 (r.alarms + e.tail) else e.tail
    lastSequence := match e.sequence with
      | some q => some q
      | none => r.lastSequence
    time := seconds }

/-- Applies a take to a record, and evaluates the record's zone (R45, R48). -/
def applyTake (e : PendingEntry) (r : DetectorRec) (s : State) : State :=
  evaluateZone r.zone e.peak
    { s with zh := { s.zh with detectors := slotPut s.zh.detectors e.address (appliedRecord r e s.tb.seconds) } }

/-- A record as it is created for a take (R43). -/
def createdRecord (e : PendingEntry) : DetectorRec :=
  { zone := e.zone, level := .normal, lastSequence := none, alarms := 0, time := 0 }

/-- The record at NORMAL with the oldest last-report time, of the lowest address among equals: its time and address
(R43). -/
def oldestNormal : Slots DetectorRec → Option (Nat × Nat)
  | [] => none
  | (a, r) :: rest =>
    match oldestNormal rest with
    | none => if r.level = .normal then some (r.time, a) else none
    | some best =>
      if r.level = .normal ∧ (r.time < best.1 ∨ (r.time = best.1 ∧ a < best.2)) then some (r.time, a) else some best

/-- What the sequence check finds (R44). -/
inductive SequenceCheck | duplicate | gap | pass deriving DecidableEq, Repr

/-- The sequence check of an entry against a record (R44). -/
def sequenceCheck (e : PendingEntry) (r : DetectorRec) : SequenceCheck :=
  match e.sequence, r.lastSequence with
  | some q, some last =>
    if q = last ∧ e.merged = 1 then .duplicate
    else if q ≠ (last + e.merged) % 64 then .gap
    else .pass
  | _, _ => .pass

/-- A zone's untracked-alarm flag is set (R43, R57). -/
def setUntracked (zone : Nat) (s : State) : State :=
  match s.zh.zones[zone]? with
  | some z => setZone zone { z with untracked := true } s
  | none => s

/-- An untracked take (R43). -/
def untrackedTake (e : PendingEntry) (s : State) : State :=
  let s1 := capture .detectorTableFull e.address s
  let s2 := if e.peak = .alarm then setUntracked e.zone s1 else s1
  evaluateZone e.zone e.peak s2

/-- A take that reaches the detector table (R43, R44). -/
def tableTake (e : PendingEntry) (s : State) : State :=
  match slotGet s.zh.detectors e.address with
  | some r =>
    match sequenceCheck e r with
    | .duplicate => s
    | .gap => applyTake e r (capture .sequenceGap e.address s)
    | .pass => applyTake e r s
  | none =>
    if s.zh.detectors.length < Config.maxDetectors then applyTake e (createdRecord e) s
    else match oldestNormal s.zh.detectors with
      | some oldest =>
        applyTake e (createdRecord e)
          { s with zh := { s.zh with detectors := slotErase s.zh.detectors oldest.2 } }
      | none => untrackedTake e s

/-- The take in progress completes (R41, R43 to R45, R48). -/
def takeComplete (s : State) : State :=
  match s.zh.take with
  | none => s
  | some e =>
    let s1 : State := { s with zh := { s.zh with take := none } }
    if e.unmapped then capture .unmappedDetector e.address s1 else tableTake e s1

end Sys2Proof.Machine
end

