-- ==== Sys2Proof/Machine/Route.lean ====
section
/-! DEFINITION. The Route Solver: cost pairs, arc costs, seeds, the snapshot, relaxation, heading selection and
publication (R66 to R96, R146). -/

namespace Sys2Proof.Machine

/-! ## Cost pairs (R66, R67) -/

/-- The pair (65535, 65535). -/
def unreachable : Cost := { x := 65535, d := 65535 }

/-- One cost is lower than another. -/
def costLt (a b : Cost) : Bool := decide (a.x < b.x ∨ (a.x = b.x ∧ a.d < b.d))

/-- An arc cost: exposure and distance of one link (R69). -/
structure Arc where
  e  : Nat
  le : Nat
deriving DecidableEq, Repr

/-- A cost extended by an arc cost. -/
def extend (c : Cost) (arc : Arc) : Cost :=
  if c = unreachable then unreachable
  else { x := min Config.maxExposure (c.x + arc.e), d := min Config.maxDistance (c.d + arc.le) }

/-! ## Arc costs (R68, R69) -/

/-- The width factor K of a width class. -/
def widthFactor : Nat → Nat
  | 0 => 8
  | 1 => 10
  | 2 => 12
  | _ => 16

/-- Le: the length by the width factor, divided by 8 and rounded up. -/
def arcDistance (l : LinkRec) : Nat := (l.len * widthFactor l.width + 7) / 8

/-- A zone's weight by its state (R69). -/
def zoneWeight (z : ZoneRun) : Nat :=
  match z.state with
  | .clear => 0
  | .suspect | .clearing => z.setting.suspectWeight
  | .smoke => z.setting.smokeWeight

/-- A link's arc cost with the weights of a snapshot. -/
def arcCost (weights : List Nat) (l : LinkRec) : Arc :=
  { e := l.len * weights.getD l.zone 0, le := arcDistance l }

/-- The link may be travelled from A to B. -/
def goesAB (l : LinkRec) : Bool := decide (l.passage ≠ .bToA)

/-- The link may be travelled from B to A. -/
def goesBA (l : LinkRec) : Bool := decide (l.passage ≠ .aToB)

/-- The node a link leads to when travelled out of a node, if it permits that. -/
def farNode (l : LinkRec) (u : Nat) : Option Nat :=
  if l.a = u && goesAB l then some l.b
  else if l.b = u && goesBA l then some l.a
  else none

/-! ## Seeds (R72 to R74) -/

/-- A seed: the exit that gives it, its cost and its hop. -/
structure Seed where
  exit : Nat
  cost : Cost
  hop  : Nat
deriving DecidableEq, Repr

/-- The portal's advertisement among those held or copied; absent when UNKNOWN. -/
def advertisementOf (portals : List (Nat × Option Advertisement)) (exit : Nat) : Option Advertisement :=
  match portals.find? fun p => decide (p.1 = exit) with
  | some p => p.2
  | none => none

/-- A DOOR's seed cost (R72). -/
def doorSeed (h : Header) (e : ExitRec) (st : ExitState) : Option Cost :=
  match st with
  | .opened => some { x := 0, d := e.bias }
  | .restricted => some { x := 0, d := min Config.maxDistance (e.bias + h.surcharge) }
  | .closed => none

/-- A PORTAL's seed cost and hop (R73). -/
def portalSeed (h : Header) (f : PortalFields) (st : ExitState) (adv : Option Advertisement) : Option (Cost × Nat) :=
  match adv with
  | none => none
  | some a =>
    if a.hop + 1 ≤ Config.hopLimit ∧ a.cost.d < 65535 then
      match st with
      | .opened => some ({ x := a.cost.x, d := min Config.maxDistance (a.cost.d + f.crossing) }, a.hop + 1)
      | .restricted =>
        some ({ x := a.cost.x, d := min Config.maxDistance (a.cost.d + f.crossing + h.surcharge) }, a.hop + 1)
      | .closed => none
    else none

/-- The seed an exit gives its node, from exit states and advertisements (R72, R73). -/
def exitSeed (p : Plan) (exits : List ExitState) (portals : List (Nat × Option Advertisement)) (i : Nat) :
    Option Seed :=
  match p.exits[i]?, exits[i]? with
  | some e, some st =>
    match e.portal with
    | none => (doorSeed p.header e st).map fun c => { exit := i, cost := c, hop := 0 }
    | some f =>
      (portalSeed p.header f st (advertisementOf portals i)).map fun c => { exit := i, cost := c.1, hop := c.2 }
  | _, _ => none

/-- The seed of a node in a snapshot, if it is a seed node (R74). -/
def nodeSeed (p : Plan) (snap : Snapshot) (u : Nat) : Option Seed :=
  match (List.range p.exits.length).find? fun i =>
      match p.exits[i]? with
      | some e => decide (e.node = u)
      | none => false with
  | some i => exitSeed p snap.exits snap.portals i
  | none => none

/-! ## The start of a solve (R77) -/

/-- The portals' advertisements as they stand. -/
def portalsNow (s : State) : List (Nat × Option Advertisement) :=
  s.pp.portals.map fun r => (r.exit, r.advertisement)

/-- The snapshot taken now. -/
def takeSnapshot (s : State) : Snapshot :=
  { weights := s.zh.zones.map zoneWeight, exits := s.rsv.exits, portals := portalsNow s }

/-- A node table with every cost UNREACHABLE (R75). -/
def blankNodes (n : Nat) : List NodeWork :=
  List.replicate n { cost := unreachable, route := none }

/-- The node table at the start of a solve (R74). -/
def seededNodes (p : Plan) (snap : Snapshot) : List NodeWork :=
  (List.range p.header.nodeCount).map fun u =>
    match nodeSeed p snap u with
    | some sd => { cost := sd.cost, route := some (sd.exit, sd.hop) }
    | none => { cost := unreachable, route := none }

/-- A solve starts, when the solver is IDLE, a plan is active and solve wanted is set (R77). -/
def solveStart (s : State) : State :=
  match s.ps.active with
  | none => s
  | some p =>
    if s.rsv.state = .idle ∧ s.rsv.wanted = true then
      let snap := takeSnapshot s
      { s with rsv := { s.rsv with state := .solving, wanted := false, stale := false, passes := 0,
                                   snapshot := some snap, nodes := seededNodes p snap } }
    else s

/-! ## Relaxation (R79 to R81) -/

/-- A node's working values. -/
def workAt (nodes : List NodeWork) (u : Nat) : NodeWork :=
  nodes.getD u { cost := unreachable, route := none }

/-- One try: `to_` takes the candidate through `from_` when it is strictly lower, with its origin and hop (R79, R80). -/
def relaxTry (arc : Arc) (to_ from_ : Nat) (nodes : List NodeWork) : List NodeWork :=
  let cand := extend (workAt nodes from_).cost arc
  if costLt cand (workAt nodes to_).cost then
    nodes.set to_ { cost := cand, route := (workAt nodes from_).route }
  else nodes

/-- The two tries of one link. -/
def relaxLink (weights : List Nat) (nodes : List NodeWork) (l : LinkRec) : List NodeWork :=
  let arc := arcCost weights l
  let towardA := if goesAB l then relaxTry arc l.a l.b nodes else nodes
  if goesBA l then relaxTry arc l.b l.a towardA else towardA

/-- One pass over the link table. -/
def relaxPass (weights : List Nat) (links : List LinkRec) (nodes : List NodeWork) : List NodeWork :=
  links.foldl (relaxLink weights) nodes

/-- The outcome of a solve's passes. -/
structure Converged where
  nodes   : List NodeWork
  passes  : Nat
  limited : Bool
deriving DecidableEq, Repr

/-- Passes until one changes nothing, which is counted, or until as many are made as there are nodes (R81). `left` is
how many passes may still be made and `made` how many have been. -/
def relax (weights : List Nat) (links : List LinkRec) (left made : Nat) (nodes : List NodeWork) : Converged :=
  match left with
  | 0 => { nodes := nodes, passes := made, limited := true }
  | left + 1 =>
    let next := relaxPass weights links nodes
    if next = nodes then { nodes := nodes, passes := made + 1, limited := false }
    else relax weights links left (made + 1) next

/-! ## Heading selection (R90 to R95) -/

/-- A candidate of a node: `none` for its seed, or a link's index, with the candidate cost. -/
structure RouteCandidate where
  link : Option Nat
  cost : Cost
  /-- Origin and hop that choosing it gives (R93). -/
  route : Nat × Nat
deriving DecidableEq, Repr

/-- Origin and hop of a heading that is not NONE. -/
def routeOf : Choice → Option (Nat × Nat)
  | .seed o h => some (o, h)
  | .link _ o h => some (o, h)
  | .none => none

/-- The arc candidate that link `k` gives node `u`, if the strict-descent guard admits it (R90). -/
def arcCandidate (weights : List Nat) (nodes : List NodeWork) (chosen : List Heading) (u k : Nat) (l : LinkRec) :
    Option RouteCandidate :=
  match farNode l u with
  | none => none
  | some v =>
    if costLt (workAt nodes v).cost (workAt nodes u).cost then
      match routeOf (headingAt { records := chosen, seeds := [] } v).choice with
      | some route => some { link := some k, cost := extend (workAt nodes v).cost (arcCost weights l), route := route }
      | none => none
    else none

/-- The candidates of a node, the seed first and then the arcs by rising link index (R90). -/
def candidates (p : Plan) (snap : Snapshot) (nodes : List NodeWork) (chosen : List Heading) (u : Nat) :
    List RouteCandidate :=
  let seed := match nodeSeed p snap u with
    | some sd => [{ link := none, cost := sd.cost, route := (sd.exit, sd.hop) }]
    | none => []
  seed ++ p.links.zipIdx.filterMap fun lk => arcCandidate snap.weights nodes chosen u lk.2 lk.1

/-- The best of a list of candidates: the lowest cost, the earlier among equals (R91). -/
def bestCandidate : List RouteCandidate → Option RouteCandidate
  | [] => none
  | c :: rest =>
    match bestCandidate rest with
    | none => some c
    | some b => if costLt b.cost c.cost then some b else some c

/-- The link that hysteresis holds: the previous heading's link, if it is a candidate of the best one's exposure within
the margin (R92). -/
def heldCandidate (margin : Nat) (prev : Choice) (best : RouteCandidate) (cs : List RouteCandidate) : Option RouteCandidate :=
  match prev with
  | .link k _ _ =>
    match cs.find? fun c => decide (c.link = some k) with
    | some c => if c.cost.x = best.cost.x ∧ c.cost.d ≤ best.cost.d + margin then some c else none
    | none => none
  | _ => none

/-- The choice that a candidate stands for (R91, R93). -/
def choiceOf (c : RouteCandidate) : Choice :=
  match c.link with
  | none => .seed c.route.1 c.route.2
  | some k => .link k c.route.1 c.route.2

/-- A record is marked changed when its kind, or its link, differs from the previous one's (R94). -/
def choiceChanged (prev new : Choice) : Bool :=
  match prev, new with
  | .none, .none => false
  | .seed _ _, .seed _ _ => false
  | .link k _ _, .link j _ _ => decide (k ≠ j)
  | _, _ => true

/-- The heading choice of a node in the previous set, NONE when there is none (R94, R95). -/
def previousChoice (prev : Option HeadingSet) (u : Nat) : Choice :=
  match prev with
  | some set => (headingAt set u).choice
  | none => .none

/-- The heading record of one node (R91, R92, R94). -/
def selectNode (p : Plan) (snap : Snapshot) (nodes : List NodeWork) (prev : Option HeadingSet)
    (chosen : List Heading) (u : Nat) : Heading :=
  let before := previousChoice prev u
  let none_ : Heading := { cost := unreachable, choice := .none, changed := choiceChanged before .none }
  if (workAt nodes u).cost = unreachable then none_
  else
    let cs := candidates p snap nodes chosen u
    match bestCandidate cs with
    | none => none_
    | some best =>
      let picked := (heldCandidate p.header.margin before best cs).getD best
      { cost := (workAt nodes u).cost, choice := choiceOf picked, changed := choiceChanged before (choiceOf picked) }

/-- Places a node among nodes in order of rising cost. -/
def insertByCost (nodes : List NodeWork) (u : Nat) : List Nat → List Nat
  | [] => [u]
  | v :: rest =>
    if costLt (workAt nodes u).cost (workAt nodes v).cost then u :: v :: rest
    else v :: insertByCost nodes u rest

/-- The nodes in order of rising converged cost: each is settled after every node of lower cost (R90). -/
def costOrder (nodes : List NodeWork) : List Nat :=
  (List.range nodes.length).foldl (fun acc u => insertByCost nodes u acc) []

/-- The records with every node still unsettled. -/
def unsettled (n : Nat) : List Heading :=
  List.replicate n { cost := unreachable, choice := .none, changed := false }

/-- The heading records of every node (R90 to R94). -/
def selectHeadings (p : Plan) (snap : Snapshot) (nodes : List NodeWork) (prev : Option HeadingSet) : List Heading :=
  (costOrder nodes).foldl (fun chosen u => chosen.set u (selectNode p snap nodes prev chosen u))
    (unsettled nodes.length)

/-- What is kept of the seeds of a snapshot with the set published from it (R146). -/
def seedNotes (p : Plan) (snap : Snapshot) : List SeedNote :=
  (List.range p.exits.length).filterMap fun i =>
    (exitSeed p snap.exits snap.portals i).map fun sd =>
      let flags := match advertisementOf snap.portals i with
        | some a => (a.isHere, a.already)
        | none => (false, false)
      { exit := i, cost := sd.cost, isHere := flags.1, already := flags.2 }

/-! ## Publication (R84, R86) -/

/-- What a solve's snapshot comes to: the converged values and the selected set. -/
def solveResult (p : Plan) (snap : Snapshot) (nodes : List NodeWork) (prev : Option HeadingSet) :
    Converged × HeadingSet :=
  let c := relax snap.weights p.links p.header.nodeCount 0 nodes
  (c, { records := selectHeadings p snap c.nodes prev, seeds := seedNotes p snap })

/-- The number of records marked changed (R94). -/
def changedCount (set : HeadingSet) : Nat := (set.records.filter (·.changed)).length

/-- The number of records of kind NONE (R86). -/
def noneCount (set : HeadingSet) : Nat := (set.records.filter fun h => decide (h.choice = .none)).length

/-- The Route Solver's part of a publication: the set, the epoch, the last-solve report, and IDLE (R83, R84). With no
solve running R75 gives the snapshot and the pass count no value: the snapshot is emptied and the pass count keeps the
ended solve's (log entry 42). -/
def publishSet (c : Converged) (set : HeadingSet) (s : State) : State :=
  { s with rsv := { s.rsv with
      state := .idle, snapshot := none, nodes := c.nodes, passes := c.passes, published := some set,
      epoch := (s.rsv.epoch + 1) % 65536, report := some { passes := c.passes, limited := c.limited } } }

/-- The counters and notices of a publication, in the order of R86; `stale` is the flag at the end of the solve. -/
def announce (c : Converged) (set : HeadingSet) (stale : Bool) (s : State) : State :=
  let s1 := fire .solveDone 1 s
  let s2 := if stale then fire .solveStale 1 s1 else s1
  let s3 := fire .headingChange (changedCount set) s2
  let s4 :=
    raise (.routePublished s3.rsv.epoch c.passes c.limited stale (changedCount set) (noneCount set)) s3
  if s4.zh.evac = .active then checkNoRoute s4 else s4

end Sys2Proof.Machine
end

