-- ==== Sys2Proof/Machine/Peer.lean ====
section
/-! DEFINITION. The Peer Ports: ADVERT frames received and sent, port states, ageing and portals (R134 to R153). -/

namespace Sys2Proof.Machine

/-! ## ADVERT frames received (R136, R187) -/

/-- One entry's seven bytes; the fields of an UNKNOWN entry are not looked at. -/
def readEntry (bs : List Byte) : Option AdvertEntry :=
  match bs with
  | [e, x1, x2, d1, d2, hop, fl] =>
    let flags := fl.toNat % 8
    let unknown := decide (4 ≤ flags)
    if e.toNat ≤ 31 ∧ (unknown = true ∨ hop.toNat ≤ 3) then
      some { exit := e.toNat, cost := { x := num2 x1 x2, d := num2 d1 d2 }, hop := hop.toNat,
             isHere := decide (flags % 2 = 1), already := decide (2 ≤ flags % 4), unknown := unknown }
    else none
  | _ => none

/-- The entries of a frame. -/
def readEntries : Nat → List Byte → Option (List AdvertEntry)
  | 0, bs => if bs.isEmpty then some [] else none
  | n + 1, bs =>
    match readEntry (bs.take 7), readEntries n (bs.drop 7) with
    | some e, some rest => some (e :: rest)
    | _, _ => none

/-- The exit indices rise strictly. -/
def entriesRise : List AdvertEntry → Bool
  | [] => true
  | [_] => true
  | a :: b :: rest => decide (a.exit < b.exit) && entriesRise (b :: rest)

/-- A frame body as a valid ADVERT, `none` when it is none. -/
def readAdvert (body : List Byte) : Option Advert :=
  match body with
  | k :: st :: p1 :: p2 :: n :: rest =>
    if k = 0x30 ∧ n.toNat ≤ 8 ∧ 1 ≤ st.toNat ∧ st.toNat ≤ 15 ∧ 1 ≤ num2 p1 p2 then
      match readEntries n.toNat rest with
      | some es => if entriesRise es then some { station := st.toNat, planId := num2 p1 p2, entries := es } else none
      | none => none
    else none
  | _ => none

/-! ## Portals and port states (R138 to R142) -/

/-- A portal's seed data: its freshness and, while LIVE, its advertised cost and hop (R142). -/
def seedData (a : Option Advertisement) : Option (Cost × Nat) := a.map fun x => (x.cost, x.hop)

/-- The matching entry's advertisement, absent when UNKNOWN or unmatched (R141). -/
def matchedAdvert (entries : List AdvertEntry) (remote : Nat) : Option Advertisement :=
  match entries.find? fun e => decide (e.exit = remote) with
  | some e =>
    if e.unknown then none else some { cost := e.cost, hop := e.hop, isHere := e.isHere, already := e.already }
  | none => none

/-- The portal fields of an exit, when it is a portal of a port. -/
def portalOnPort (p : Plan) (exit : Nat) (port : PeerPort) : Option PortalFields :=
  match portalOf p exit with
  | some f => if f.port = port then some f else none
  | none => none

/-- The portal records after a port's portals take new advertisements. -/
def updatePortals (p : Option Plan) (port : PeerPort) (adv : Nat → Option Advertisement)
    (portals : List PortalRun) : List PortalRun :=
  portals.map fun r =>
    match p with
    | none => r
    | some plan =>
      match portalOnPort plan r.exit port with
      | some f => { r with advertisement := adv f.remote }
      | none => r

/-- The exits whose portals' seed data or flags differ, in rising order. -/
def changedExits (old new : List PortalRun) : List Nat :=
  ((old.zip new).filter fun x => decide (x.1.advertisement ≠ x.2.advertisement)).map fun x => x.1.exit

/-- Whether some portal's seed data differ. -/
def seedDataChanged (old new : List PortalRun) : Bool :=
  (old.zip new).any fun x => decide (seedData x.1.advertisement ≠ seedData x.2.advertisement)

/-- The number of a port's portals that are LIVE. -/
def liveOnPort (p : Option Plan) (port : PeerPort) (portals : List PortalRun) : Nat :=
  match p with
  | none => 0
  | some plan => (portals.filter fun r => (portalOnPort plan r.exit port).isSome && r.advertisement.isSome).length

/-- A solve is wanted if a condition holds. -/
def wantSolveIf (c : Bool) (s : State) : State := if c then wantSolve s else s

/-- A flag rises if a condition holds. -/
def raiseIf (c : Bool) (body : NoticeBody) (s : State) : State := if c then raise body s else s

/-- A port takes a state and its portals take advertisements by their remote exit index, with the consequences of R140
and R142: LINE_STATE at a change of the port state, solve wanted at a change of seed data, and one PORTAL_CHANGE
(log entry 30). -/
def setPort (port : PeerPort) (new : PortState) (adv : Nat → Option Advertisement) (s : State) : State :=
  let old := (portGet s.pp port).state
  let before := s.pp.portals
  let after := updatePortals s.ps.active port adv before
  let changed := changedExits before after
  let s1 := s.onPort port fun r => { r with state := new }
  let s2 : State := { s1 with pp := { s1.pp with portals := after } }
  let s3 := raiseIf (decide (old ≠ new)) (.lineState (portNumber port) (.port new) none) s2
  let s4 := wantSolveIf (seedDataChanged before after) s3
  raiseIf (decide (old = .up ∧ new ≠ .up) || !changed.isEmpty)
    (.portalChange port new (liveOnPort s.ps.active port after) changed.head?) s4

/-- Every portal of the port becomes UNKNOWN. -/
def noAdvert : Nat → Option Advertisement := fun _ => none

/-- A valid ADVERT is taken by a port in use (R137, R138, R141). -/
def advertTaken (port : PeerPort) (expected : Nat) (a : Advert) (s : State) : State :=
  let s1 := (fire .advertTaken 1 s).onPort port fun r =>
    { r with station := some a.station, planId := some a.planId, age := some (ageTicks s) }
  if a.station = expected then setPort port .up (matchedAdvert a.entries) s1
  else
    let s2 :=
      if (portGet s.pp port).state = .miswired then s1 else capture .portMiswired (portNumber port) s1
    setPort port .miswired noAdvert s2

/-- An invalid frame of a port in use; `err` when a character of it was in error (R137). -/
def advertInvalid (port : PeerPort) (err : Bool) (s : State) : State :=
  if err then capture .lineCharError (portNumber port) s else s

/-- What a port's receiver hands on; an unused port discards it unjudged (R137). -/
def advertEvent (port : PeerPort) (s : State) (ev : RxEvent) : State :=
  match s.ps.active with
  | none => s
  | some p =>
    if expectedId p.header port = 0 then s
    else match ev with
      | .badCheck err => advertInvalid port err s
      | .frame body err =>
        if err then advertInvalid port true s
        else match readAdvert body with
          | some a => advertTaken port (expectedId p.header port) a s
          | none => advertInvalid port false s

/-- One character on a peer port; a HALTED one receives nothing. -/
def advertChar (port : PeerPort) (s : State) (c : RxChar) : State :=
  let line := lineGet s.lines (portLine port)
  match line.mark with
  | .halted => s
  | .running =>
    let r := receiveChar line.inUse line.rx c
    r.1.foldl (advertEvent port) (s.onLine (portLine port) fun l => { l with rx := r.2 })

/-- The gap rule aborts the frame being received on a peer port (R136, R137). -/
def advertGap (port : PeerPort) (s : State) : State :=
  let line := lineGet s.lines (portLine port)
  let s1 := s.onLine (portLine port) fun l => { l with rx := [] }
  if line.rx.any (charError line.inUse) && portInUse s port then capture .lineCharError (portNumber port) s1 else s1

/-- The age timer expires (R139). -/
def ageExpiry (port : PeerPort) (s : State) : State :=
  if timerDue (portGet s.pp port).age then
    setPort port .down noAdvert
      (capture .peerDown (portNumber port) (s.onPort port fun r => { r with age := none }))
  else s

/-! ## Sending (R144 to R149) -/

/-- An UNKNOWN entry (R147). -/
def unknownEntry (exit : Nat) : AdvertEntry :=
  { exit := exit, cost := unreachable, hop := 0, isHere := false, already := false, unknown := true }

/-- The seed cost kept for an exit, and its flags (R146). -/
def noteOf (set : HeadingSet) (exit : Nat) : Option SeedNote :=
  set.seeds.find? fun n => decide (n.exit = exit)

/-- A cost entry for an exit, from its node's heading with origin `origin` and hop `hop` (R145, R146). -/
def costEntry (set : HeadingSet) (exit : Nat) (cost : Cost) (origin hop : Nat) : AdvertEntry :=
  match noteOf set origin with
  | some n =>
    { exit := exit, cost := cost, hop := hop, isHere := decide (n.cost.x < cost.x), already := n.isHere || n.already,
      unknown := false }
  | none => { exit := exit, cost := cost, hop := hop, isHere := false, already := false, unknown := false }

/-- The entry of a portal's exit in a frame sent on its port (R145 to R147). -/
def buildEntry (p : Plan) (published : Option HeadingSet) (port : PeerPort) (st : PortState) (exit : Nat) :
    AdvertEntry :=
  match published, p.exits[exit]? with
  | some set, some e =>
    let h := headingAt set e.node
    match routeOf h.choice with
    | none => unknownEntry exit
    | some (origin, hop) =>
      if st = .miswired ∨ onPort p origin port = true then unknownEntry exit
      else costEntry set exit h.cost origin hop
  | _, _ => unknownEntry exit

/-- The PORTAL exits of a port, ascending. -/
def exitsOnPort (p : Plan) (port : PeerPort) : List Nat :=
  (List.range p.exits.length).filter fun i => onPort p i port

/-- The frame a port sends now (R145). -/
def buildAdvert (p : Plan) (published : Option HeadingSet) (port : PeerPort) (st : PortState) : Advert :=
  { station := p.header.ownId, planId := p.header.planId
    entries := (exitsOnPort p port).map (buildEntry p published port st) }

/-- A send trigger on a port (R144). -/
def sendTrigger (port : PeerPort) (s : State) : State :=
  match s.ps.active with
  | none => s
  | some p =>
    if expectedId p.header port = 0 ∨ s.mark (portLine port) = .halted then s
    else
      let r := portGet s.pp port
      if r.spacing.isNone && r.sending.isNone then
        s.onPort port fun r =>
          { r with sending := some { frame := buildAdvert p s.rsv.published port r.state, former := false } }
      else s.onPort port fun r => { r with sendPending := true }

/-- The last sent entries after a frame (R145). -/
def recordEntries (entries : List AdvertEntry) (portals : List PortalRun) : List PortalRun :=
  portals.map fun r =>
    match entries.find? fun e => decide (e.exit = r.exit) with
    | some e => { r with lastSent := some e }
    | none => r

/-- The last character of an ADVERT has been sent (R144, R145). A frame begun under a plan since replaced sets no last
sent entry of the new plan's portals (log entry 25). On a port that the plan in force does not use the spacing timer does
not start: the model's choice, because R144 starts it after every ADVERT and R148 stops it on such a port (log
entry 46). -/
def advertSent (port : PeerPort) (s : State) : State :=
  match (portGet s.pp port).sending with
  | none => s
  | some f =>
    let s1 := fire .advertSent 1 s
    let s2 := s1.onPort port fun r =>
      { r with sending := none, spacing := if portInUse s port then some (spacingTicks s) else none }
    if f.former then s2
    else { s2 with pp := { s2.pp with portals := recordEntries f.frame.entries s2.pp.portals } }

/-- The spacing timer expires, and a pending send is made (R144). -/
def spacingExpiry (port : PeerPort) (s : State) : State :=
  let r := portGet s.pp port
  if timerDue r.spacing then
    let s1 := s.onPort port fun r => { r with spacing := none, sendPending := false }
    if r.sendPending then sendTrigger port s1 else s1
  else s

/-- The advertise timer expires: it reloads, and triggers a send (R144). -/
def advertiseExpiry (port : PeerPort) (s : State) : State :=
  if timerDue (portGet s.pp port).advertise then
    sendTrigger port (s.onPort port fun r => { r with advertise := some (advertiseTicks s) })
  else s

/-! ## Halt and run (R140, R148) -/

/-- A RUNNING port is halted. -/
def haltPort (port : PeerPort) (s : State) : State :=
  let old := (portGet s.pp port).state
  let s1 := (s.onLine (portLine port) fun l => { l with mark := .halted, rx := [] }).onPort port fun r =>
    { r with age := none, advertise := none, spacing := none, sendPending := false, sending := none }
  let s2 := if portInUse s port && decide (old ≠ .down) then capture .peerDown (portNumber port) s1 else s1
  setPort port .down noAdvert s2

/-- A HALTED port runs. -/
def runPort (port : PeerPort) (s : State) : State :=
  let s1 := s.onLine (portLine port) fun l => { l with mark := .running, inUse := l.format, rx := [] }
  if portInUse s port then
    sendTrigger port (s1.onPort port fun r => { r with advertise := some (advertiseTicks s) })
  else s1

/-! ## The swap and the start (R19, R135, R148, R152) -/

/-- The portal records of a plan, each UNKNOWN. -/
def newPortals (p : Plan) : List PortalRun :=
  ((List.range p.exits.length).filter fun i => (portalOf p i).isSome).map fun i =>
    { exit := i, advertisement := none, lastSent := none }

/-- A port at a swap, the new plan being active and its portals built. -/
def swapPort (port : PeerPort) (s : State) : State :=
  let s1 := s.onPort port fun r =>
    { r with sendPending := false, sending := r.sending.map fun f => { f with former := true } }
  if portInUse s port then
    if s.mark (portLine port) = .running then
      s1.onPort port fun r => { r with advertise := some (advertiseTicks s) }
    else s1
  else
    setPort port .down noAdvert
      (s1.onPort port fun r => { r with age := none, advertise := none, spacing := none })

/-- The Peer Ports at a swap, the new plan being active. Port A is taken first: where the swap takes both ports out of
use, A's change is the one that a clear LINE_STATE or PORTAL_CHANGE flag records, the model's choice (log entry 47). -/
def swapPeers (p : Plan) (s : State) : State :=
  swapPort .b (swapPort .a { s with pp := { s.pp with portals := newPortals p } })

/-- A port's record after a reset, by the active plan and the line mark (R134). -/
def startedPort (p : Option Plan) (port : PeerPort) (mark : LineMark) : PortRec :=
  match p with
  | none => portReset
  | some plan =>
    if expectedId plan.header port ≠ 0 ∧ mark = .running then
      { portReset with advertise := some (timingTicks plan.header.advertise) }
    else portReset

end Sys2Proof.Machine
end

