-- ==== Sys2Proof/Machine/PlanCheck.lean ====
section
/-! DEFINITION. The plan check (R14, R15) and the plan that a staging bank which passed it holds (R17). -/

namespace Sys2Proof.Machine

/-! ## Searching a section -/

/-- The lowest index from `i` on whose record fails a test that may look at the records before it, latest first. -/
def firstFailure {α : Type} (fails : List α → α → Bool) (earlier : List α) (i : Nat) : List α → Option Nat
  | [] => none
  | x :: rest => if fails earlier x then some i else firstFailure fails (x :: earlier) (i + 1) rest

/-- The lowest index whose record fails a test of its own. -/
def firstBad {α : Type} (bad : α → Bool) (xs : List α) : Option Nat :=
  firstFailure (fun _ x => bad x) [] 0 xs

/-- The lowest absent index below a count. -/
def firstAbsent {α : Type} (slots : Slots α) (count : Nat) : Option Nat :=
  (List.range count).find? fun i => (slotGet slots i).isNone

/-- Whether a list of numbers names one twice. -/
def repeats : List Nat → Bool
  | [] => false
  | n :: rest => rest.contains n || repeats rest

/-! ## The plan a staging bank holds (R17 step 1) -/

/-- The plan of a header and a staging bank's records below its counts. -/
def planOf (g : Staging) (h : Header) : Plan :=
  { header := h
    nodes := slotDense g.nodes h.nodeCount
    links := slotDense g.links h.linkCount
    zones := slotDense g.zones h.zoneCount
    windows := slotDense g.windows h.windowCount
    exits := slotDense g.exits h.exitCount
    signs := slotDense g.signs h.signCount }

/-- The plan a staging bank holds, if its header is present. -/
def stagedPlan (g : Staging) : Option Plan := (slotGet g.header 0).map (planOf g)

/-! ## The reasons -/

/-- A reason's failure at an index of a section. -/
def failureAt (reason : CheckReason) (sect : Section) (i : Option Nat) : Option FailureReport :=
  i.map fun n => { reason := reason, sect := sect, index := n }

/-- A reason's failure reported at HEADER 0. -/
def failureOfHeader (reason : CheckReason) (fails : Bool) : Option FailureReport :=
  if fails then some { reason := reason, sect := .header, index := 0 } else none

/-- Reason 1, the sections after the header in the order of 1.2 (log entry 18). -/
def missingIn (g : Staging) (h : Header) : Option FailureReport :=
  failureAt .sectionMissing .nodes (firstAbsent g.nodes (min h.nodeCount Config.maxNodes)) <|>
  failureAt .sectionMissing .links (firstAbsent g.links (min h.linkCount Config.maxLinks)) <|>
  failureAt .sectionMissing .zones (firstAbsent g.zones (min h.zoneCount Config.maxZones)) <|>
  failureAt .sectionMissing .windows (firstAbsent g.windows (min h.windowCount Config.maxWindows)) <|>
  failureAt .sectionMissing .exits (firstAbsent g.exits (min h.exitCount Config.maxExits)) <|>
  failureAt .sectionMissing .signs (firstAbsent g.signs (min h.signCount Config.maxSigns))

/-- Reason 2. -/
def countsBad (h : Header) : Bool :=
  decide (h.planId = 0 ∨ h.nodeCount = 0 ∨ Config.maxNodes < h.nodeCount ∨ Config.maxLinks < h.linkCount ∨
    Config.maxZones < h.zoneCount ∨ Config.maxWindows < h.windowCount ∨ Config.maxExits < h.exitCount ∨
    Config.maxSigns < h.signCount)

/-- Reason 3. -/
def endpointBad (h : Header) (l : LinkRec) : Bool :=
  decide (h.nodeCount ≤ l.a ∨ h.nodeCount ≤ l.b ∨ l.a = l.b)

/-- The number of links with a node as an endpoint. -/
def degree (links : List LinkRec) (u : Nat) : Nat :=
  (links.filter fun l => decide (l.a = u ∨ l.b = u)).length

/-- Reason 6. -/
def alignBad (w : WindowRec) : Bool :=
  decide (w.base = 0 ∨ w.base % w.size ≠ 0 ∨ 1023 < w.base + w.size - 1)

/-- Two windows share an address. -/
def windowsMeet (v w : WindowRec) : Bool :=
  decide (v.base < w.base + w.size ∧ w.base < v.base + v.size)

/-- Reason 9. -/
def exitNodeBad (h : Header) (earlier : List ExitRec) (e : ExitRec) : Bool :=
  decide (h.nodeCount ≤ e.node) || earlier.any fun d => decide (d.node = e.node)

/-- Reason 10. -/
def ninthPortal (earlier : List ExitRec) (e : ExitRec) : Bool :=
  e.portal.isSome && decide (Config.maxPortals ≤ (earlier.filter fun d => d.portal.isSome).length)

/-- Reason 11. -/
def portalPortBad (h : Header) (e : ExitRec) : Bool :=
  match e.portal with
  | some f => decide (expectedId h f.port = 0)
  | none => false

/-- Reason 12. -/
def signAddressBad (earlier : List SignRec) (g : SignRec) : Bool :=
  decide (g.address = 0 ∨ 250 < g.address) || earlier.any fun d => decide (d.address = g.address)

/-- A map entry names a link at or beyond the link count, or one neither of whose endpoints is the node. -/
def mapEntryBad (links : List LinkRec) (node : Nat) (e : Nat × Nat) : Bool :=
  match links[e.1]? with
  | some l => decide (l.a ≠ node ∧ l.b ≠ node)
  | none => true

/-- A link permits travel out of a node. -/
def permitsOut (l : LinkRec) (u : Nat) : Bool := (farNode l u).isSome

/-- A link that permits travel out of the node is named by no entry. -/
def unnamedLink (links : List LinkRec) (g : SignRec) : Bool :=
  links.zipIdx.any fun lk => permitsOut lk.1 g.node && !(g.map.map (·.1)).contains lk.2

/-- Reason 14. -/
def signMapBad (links : List LinkRec) (g : SignRec) : Bool :=
  g.map.any (mapEntryBad links g.node) || repeats (g.map.map (·.1)) || repeats (g.map.map (·.2)) ||
    unnamedLink links g

/-- Reason 15. -/
def signGroupBad (g : SignRec) : Bool :=
  g.groups.any (fun n => decide (15 < n)) || repeats g.groups

/-- The reasons that need the header, in the order of R15. -/
def checkWithHeader (g : Staging) (h : Header) : Option FailureReport :=
  let p := planOf g h
  missingIn g h <|>
  failureOfHeader .countRange (countsBad h) <|>
  failureAt .linkEndpoint .links (firstBad (endpointBad h) p.links) <|>
  failureAt .linkZone .links (firstBad (fun l => decide (h.zoneCount ≤ l.zone)) p.links) <|>
  failureAt .nodeDegree .nodes ((List.range h.nodeCount).find? fun u => decide (8 < degree p.links u)) <|>
  failureAt .windowAlign .windows (firstBad alignBad p.windows) <|>
  failureAt .windowOverlap .windows (firstFailure (fun before w => before.any (windowsMeet w)) [] 0 p.windows) <|>
  failureAt .windowZone .windows (firstBad (fun w => decide (h.zoneCount ≤ w.zone)) p.windows) <|>
  failureAt .exitNode .exits (firstFailure (exitNodeBad h) [] 0 p.exits) <|>
  failureAt .portalCount .exits (firstFailure ninthPortal [] 0 p.exits) <|>
  failureAt .portalPort .exits (firstBad (portalPortBad h) p.exits) <|>
  failureAt .signAddress .signs (firstFailure signAddressBad [] 0 p.signs) <|>
  failureAt .signNode .signs (firstBad (fun x => decide (h.nodeCount ≤ x.node)) p.signs) <|>
  failureAt .signMap .signs (firstBad (signMapBad p.links) p.signs) <|>
  failureAt .signGroup .signs (firstBad signGroupBad p.signs) <|>
  failureOfHeader .noExit (decide (h.exitCount = 0))

/-- The check of a staging bank: its first failing reason, or none (R15). -/
def planCheck (g : Staging) : Option FailureReport :=
  match slotGet g.header 0 with
  | none => failureOfHeader .sectionMissing true
  | some h => checkWithHeader g h

/-! ## The end of a check (R14) -/

/-- A staging bank at the end of its check. -/
def checkedStaging (g : Staging) : Staging :=
  match planCheck g with
  | none => { g with stage := .passed, failure := none }
  | some f => { g with stage := .failed, failure := some f }

/-- The plan id that a PLAN_EVENT notice of the staging bank carries: its header's, 0 with no header. -/
def stagedPlanId (g : Staging) : Nat :=
  match slotGet g.header 0 with
  | some h => h.planId
  | none => 0

/-- The outcome of a check. -/
def checkOutcome (g : Staging) : PlanOutcome := if (planCheck g).isSome then .failed else .passed

/-- The check in progress ends: the stage, the failure report and PLAN_EVENT (R14). -/
def endCheck (s : State) : State :=
  if s.ps.staging.stage = .checking then
    raise (.planEvent (checkOutcome s.ps.staging) (stagedPlanId s.ps.staging) (planCheck s.ps.staging))
      { s with ps := { s.ps with staging := checkedStaging s.ps.staging } }
  else s

end Sys2Proof.Machine
end

