-- ==== Sys2Proof/Machine/PlanImage.lean ====
section
/-! DEFINITION. The image of a plan in plan memory: its bytes, its check value, and the plan read from it (R20, R21,
R182). The manual gives the image no layout; the model's is the header's record and then every other section's records
in index order, section by section as 1.2 lists them, each in the layout of R190, with ones for an absent label (log
entry 9). -/

namespace Sys2Proof.Machine

/-! ## Writing (R20 step 2) -/

/-- The image of a plan. -/
def imageBytes (p : Plan) : List Byte :=
  headerBytes p.header ++ p.nodes.flatMap (nodeBytes [onesByte, onesByte]) ++ p.links.flatMap linkBytes ++
    p.zones.flatMap zoneBytes ++ p.windows.flatMap windowBytes ++ p.exits.flatMap exitBytes ++
    p.signs.flatMap signBytes

/-! ## The check value (R20 steps 3 and 4, R182) -/

/-- Whether the stored check value is the CRC-16 of the image. -/
def memoryMatches (m : PlanMemory) : Bool := decide (m.check = some (crc16 m.image))

/-! ## Reading (R21) -/

/-- Reads `count` records of a section from the head of the bytes, with the bytes after them. -/
def readSection {α : Type} (sect : Section) (read : List Byte → Option (Stored α)) :
    Nat → List Byte → Option (List α × List Byte)
  | 0, bs => some ([], bs)
  | n + 1, bs =>
    match recordLength sect bs with
    | .length k =>
      match read (bs.take k), readSection sect read n (bs.drop k) with
      | some x, some (xs, rest) => some (x.1 :: xs, rest)
      | _, _ => none
    | _ => none

/-- The plan that an image holds, `none` when its bytes are no plan's. -/
def planOfImage (bs : List Byte) : Option Plan := do
  let (headers, bs) ← readSection .header readHeader 1 bs
  let h ← headers.head?
  let (nodes, bs) ← readSection .nodes readNode h.nodeCount bs
  let (links, bs) ← readSection .links readLink h.linkCount bs
  let (zones, bs) ← readSection .zones readZone h.zoneCount bs
  let (windows, bs) ← readSection .windows readWindow h.windowCount bs
  let (exits, bs) ← readSection .exits readExit h.exitCount bs
  let (signs, bs) ← readSection .signs readSign h.signCount bs
  if bs.isEmpty then
    some { header := h, nodes := nodes, links := links, zones := zones, windows := windows, exits := exits,
           signs := signs }
  else none

end Sys2Proof.Machine
end

