-- ==== Sys2Proof/Machine/Faces.lean ====
section
/-! DEFINITION. The composition of sign faces: base faces, emphasis and group overrides (R97 to R107), and the cycle
order (R117). -/

namespace Sys2Proof.Machine

/-- The face of a removed address (R124): BLANK, STEADY, level 0. -/
def blankFace : Face := { symbol := .blank, flash := .steady, level := 0 }

/-! ## Base faces (R98) -/

/-- The level of base faces in an evacuation state. -/
def stateLevel (h : Header) : EvacState → Nat
  | .quiet => h.quietLevel
  | .alert => h.alertLevel
  | .active => h.activeLevel

/-- dir(k): the direction an arrow map gives to a link. -/
def mapDirection (map : List (Nat × Nat)) (link : Nat) : Option Nat :=
  (map.find? fun e => decide (e.1 = link)).map (·.2)

/-- The base symbol of a node of kind NONE. -/
def noneSymbol : EvacState → FaceSymbol
  | .quiet => .blank
  | .alert | .active => .noRoute

/-- The base symbol of a sign, from the heading of its node. R98 gives an entry for every LINK heading; for a link
without one, which the plan check rules out, the symbol is NONE's (log entry 28). -/
def baseSymbol (map : List (Nat × Nat)) (choice : Choice) (evac : EvacState) : FaceSymbol :=
  match choice with
  | .seed _ _ => .exitHere
  | .none => noneSymbol evac
  | .link k _ _ =>
    match mapDirection map k with
    | some d => .arrow d
    | none => noneSymbol evac

/-- An arrow's flash in ACTIVE, by its sign's emphasis timer (R101). -/
def emphasisFlash (timer : Timer) : Flash := if timer.isSome then .fast else .slow

/-- The base face with a base symbol. -/
def baseFace (h : Header) (evac : EvacState) (symbol : FaceSymbol) (timer : Timer) : Face :=
  match symbol, evac with
  | .arrow d, .active => { symbol := .arrow d, flash := emphasisFlash timer, level := h.activeLevel }
  | .exitHere, .active => { symbol := .exitHere, flash := .slow, level := h.activeLevel }
  | .noRoute, ev => { symbol := .noRoute, flash := .fast, level := stateLevel h ev }
  | .blank, _ => blankFace
  | sym, ev => { symbol := sym, flash := .steady, level := stateLevel h ev }

/-! ## Emphasis (R100) -/

/-- The emphasis timer after a cycle start's update. -/
def emphasisUpdate (evac : EvacState) (lastBase : Option FaceSymbol) (base : FaceSymbol) (ticks : Nat)
    (timer : Timer) : Timer :=
  match lastBase with
  | none => timer
  | some old => if evac = .active ∧ base ≠ old then some ticks else timer

/-! ## Group overrides (R106, R107) -/

/-- A group is skipped when it is not enabled, and when it is NORMAL in ACTIVE. -/
def groupSkipped (evac : EvacState) (g : GroupRec) : Bool :=
  !g.enabled || decide (g.cls = .normal ∧ evac = .active)

/-- A group's foreground laid over a face in the fields its mask names. -/
def overlay (g : GroupRec) (f : Face) : Face :=
  { symbol := if g.maskSymbol then g.face.symbol else f.symbol
    flash := if g.maskFlash then g.face.flash else f.flash
    level := if g.maskLevel then g.face.level else f.level }

/-- The groups of a sign that apply, in ascending group number. -/
def applyingGroups (table : Vector GroupRec 16) (groups : List Nat) (evac : EvacState) : List GroupRec :=
  (table.toList.zipIdx.filter fun g => groups.contains g.2 && !groupSkipped evac g.1).map (·.1)

/-- A face under a list of groups, applied in order. -/
def overlaid (gs : List GroupRec) (f : Face) : Face := gs.foldl (fun face g => overlay g face) f

/-- Whether a symbol is an arrow. -/
def isArrow : FaceSymbol → Bool
  | .arrow _ => true
  | _ => false

/-! ## One sign at a cycle start (R98 to R107) -/

/-- The sign's record after a cycle start: emphasis timer, last base and composed face. -/
def composeSign (h : Header) (table : Vector GroupRec 16) (evac : EvacState) (ticks : Nat) (set : HeadingSet)
    (rec_ : SignRec) (g : SignRun) : SignRun :=
  let base := baseSymbol rec_.map (headingAt set g.node).choice evac
  let timer := emphasisUpdate evac g.lastBase base ticks g.emphasis
  let gs := applyingGroups table rec_.groups evac
  { g with
    composed := some (overlaid gs (baseFace h evac base timer))
    flashOpen := isArrow base && decide (evac = .active) && !gs.any (·.maskFlash)
    emphasis := timer
    lastBase := some base }

/-- Every sign's record after a cycle start. -/
def composeAll (p : Plan) (table : Vector GroupRec 16) (evac : EvacState) (set : HeadingSet)
    (signs : List SignRun) : List SignRun :=
  signs.zipIdx.map fun x =>
    match p.signs[x.2]? with
    | some rec_ => composeSign p.header table evac (timingTicks p.header.emphasis) set rec_ x.1
    | none => x.1

/-- The face a SHOW frame carries: the composed face, its flash settled from the emphasis timer as it stands
(R101, R102, R118). -/
def settledFace (g : SignRun) : Face :=
  match g.composed with
  | none => blankFace
  | some f => if g.flashOpen then { f with flash := emphasisFlash g.emphasis } else f

/-! ## The cycle order (R117) -/

/-- Whether a sign is placed in the order of a cycle: a LOST one only when the cycle number is 0. -/
def placed (number : Nat) (g : SignRun) : Bool := decide (g.state ≠ .lost ∨ number = 0)

/-- Whether a sign's composed face differs from its last face sent, or no face has been sent. -/
def faceChanged (g : SignRun) : Bool := g.lastFace.isNone || decide (g.lastFace ≠ g.composed)

/-- The cycle order: BLANK frames, then changed signs, then the others. -/
def cycleOrder (removal : List Nat) (number : Nat) (signs : List SignRun) : List OrderEntry :=
  let here := signs.zipIdx.filter fun g => placed number g.1
  removal.map .blank ++ (here.filter fun g => faceChanged g.1).map (fun g => .sign g.2) ++
    (here.filter fun g => !faceChanged g.1).map fun g => .sign g.2

end Sys2Proof.Machine
end

