-- ==== Sys2Proof/Machine/SignLine.lean ====
section
/-! DEFINITION. The Sign Line Controller: cycles, exchanges, sign health, cuts, swap and halting (R111 to R131). -/

namespace Sys2Proof.Machine

/-- Changes the Sign Line Controller in the state. -/
def State.onSlc (s : State) (f : SignLine → SignLine) : State := { s with slc := f s.slc }

/-! ## Cycle starts (R116, R125) -/

/-- A cycle start on a plan: the adopted set, group table and evacuation state, the composed faces, and the order. -/
def cycleStartOn (p : Plan) (set : HeadingSet) (epoch : Nat) (evac : EvacState) (c : SignLine) : SignLine :=
  let number := (c.number + 1) % 8
  let signs := composeAll p c.groups evac set c.signs
  { c with
    cycle := .cycling, number := number, startPending := false, cutPending := false, startWaiting := false
    adopted := some { set := set, epoch := epoch }
    noRouteCount := (signedNone p set).length
    adoptedGroups := some c.groups
    cycleEvac := evac
    signs := signs
    order := cycleOrder c.removal number signs
    position := 0 }

/-- The start of a FALLBACK cycle, whose frame begins at once (R125). -/
def fallbackStart (c : SignLine) : SignLine :=
  { c with
    cycle := .cycling, number := (c.number + 1) % 8, startPending := false, startWaiting := false
    order := [], position := 0
    exchange := some { target := .fallback, address := 255, face := blankFace, epochByte := 0, phase := .sending } }

/-- The low eight bits of the adopted epoch (R118). -/
def epochByteOf (c : SignLine) : Nat :=
  match c.adopted with
  | some a => a.epoch % 256
  | none => 0

/-- The frame of an entry of the cycle order, as it begins to be sent (R118, R124). -/
def entryFrame (c : SignLine) : OrderEntry → Exchange
  | .blank a =>
    { target := .blank, address := a, face := blankFace, epochByte := epochByteOf c, phase := .sending }
  | .sign i =>
    match c.signs[i]? with
    | some g =>
      { target := .sign i, address := g.address, face := settledFace g, epochByte := epochByteOf c, phase := .sending }
    | none =>
      { target := .blank, address := 0, face := blankFace, epochByte := epochByteOf c, phase := .sending }

/-- The frame at the position of the order begins; a cycle whose order is empty ends as it starts (R117, R126). -/
def beginEntry (c : SignLine) : SignLine :=
  match c.order[c.position]? with
  | some e => { c with exchange := some (entryFrame c e) }
  | none => { c with cycle := .idle, exchange := none }

/-- A cycle starts. On a plan there is always a published set to adopt outside DORMANT (R114). -/
def cycleStart (s : State) : State :=
  match s.ps.active with
  | none => s.onSlc fallbackStart
  | some p =>
    match s.rsv.published with
    | some set => s.onSlc fun c => beginEntry (cycleStartOn p set s.rsv.epoch s.zh.evac c)
    | none => s

/-- A cycle starts at once, or as soon as the frame still on the line has ended (R128, log entry 21). -/
def requestStart (s : State) : State :=
  if s.slc.exchange.isSome then s.onSlc fun c => { c with startWaiting := true } else cycleStart s

/-- The refresh timer is restarted with the setting in force, or made idle (R113, R114, R127, R131). -/
def restartRefresh (s : State) : State := s.onSlc fun c => { c with refresh := refreshSetting s }

/-! ## The end of an exchange and of a cycle (R115, R126, R127) -/

/-- A cycle whose last exchange has ended: IDLE, or the next cycle at once. -/
def cycleEnd (s : State) : State :=
  let s1 := s.onSlc fun c => { c with cycle := .idle }
  if s.mark .sign = .halted then s1
  else if s.slc.startPending then
    cycleStart (fire .cycleOverrun 1 (s1.onSlc fun c => { c with startPending := false }))
  else if backToBack s && !s.slc.order.isEmpty then cycleStart s1
  else s1

/-- A cut: CYCLE_CUT fires, the refresh timer is restarted and a new cycle starts (R127). -/
def cycleCut (s : State) : State :=
  cycleStart (restartRefresh (fire .cycleCut 1
    (s.onSlc fun c => { c with startPending := false, cutPending := false, cycle := .idle })))

/-- The exchange or frame on the line has ended: a cut, the next entry, the end of the cycle, or, where a swap has
already ended the cycle, a start that was waiting for it. -/
def exchangeEnded (s : State) : State :=
  let s1 := s.onSlc fun c => { c with exchange := none }
  match s.slc.cycle with
  | .dormant => s1
  | .idle =>
    if s.slc.startWaiting && decide (s.mark .sign = .running) then cycleStart s1 else s1
  | .cycling =>
    if s.slc.cutPending && decide (s.mark .sign = .running) then cycleCut s1
    else if s.slc.position + 1 < s.slc.order.length then
      s1.onSlc fun c => beginEntry { c with position := c.position + 1 }
    else cycleEnd s1

/-! ## Refresh timer, publication, tick (R113, R114, R126, R127) -/

/-- The refresh timer expires: it reloads, and acts by the table of R113. -/
def refreshExpiry (s : State) : State :=
  if timerDue s.slc.refresh then
    let s1 := restartRefresh s
    match s.slc.cycle with
    | .dormant => s1
    | .idle => if s.mark .sign = .running then requestStart s1 else s1
    | .cycling => s1.onSlc fun c => { c with startPending := true }
  else s

/-- What a publication does to the Sign Line Controller: it ends DORMANT, or cuts a cycle in ACTIVE (R114, R127). Out of
DORMANT the refresh timer is restarted at the publication even where a frame on the line delays the first cycle's start:
the model's choice, because R114 has both at one moment and R128 delays the start alone (log entry 48). -/
def signPublication (s : State) : State :=
  match s.slc.cycle with
  | .dormant =>
    let s1 := s.onSlc fun c => { c with cycle := .idle }
    if s.mark .sign = .running then requestStart (restartRefresh s1) else s1
  | .idle => s
  | .cycling =>
    if s.zh.evac = .active ∧ s.mark .sign = .running then s.onSlc fun c => { c with cutPending := true } else s

/-- With refresh count 0, the cycle that follows one whose order was empty starts at a tenth tick (R126). -/
def tickStart (s : State) : State :=
  if s.slc.cycle = .idle ∧ s.mark .sign = .running ∧ backToBack s = true ∧ s.slc.exchange = none then cycleStart s
  else s

/-! ## Sign records (R121 to R123) -/

/-- A sign's record after a taken reply. -/
def takenRecord (lamp : Lamp) (g : SignRun) : SignRun :=
  { g with misses := 0, lamp := some lamp, outcome := .taken,
           state := if lamp = .failed then .faulty else .online }

/-- A sign's record after a miss with an outcome. -/
def missedRecord (limit : Nat) (outcome : SignOutcome) (g : SignRun) : SignRun :=
  let misses := min limit (g.misses + 1)
  { g with misses := misses, outcome := outcome, state := if misses < limit then .missing else .lost }

/-- SIGN_TROUBLE's body for a sign (R123). -/
def troubleBody (index : Nat) (g : SignRun) : NoticeBody :=
  .signTrouble index g.address g.state g.misses g.lamp

/-- The sign of an exchange: its index, its record and its miss limit; a blanked address and FALLBACK have none. -/
def targetSign (s : State) : Target → Option (Nat × SignRun × Nat)
  | .sign i =>
    match s.slc.signs[i]?, s.ps.active with
    | some g, some p => some (i, g, p.header.missLimit)
    | _, _ => none
  | .former i g limit => some (i, g, limit)
  | .blank => none
  | .fallback => none

/-- Writes the record of an exchange's sign back; a former plan's record is not kept. -/
def putSign (t : Target) (g : SignRun) (s : State) : State :=
  match t with
  | .sign i => s.onSlc fun c => { c with signs := c.signs.set i g }
  | _ => s

/-- Entry to FAULTY or LOST: the fault is captured and SIGN_TROUBLE rises. -/
def signTroubled (k : FaultKind) (index : Nat) (g : SignRun) (s : State) : State :=
  raise (troubleBody index g) (capture k g.address s)

/-- A reply is taken (R121). -/
def replyTaken (t : Target) (lamp : Lamp) (s : State) : State :=
  match targetSign s t with
  | none => s
  | some (i, g, _) =>
    let new := takenRecord lamp g
    let s1 := putSign t new s
    if new.state = .faulty ∧ g.state ≠ .faulty then signTroubled .signLampFault i new s1 else s1

/-- An exchange ends as a miss (R122). -/
def signMissed (t : Target) (outcome : SignOutcome) (s : State) : State :=
  match targetSign s t with
  | none => s
  | some (i, g, limit) =>
    let new := missedRecord limit outcome g
    let s1 := putSign t new (fire .replyMissed 1 s)
    if new.state = .lost ∧ g.state ≠ .lost then signTroubled .signLost i new s1 else s1

/-! ## The exchange (R118 to R120, R124) -/

/-- The phase of the exchange changes. -/
def setPhase (ph : ExchangePhase) (s : State) : State :=
  s.onSlc fun c => { c with exchange := c.exchange.map fun e => { e with phase := ph } }

/-- The sign of an exchange has been sent a face. -/
def recordSent (e : Exchange) (s : State) : State :=
  match e.target with
  | .sign i =>
    match s.slc.signs[i]? with
    | some g => s.onSlc fun c => { c with signs := c.signs.set i { g with lastFace := some e.face } }
    | none => s
  | .former i g limit =>
    s.onSlc fun c =>
      { c with exchange := some { e with target := .former i { g with lastFace := some e.face } limit } }
  | .blank => s.onSlc fun c => { c with removal := c.removal.filter fun a => a ≠ e.address }
  | .fallback => s

/-- The last character of a SHOW frame has been sent: SHOW_SENT, the last face sent or the removal queue, and the reply
window opens. -/
def showSent (s : State) : State :=
  match s.slc.exchange with
  | some e =>
    if e.phase = .sending ∧ e.target ≠ .fallback then
      setPhase (.window none) (recordSent e (fire .showSent 1 s))
    else s
  | none => s

/-- The last character of a FALLBACK frame has been sent, which ends its cycle (R125). -/
def fallbackSent (s : State) : State :=
  match s.slc.exchange with
  | some e => if e.phase = .sending ∧ e.target = .fallback then exchangeEnded s else s
  | none => s

/-- A STATUS frame's address, echo byte and lamp state (R119, R187). -/
structure SignReply where
  address : Nat
  echo    : Nat
  lamp    : Lamp
deriving DecidableEq, Repr

/-- A frame body as a STATUS frame. -/
def readSignReply (body : List Byte) : Option SignReply :=
  match body with
  | [k, a, echo, l] =>
    if k = 0x21 then
      match lampOf l.toNat with
      | some lamp => some { address := a.toNat, echo := echo.toNat, lamp := lamp }
      | none => none
    else none
  | _ => none

/-- What a frame completed in the window of an undecided exchange with a sign comes to. -/
inductive ReplyJudgement | taken (lamp : Lamp) | mismatch | stray deriving DecidableEq, Repr

/-- The judgement of a frame (R119, R120). -/
def judgeReply (e : Exchange) (body : List Byte) : ReplyJudgement :=
  match readSignReply body with
  | none => .stray
  | some r =>
    if r.address ≠ e.address then .stray
    else if r.echo = e.epochByte then .taken r.lamp
    else .mismatch

/-- Whether an exchange is with a sign, so that it ends with an outcome. -/
def hasOutcome : Target → Bool
  | .sign _ => true
  | .former _ _ _ => true
  | .blank => false
  | .fallback => false

/-- A frame the receiver hands on, in or out of a window; one that decides nothing is stray and does nothing. -/
def signEvent (s : State) (ev : RxEvent) : State :=
  match ev, s.slc.exchange with
  | .frame body false, some e =>
    if e.phase = .window none && hasOutcome e.target then
      match judgeReply e body with
      | .taken lamp => exchangeEnded (replyTaken e.target lamp s)
      | .mismatch => setPhase (.window (some .echoMismatch)) s
      | .stray => s
    else s
  | _, _ => s

/-- A character in error inside the window of an undecided exchange decides CHAR_ERROR (R120, log entry 22). -/
def charErrorIn (c : RxChar) (s : State) : State :=
  match s.slc.exchange with
  | some e =>
    if e.phase = .window none && hasOutcome e.target &&
        errorInFrame s.lines.sign.inUse s.lines.sign.rx c then
      capture .signReplyError e.address (setPhase (.window (some .charError)) s)
    else s
  | none => s

/-- Whether the sign line's receiver takes characters: not while the part sends on the line (R185), and not while the
line is HALTED unless an exchange is being completed (R130). -/
def signReceives (s : State) : Bool :=
  match s.slc.exchange with
  | some e => decide (e.phase ≠ .sending)
  | none => decide (s.mark .sign = .running)

/-- A frame that was still being received when its window closed has ended (R120). -/
def drainEnded (s : State) : State :=
  match s.slc.exchange with
  | some e => if e.phase = .drain ∧ s.lines.sign.rx = [] then exchangeEnded s else s
  | none => s

/-- One character on the sign line. -/
def signChar (s : State) (c : RxChar) : State :=
  if signReceives s then
    let r := receiveChar s.lines.sign.inUse s.lines.sign.rx c
    let s1 := (charErrorIn c s).onLine .sign fun l => { l with rx := r.2 }
    drainEnded (r.1.foldl signEvent s1)
  else s

/-- The reply window closes: the exchange ends with its outcome, and the next frame waits for one still being received
(R120). -/
def windowClosed (s : State) : State :=
  match s.slc.exchange with
  | some e =>
    match e.phase with
    | .window decided =>
      let s1 := signMissed e.target (decided.getD .noReply) s
      if s1.lines.sign.rx = [] then exchangeEnded s1 else setPhase .drain s1
    | .sending => s
    | .drain => s
  | none => s

/-- The gap rule aborts the frame being received on the sign line (R183, R120). -/
def signGap (s : State) : State :=
  drainEnded (s.onLine .sign fun l => { l with rx := [] })

/-! ## Emphasis (R100, R101) -/

/-- A sign's emphasis timer expires and becomes idle. -/
def emphasisExpiry (i : Nat) (s : State) : State :=
  match s.slc.signs[i]? with
  | some g =>
    if timerDue g.emphasis then s.onSlc fun c => { c with signs := c.signs.set i { g with emphasis := none } } else s
  | none => s

/-! ## Halt and run (R130, R131) -/

/-- The sign line is halted: the cycle in progress keeps only the exchange in progress. -/
def haltSign (s : State) : State :=
  (s.onSlc fun c =>
    { c with startPending := false, cutPending := false, startWaiting := false,
             order := c.order.take (c.position + 1) }).onLine .sign fun l => { l with mark := .halted }

/-- The sign line, HALTED before, runs: its receiver hunts in the format stored, and with the controller IDLE a cycle
starts and the refresh timer is restarted. -/
def runSign (s : State) : State :=
  let s1 := drainEnded (s.onLine .sign fun l => { l with mark := .running, inUse := l.format, rx := [] })
  if s.slc.cycle = .idle then requestStart (restartRefresh s1) else s1

/-! ## The swap and the start (R111, R124, R128) -/

/-- A sign's record as the table is built. -/
def newSign (g : SignRec) : SignRun :=
  { address := g.address, node := g.node, state := .unseen, misses := 0, lamp := none, lastFace := none,
    outcome := .none, composed := none, flashOpen := false, emphasis := none, lastBase := none }

/-- Places an address in an ascending list without duplicates. -/
def insertAddress (a : Nat) : List Nat → List Nat
  | [] => [a]
  | b :: rest => if a < b then a :: b :: rest else if a = b then b :: rest else b :: insertAddress a rest

/-- The removal queue after a swap (R124). -/
def removalAfter (old : Option Plan) (new : Plan) (queue : List Nat) : List Nat :=
  let dropped : List Nat := match old with
    | some p => p.signs.map fun (g : SignRec) => g.address
    | none => []
  let all : List Nat := dropped.foldl (fun q a => insertAddress a q) queue
  all.filter fun a => !new.signs.any fun (g : SignRec) => decide (g.address = a)

/-- The target of a frame on the line once its plan is replaced. -/
def formerTarget (old : Option Plan) (signs : List SignRun) (t : Target) : Target :=
  match t with
  | .sign i =>
    match signs[i]?, old with
    | some g, some p => .former i g p.header.missLimit
    | _, _ => .blank
  | other => other

/-- The Sign Line Controller at a swap (R19, R128). The adopted group table, the cycle's evacuation state, the order and
the position have no value outside a cycle: the first two are kept and the order is emptied (log entry 43). -/
def swapSigns (old : Option Plan) (new : Plan) (c : SignLine) : SignLine :=
  { c with
    signs := new.signs.map newSign
    cycle := .dormant, startPending := false, cutPending := false, startWaiting := false
    adopted := none, noRouteCount := 0
    removal := removalAfter old new c.removal
    order := [], position := 0
    exchange := c.exchange.map fun e => { e with target := formerTarget old c.signs e.target } }

end Sys2Proof.Machine
end

