-- ==== Sys2Proof/Machine/Swap.lean ====
section
/-! DEFINITION. The swap to a new plan (R16 to R19), the store to plan memory (R20), and the start-up load (R21). -/

namespace Sys2Proof.Machine

/-! ## What the hazard path carries over (R18) -/

/-- A zone's record under a new plan: kept with its new settings, or CLEAR with its timers idle. -/
def carriedZone (old : Option ZoneRun) (setting : ZoneRec) : ZoneRun :=
  match old with
  | some z => { z with setting := setting }
  | none => { state := .clear, suspect := none, clearHold := none, untracked := false, setting := setting }

/-- The zone table under a new plan. -/
def carriedZones (old : List ZoneRun) (p : Plan) : List ZoneRun :=
  p.zones.zipIdx.map fun z => carriedZone old[z.2]? z.1

/-- A detector record decoded again, `none` when it is removed. -/
def carriedDetector (p : Plan) (d : Nat × DetectorRec) : Option (Nat × DetectorRec) :=
  match decodeZone p d.1 with
  | some z => if z < p.header.zoneCount then some (d.1, { d.2 with zone := z }) else none
  | none => none

/-- A pending entry decoded again; one that becomes unmapped keeps the zone number it had (log entry 39). -/
def carriedEntry (p : Plan) (e : PendingEntry) : PendingEntry :=
  match decodeZone p e.address with
  | some z => { e with zone := z, unmapped := false }
  | none => { e with unmapped := true }

/-- The Zone Hazard Unit at a swap, less the evacuation state. -/
def carryHazard (p : Plan) (h : Hazard) : Hazard :=
  { h with
    zones := carriedZones h.zones p
    detectors := h.detectors.filterMap (carriedDetector p)
    take := h.take.map (carriedEntry p) }

/-- Detector Intake at a swap. -/
def carryIntake (p : Plan) (d : Intake) : Intake := { d with reports := d.reports.map (carriedEntry p) }

/-! ## The swap (R17) -/

/-- The exit states a plan starts with (R6, R70). -/
def initialExits (p : Plan) : List ExitState := p.exits.map fun e => e.initial

/-- The Route Solver at a swap. -/
def swapSolver (p : Plan) (r : Solver) : Solver :=
  { r with
    state := .idle, wanted := true, stale := false, activationPending := false, snapshot := none
    nodes := blankNodes p.header.nodeCount, passes := 0, published := none, epoch := 0, exits := initialExits p }

/-- The Plan Store at a swap: the new active plan, the staging bank EMPTY, and the store begun: the mark WRITTEN, the
image of the new active plan being written, and no check value beside it before the store's end (R20, log entry 9). -/
def swapStore (p : Plan) (ps : PlanStore) : PlanStore :=
  { ps with
    active := some p, staging := stagingEmpty
    memory := { mark := .written, image := imageBytes p, check := none }, storing := true }

/-- The evacuation state follows the kept zones outside ACTIVE (R18, R59). -/
def evacAfterSwap (s : State) : State :=
  if s.zh.evac = .active then s else setEvac (derivedEvac s.zh.zones) .plan s

/-- The plan `p` replaces the active plan in every block. -/
def swapTo (p : Plan) (s : State) : State :=
  let s1 := raise (.planEvent .activated p.header.planId none) { s with ps := swapStore p s.ps }
  let s2 : State :=
    { s1 with rsv := swapSolver p s1.rsv, zh := carryHazard p s1.zh, di := carryIntake p s1.di
              slc := swapSigns s.ps.active p s1.slc }
  swapPeers p (evacAfterSwap s2)

/-- The swap: the staging bank's plan becomes the active plan. Its header is always present, because the bank has
passed the check. -/
def swap (s : State) : State :=
  match stagedPlan s.ps.staging with
  | some p => swapTo p s
  | none => s

/-! ## The end of a store (R20) -/

/-- Plan memory once a store's four steps are made: the check value is that of the image written, and the image is what
reads back. -/
def storedMemory (m : PlanMemory) (readBack : List Byte) : PlanMemory :=
  { mark := .written, image := readBack, check := some (crc16 m.image) }

/-- The store in flight ends: STORED when the value computed from the image read back equals the stored one, and
STORE_FAILED when it differs. -/
def endStore (readBack : List Byte) (s : State) : State :=
  if s.ps.storing then
    let m := storedMemory s.ps.memory readBack
    if memoryMatches m then
      raise (.planEvent .stored (activePlanId s) none)
        { s with ps := { s.ps with storing := false, condition := .good, memory := m } }
    else
      capture .planStoreFault 0
        (raise (.planEvent .storeFailed (activePlanId s) none)
          { s with ps := { s.ps with storing := false, condition := .bad, memory := m } })
  else s

/-- A store in flight is abandoned, its check value not written (R20, log entry 9). -/
def abandonStore (ps : PlanStore) : PlanMemory :=
  if ps.storing then { ps.memory with mark := .written, check := none } else ps.memory

/-! ## The end of a solve (R83 to R86) -/

/-- The sends that a publication triggers on both ports (R86, R144). -/
def publicationAdverts (s : State) : State := sendTrigger .b (sendTrigger .a s)

/-- A publication and what each block does with it (R83 steps 1 to 3, R84, R86). -/
def publication (p : Plan) (snap : Snapshot) (s : State) : State :=
  let r := solveResult p snap s.rsv.nodes s.rsv.published
  publicationAdverts (signPublication (announce r.1 r.2 s.rsv.stale (publishSet r.1 r.2 s)))

/-- A solve ends: it is published and, in the same act, the next one starts when it is wanted (R83 step 4); or it is
discarded for the activation that waits for it. -/
def solveEnd (s : State) : State :=
  match s.rsv.state, s.ps.active, s.rsv.snapshot with
  | .solving, some p, some snap =>
    if s.rsv.activationPending then
      swap { s with rsv := { s.rsv with state := .idle, snapshot := none } }
    else solveStart (publication p snap s)
  | _, _, _ => s

/-! ## The start-up load and the resets (R21, R168, R169) -/

/-- The plan a load finds: the image's, when the mark is WRITTEN and the check value matches. -/
def loadedPlan (m : PlanMemory) : Option Plan :=
  match m.mark with
  | .blank => none
  | .written => if memoryMatches m then planOfImage m.image else none

/-- Plan memory's condition after a load; a matching image that is no plan's counts as not matching (log entry 9). -/
def loadCondition (m : PlanMemory) : MemoryCondition :=
  match m.mark with
  | .blank => .blank
  | .written => if (loadedPlan m).isSome then .good else .bad

/-- What a reset keeps or restores: fault capture, lines, contact channels, notice kinds and threshold. -/
structure Settings where
  fc        : FaultCapture
  lines     : Lines
  channels  : Vector Channel 8
  kinds     : Vector KindRec 10
  threshold : Nat
deriving DecidableEq, Repr

/-- The settings that power-on and the reset line give (R31, R154, R171, R175, R178 to R180). -/
def powerOnSettings : Settings :=
  { fc := State.reset.fc, lines := State.reset.lines, channels := State.reset.di.channels,
    kinds := State.reset.mp.kinds, threshold := State.reset.mp.threshold }

/-- A line through a RESTART: format and mark kept, nothing retained. -/
def keptLine (l : LineRec) : LineRec := { l with rx := [] }

/-- A notice kind through a RESTART: enable and priority kept, flag clear. -/
def keptKind (k : KindRec) : KindRec := { k with flag := false, event := none }

/-- The settings that RESTART keeps (R168). -/
def keptSettings (s : State) : Settings :=
  { fc := s.fc
    lines := { message := keptLine s.lines.message, detector := keptLine s.lines.detector,
               sign := keptLine s.lines.sign, peerA := keptLine s.lines.peerA, peerB := keptLine s.lines.peerB }
    channels := vecMap (fun c => startChannel c.mode c.address) s.di.channels
    kinds := vecMap keptKind s.mp.kinds
    threshold := s.mp.threshold }

/-- Every block at its values after a reset with an active plan or none, before any fault of the load is captured. -/
def blocksAfter (kind : ResetKind) (phase : Phase) (plan : Option Plan) (condition : MemoryCondition)
    (memory : PlanMemory) (k : Settings) (s : State) : State :=
  let r := State.reset
  { r with
    pending := s.pending
    free := s.free
    phase := phase
    ps := { active := plan, staging := stagingEmpty, memory := memory, condition := condition, storing := false }
    di := { r.di with channels := k.channels }
    zh := { r.zh with zones := match plan with
      | some p => carriedZones [] p
      | none => [] }
    rsv := { r.rsv with
      wanted := plan.isSome
      nodes := match plan with
        | some p => blankNodes p.header.nodeCount
        | none => []
      exits := match plan with
        | some p => initialExits p
        | none => [] }
    slc := match plan with
      | some p =>
        { r.slc with
          signs := p.signs.map newSign
          cycle := .dormant
          refresh := if p.header.refresh.count = 0 then none else some (timingTicks p.header.refresh) }
      | none => r.slc
    pp := { a := startedPort plan .a k.lines.peerA.mark
            b := startedPort plan .b k.lines.peerB.mark
            portals := match plan with
              | some p => newPortals p
              | none => [] }
    mp := { r.mp with kinds := k.kinds, threshold := k.threshold, lastReset := kind }
    fc := k.fc
    lines := k.lines }

/-- A reset with its start-up load; START_UP_LOAD_END follows (log entry 6). -/
def resetWith (kind : ResetKind) (k : Settings) (memory : PlanMemory) (s : State) : State :=
  let s1 := blocksAfter kind .loading (loadedPlan memory) (loadCondition memory) memory k s
  if loadCondition memory = .bad then capture .planStoreFault 0 s1 else s1

/-- Every block as it stands before the start-up load, while the reset line is held or there is no supply (R179). -/
def heldState (kind : ResetKind) (phase : Phase) (s : State) : State :=
  blocksAfter kind phase none s.ps.condition (abandonStore s.ps) powerOnSettings s

/-! ## Acting in a phase -/

/-- What a command comes to. -/
abbrev Result := Host.Outcome State Fault Refusal

/-- What happens to a running part; before the load has ended, and without supply or with the reset line held, nothing
does (log entries 6 and 8). -/
def whenRunning (f : State → State) (s : State) : State :=
  if s.phase = .running then f s else s

end Sys2Proof.Machine
end

