-- ==== Sys2Proof/Machine/Requests.lean ====
section
/-! DEFINITION. What each request does and answers when it is taken (R158 to R167 and the rules of each request). -/

namespace Sys2Proof.Machine

/-- What taking a request comes to: the state after its effect, and its reply's status and fields. -/
structure Answer where
  state  : State
  status : ReplyStatus
  fields : List Byte
deriving DecidableEq, Repr

/-- An answer with no effect and no body (R158). -/
def turnedAway (status : ReplyStatus) (s : State) : Answer := { state := s, status := status, fields := [] }

/-- An answer OK. -/
def answered (fields : List Byte) (s : State) : Answer := { state := s, status := .ok, fields := fields }

/-- An answer OK, or CLAMPED if a quantity was clamped. -/
def answeredClamped (clamped : Bool) (fields : List Byte) (s : State) : Answer :=
  { state := s, status := if clamped then .clamped else .ok, fields := fields }

/-- A request that carries no fields. -/
def withoutFields (fields : List Byte) (s : State) (f : State → Answer) : Answer :=
  if fields.isEmpty then f s else turnedAway .badLength s

/-! ## IDENTIFY (R160) -/

/-- The own station id of the active header. -/
def ownStation (s : State) : Option Nat := s.ps.active.map fun p => p.header.ownId

def answerIdentify (fields : List Byte) (s : State) : Answer :=
  withoutFields fields s <| answered <|
    byte2 Config.partNumber ++ [byte1 Config.revision] ++ byte2 Config.maxNodes ++ byte2 Config.maxLinks ++
      [byte1 Config.maxZones, byte1 Config.maxWindows, byte1 Config.maxExits, byte1 Config.maxPortals,
       byte1 Config.maxSigns, byte1 (resetKindCode s.mp.lastReset)] ++
      byte4 s.tb.seconds ++ byte2 (activePlanId s) ++ [optByte1 (ownStation s)]

/-! ## STATUS (R161, R189) -/

/-- A present byte and two bytes that are free when the value is absent (R186, log entry 12). -/
def presentByte2 (free : Nat) : Option Nat → List Byte
  | some n => 1 :: byte2 n
  | none => 0 :: freeBytes free 2

/-- A present byte and one byte that is free when the value is absent. -/
def presentByte1 (free : Nat) : Option Nat → List Byte
  | some n => [1, byte1 n]
  | none => 0 :: freeBytes free 1

/-- A failure report: reason, section and index; reason 0 for none. -/
def failureBytes : Option FailureReport → List Byte
  | some f => [byte1 (checkReasonCode f.reason), byte1 (sectionCode f.sect)] ++ byte2 f.index
  | none => [0, onesByte, onesByte, onesByte]

def statusPlanStore (s : State) : List Byte :=
  byte2 (activePlanId s) ++ [byte1 (stageCode s.ps.staging.stage)] ++ failureBytes s.ps.staging.failure ++
    [flagByte s.ps.storing, byte1 (memoryConditionCode s.ps.condition)]

def statusIntake (s : State) : List Byte :=
  [byte1 (lockStateCode s.di.lock)] ++ presentByte1 s.free s.di.panel ++ [byte1 s.di.reports.length] ++
    s.di.channels.toList.map fun c => optByte1 (c.accepted.map contactLevelCode)

/-- The number of zones in a state. -/
def zonesIn (s : State) (st : ZoneState) : Nat := (s.zh.zones.filter fun z => decide (z.state = st)).length

/-- The evacuation clock in three bytes. -/
def clockBytes (c : EvacClock) : List Byte := [byte1 c.minutes, byte1 c.seconds, byte1 c.tenths]

def statusHazard (s : State) : List Byte :=
  byte2 s.zh.detectors.length ++
    [byte1 (zonesIn s .clear), byte1 (zonesIn s .suspect), byte1 (zonesIn s .smoke), byte1 (zonesIn s .clearing),
     byte1 (evacStateCode s.zh.evac), flagByte s.zh.declaration] ++
    clockBytes s.zh.clock ++ [flagByte s.zh.clock.running]

/-- The last-solve report: passes and pass-limit mark, all ones when absent. -/
def reportBytes : Option SolveReport → List Byte
  | some r => byte2 r.passes ++ [flagByte r.limited]
  | none => [onesByte, onesByte, onesByte]

/-- The epoch is the Route Solver's, 0 before the first publication (R75, log entry 13). -/
def statusSolver (s : State) : List Byte :=
  [byte1 (solverStateCode s.rsv.state), flagByte s.rsv.wanted, flagByte s.rsv.stale, flagByte s.rsv.activationPending,
   flagByte s.rsv.published.isSome] ++ byte2 s.rsv.epoch ++ reportBytes s.rsv.report

/-- The number of signs in a state. -/
def signsIn (s : State) (st : SignState) : Nat := (s.slc.signs.filter fun g => decide (g.state = st)).length

/-- The adopted epoch. -/
def adoptedEpoch (s : State) : Option Nat := s.slc.adopted.map fun a => a.epoch

def statusSigns (s : State) : List Byte :=
  [byte1 (lineMarkCode (s.mark .sign)), byte1 (cycleStateCode s.slc.cycle), byte1 s.slc.number] ++
    presentByte2 (s.free + 8) (adoptedEpoch s) ++
    [byte1 (signsIn s .unseen), byte1 (signsIn s .online), byte1 (signsIn s .missing), byte1 (signsIn s .lost),
     byte1 (signsIn s .faulty),
     byte1 (s.slc.signs.filter fun g => decide (g.state = .online ∧ g.lamp = some .part)).length,
     byte1 s.slc.removal.length, byte1 s.slc.noRouteCount]

def statusPort (free : Nat) (port : PeerPort) (s : State) : List Byte :=
  let r := portGet s.pp port
  [byte1 (lineMarkCode (s.mark (portLine port))), flagByte (portInUse s port), byte1 (portStateCode r.state),
   optByte1 r.station] ++ presentByte2 free r.planId

def statusPeers (s : State) : List Byte :=
  statusPort (s.free + 16) .a s ++ statusPort (s.free + 24) .b s ++
    [byte1 (s.pp.portals.filter fun p => p.advertisement.isSome).length,
     byte1 (s.pp.portals.filter fun p => p.advertisement.isNone).length]

/-- A line format in five bytes. -/
def formatBytes (f : Format) : List Byte := byte3 f.speed ++ [byte1 (parityCode f.parity), byte1 f.stop]

def statusLines (s : State) : List Byte :=
  formatBytes s.lines.message.format ++ formatBytes s.lines.detector.format ++ formatBytes s.lines.sign.format ++
    formatBytes s.lines.peerA.format ++ formatBytes s.lines.peerB.format ++ [byte1 (lineMarkCode (s.mark .detector))]

/-- The ten notice flags. -/
def flagBytes (s : State) : List Byte := s.mp.kinds.toList.map fun k => flagByte k.flag

/-- The fault record's kind and class, all ones when it is invalid. -/
def recordKindBytes : Option FaultRecord → List Byte
  | some r => [byte1 r.kind.idx.val, byte1 (faultClassCode (faultClassOf r.kind))]
  | none => [onesByte, onesByte]

/-- The four outputs' signals with their levels, driven 1 and released 0. -/
def outputBytes (s : State) : List Byte :=
  s.fc.outputs.toList.flatMap fun g => [byte1 (signalCode g), flagByte (signalTrue s g)]

def statusFaults (s : State) : List Byte :=
  flagBytes s ++ [byte1 s.mp.notices.length, flagByte s.fc.record.isSome] ++ recordKindBytes s.fc.record ++
    [flagByte s.fc.multipleMinor, flagByte s.fc.multipleMajor, flagByte s.fc.ignoreMinor] ++ outputBytes s

/-- The fields of a STATUS reply; the waiting slot is read as it stands when the request is taken. -/
def statusFields (s : State) : List Byte :=
  statusPlanStore s ++ statusIntake s ++ statusHazard s ++ statusSolver s ++ statusSigns s ++ statusPeers s ++
    statusLines s ++ [flagByte s.mp.waiting.isSome, byte1 (resetKindCode s.mp.lastReset)] ++ byte4 s.tb.seconds ++
    statusFaults s ++ [byte1 s.rsv.exits.length] ++ s.rsv.exits.map fun e => byte1 (exitStateCode e)

def answerStatus (fields : List Byte) (s : State) : Answer :=
  withoutFields fields s (answered (statusFields s))

/-! ## Plan requests (R9 to R16) -/

/-- A change of the staging bank. -/
def setStaging (g : Staging) (s : State) : State := { s with ps := { s.ps with staging := g } }

/-- Whether the stage is CHECKING or ACTIVATING, in which no request may change the staging bank. -/
def stageLocked (s : State) : Bool :=
  decide (s.ps.staging.stage = .checking ∨ s.ps.staging.stage = .activating)

def answerPlanBegin (fields : List Byte) (s : State) : Answer :=
  withoutFields fields s fun s =>
    if stageLocked s then turnedAway .wrongStage s
    else answered [] (setStaging { stagingEmpty with stage := .opened } s)

def answerPlanDiscard (fields : List Byte) (s : State) : Answer :=
  withoutFields fields s fun s =>
    if stageLocked s then turnedAway .wrongStage s
    else if s.ps.staging.stage = .empty then answered [] s
    else answered [] (setStaging stagingEmpty s)

/-- The tests and the effect of a PLAN PUT in OPEN, PASSED or FAILED (R10). -/
def putStaged (sect : Section) (first : Nat) (rs : List (List Byte)) (s : State) : Answer :=
  if sectionMax sect < first + rs.length then turnedAway .badValue s
  else match putRecords s.ps.staging sect first rs with
    | none => turnedAway .badValue s
    | some g => answeredClamped g.2 [] (setStaging { g.1 with stage := .opened, failure := none } s)

/-- PLAN PUT: section code, record count and list lengths first, then the body length, then the stage (R10, log entry
17). -/
def answerPlanPut (fields : List Byte) (s : State) : Answer :=
  match fields with
  | [] => turnedAway .badLength s
  | code :: more =>
    match sectionOf code.toNat with
    | none => turnedAway .badValue s
    | some sect =>
      match more with
      | i1 :: i2 :: n :: body =>
        if n = 0 then turnedAway .badValue s
        else match splitRecords sect n.toNat body with
          | .badValue => turnedAway .badValue s
          | .badLength => turnedAway .badLength s
          | .records rs =>
            if stageLocked s || decide (s.ps.staging.stage = .empty) then turnedAway .wrongStage s
            else putStaged sect (num2 i1 i2) rs s
      | _ => turnedAway .badLength s

def answerPlanCheck (fields : List Byte) (s : State) : Answer :=
  withoutFields fields s fun s =>
    if stageLocked s || decide (s.ps.staging.stage = .empty) then turnedAway .wrongStage s
    else if s.ps.storing then turnedAway .busy s
    else answered [] (setStaging { s.ps.staging with stage := .checking, failure := none } s)

def answerPlanActivate (fields : List Byte) (s : State) : Answer :=
  withoutFields fields s fun s =>
    if s.ps.staging.stage = .passed then
      let s1 := setStaging { s.ps.staging with stage := .activating } s
      answered [] <|
        match s.rsv.state with
        | .idle => swap s1
        | .solving => { s1 with rsv := { s1.rsv with activationPending := true } }
    else turnedAway .wrongStage s

/-- The reply of a PLAN READ whose first index is in range (R12). -/
def readBank (bank : Bank) (sect : Section) (first count : Nat) (slot : Nat → Option (List Byte)) (s : State) :
    Answer :=
  let asked := if count = 0 then 1 else count
  let slots := readSlots slot (sectionMax sect) 240 first asked
  answeredClamped (decide (count = 0 ∨ slots.length < asked))
    ([byte1 (bankCode bank), byte1 (sectionCode sect)] ++ byte2 first ++ [byte1 slots.length] ++ slots.flatten) s

/-- The slots PLAN READ reads in a bank, `none` for the ACTIVE bank with no plan. -/
def bankSlots (bank : Bank) (sect : Section) (s : State) : Option (Nat → Option (List Byte)) :=
  match bank with
  | .staging => some (stagingSlot s.free s.ps.staging sect)
  | .active => s.ps.active.map fun p => activeSlot s.free p sect

/-- PLAN READ: NO_PLAN is tested before the section and the first index (R158, log entry 16). -/
def answerPlanRead (fields : List Byte) (s : State) : Answer :=
  match fields with
  | [b, c, i1, i2, n] =>
    match bankOf b.toNat with
    | none => turnedAway .badValue s
    | some bank =>
      match bank, s.ps.active with
      | .active, none => turnedAway .noPlan s
      | _, _ =>
        match sectionOf c.toNat with
        | none => turnedAway .badValue s
        | some sect =>
          if sectionMax sect ≤ num2 i1 i2 then turnedAway .badValue s
          else match bankSlots bank sect s with
            | none => turnedAway .noPlan s
            | some slot => readBank bank sect (num2 i1 i2) n.toNat slot s
  | _ => turnedAway .badLength s

/-! ## Exits and zones (R55, R56, R58, R60, R61, R71) -/

/-- A request that needs an active plan. -/
def withPlan (s : State) (f : Plan → Answer) : Answer :=
  match s.ps.active with
  | none => turnedAway .noPlan s
  | some p => f p

/-- An exit takes a state, and a solve is wanted (R71). -/
def setExit (exit : Nat) (st : ExitState) (s : State) : State :=
  wantSolve { s with rsv := { s.rsv with exits := s.rsv.exits.set exit st } }

def answerExitSet (fields : List Byte) (s : State) : Answer :=
  match fields with
  | [e, c] =>
    withPlan s fun _ =>
      match s.rsv.exits[e.toNat]?, exitStateOf c.toNat with
      | some prev, some st => answered [byte1 (exitStateCode prev)] (setExit e.toNat st s)
      | _, _ => turnedAway .badValue s
  | _ => turnedAway .badLength s

def answerZoneForce (fields : List Byte) (s : State) : Answer :=
  match fields with
  | [z, target] =>
    withPlan s fun _ =>
      match s.zh.zones[z.toNat]?, target.toNat with
      | some r, 0 => answered [] (forceSmoke z.toNat r s)
      | some r, 1 => answered [] (forceClear z.toNat r s)
      | _, _ => turnedAway .badValue s
  | _ => turnedAway .badLength s

def answerZoneReset (fields : List Byte) (s : State) : Answer :=
  match fields with
  | [z] =>
    withPlan s fun _ =>
      match s.zh.zones[z.toNat]? with
      | none => turnedAway .badValue s
      | some r =>
        if r.state = .smoke then
          if (conditions s.zh.detectors z.toNat r).alarm then turnedAway .refused s
          else answered [] (updateZone z.toNat r (toClearing (clearHoldTicks s) r) s)
        else answered [] s
  | _ => turnedAway .badLength s

def answerEvacuate (fields : List Byte) (s : State) : Answer :=
  withoutFields fields s fun s =>
    let s1 : State := { s with zh := { s.zh with declaration := true } }
    answered [] (if s.zh.evac = .active then s1 else enterActive .evacuate s1)

def answerStandDown (fields : List Byte) (s : State) : Answer :=
  withoutFields fields s fun s =>
    if s.zh.evac = .active then
      if s.zh.zones.any fun z => decide (z.state = .smoke) then turnedAway .refused s
      else answered [] (leaveActive .standDown s)
    else answered [] s

/-! ## GROUP SET (R104) -/

/-- A face's four bytes read, its level clamped. -/
def readFace (sym dir fl level : Byte) : Option (Stored Face) :=
  match symbolOf sym.toNat dir.toNat, flashOf fl.toNat with
  | some symbol, some flash =>
    let l := quantity 0 15 level.toNat
    some ({ symbol := symbol, flash := flash, level := l.1 }, l.2)
  | _, _ => none

/-- A group record's bytes after the group number. -/
def readGroup (bs : List Byte) : Option (Stored GroupRec) :=
  match bs with
  | [en, cl, ms, mf, ml, sym, dir, fl, level] =>
    match strictFlagOf en.toNat, groupClassOf cl.toNat, strictFlagOf ms.toNat, strictFlagOf mf.toNat,
      strictFlagOf ml.toNat, readFace sym dir fl level with
    | some enabled, some cls, some maskS, some maskF, some maskL, some face =>
      some ({ enabled := enabled, cls := cls, maskSymbol := maskS, maskFlash := maskF, maskLevel := maskL,
              face := face.1 }, face.2)
    | _, _, _, _, _, _ => none
  | _ => none

/-- A group record's bytes after the group number. -/
def groupBytes (g : GroupRec) : List Byte :=
  [flagByte g.enabled, byte1 (groupClassCode g.cls), flagByte g.maskSymbol, flagByte g.maskFlash,
   flagByte g.maskLevel] ++ faceBytes g.face

/-- A group takes a record. -/
def setGroup (n : Fin 16) (g : GroupRec) (s : State) : State :=
  { s with slc := { s.slc with groups := s.slc.groups.set n g } }

def answerGroupSet (fields : List Byte) (s : State) : Answer :=
  match fields with
  | n :: rest =>
    if rest.length = 9 then
      if h : n.toNat < 16 then
        match readGroup rest with
        | some g => answeredClamped g.2 (n :: groupBytes g.1) (setGroup ⟨n.toNat, h⟩ g.1 s)
        | none => turnedAway .badValue s
      else turnedAway .badValue s
    else turnedAway .badLength s
  | [] => turnedAway .badLength s

/-! ## Queries (R58, R96, R132, R150, R162) -/

/-- A heading's kind, link, origin, hop and changed mark. -/
def headingBytes (h : Heading) : List Byte :=
  (match h.choice with
    | .seed o hop => [0, onesByte, onesByte, byte1 o, byte1 hop]
    | .link k o hop => [1] ++ byte2 k ++ [byte1 o, byte1 hop]
    | .none => [2, onesByte, onesByte, onesByte, onesByte]) ++ [flagByte h.changed]

/-- What NODE QUERY gives of the published set: a present byte, the Route Solver's epoch, and the node's heading
record, whose cost is free and whose other fields are all ones with no set (R186, log entries 12 and 13). -/
def setBytes (free : Nat) (s : State) (node : Nat) : List Byte :=
  match s.rsv.published with
  | some set =>
    let h := headingAt set node
    [1] ++ byte2 s.rsv.epoch ++ costBytes h.cost ++ headingBytes h
  | none =>
    [0] ++ byte2 s.rsv.epoch ++ freeBytes free 4 ++ [onesByte, onesByte, onesByte, onesByte, onesByte, onesByte]

def answerNodeQuery (fields : List Byte) (s : State) : Answer :=
  match fields with
  | [h, l] =>
    withPlan s fun p =>
      match p.nodes[num2 h l]? with
      | none => turnedAway .badValue s
      | some n =>
        answered
          (byte2 (num2 h l) ++ presentByte2 s.free n.label ++ setBytes (s.free + 8) s (num2 h l) ++
            [byte1 (p.signs.filter fun g => decide (g.node = num2 h l)).length]) s
  | _ => turnedAway .badLength s

def answerSignQuery (fields : List Byte) (s : State) : Answer :=
  match fields with
  | [i] =>
    withPlan s fun p =>
      match s.slc.signs[i.toNat]?, p.signs[i.toNat]? with
      | some g, some rec_ =>
        answered
          ([i, byte1 g.address] ++ byte2 g.node ++
            [byte1 (signStateCode g.state), byte1 g.misses, optByte1 (g.lamp.map lampCode),
             byte1 (signOutcomeCode g.outcome)] ++
            optFaceBytes g.composed ++ optFaceBytes g.lastFace ++ timerBytes g.emphasis ++
            presentByte2 s.free (adoptedEpoch s) ++ [byte1 rec_.groups.length] ++ rec_.groups.map byte1) s
      | _, _ => turnedAway .badValue s
  | _ => turnedAway .badLength s

def answerZoneQuery (fields : List Byte) (s : State) : Answer :=
  match fields with
  | [z] =>
    withPlan s fun _ =>
      match s.zh.zones[z.toNat]? with
      | none => turnedAway .badValue s
      | some r =>
        let c := conditions s.zh.detectors z.toNat r
        let count := levelCount s.zh.detectors z.toNat
        answered
          ([z, byte1 (zoneStateCode r.state)] ++ timerBytes r.suspect ++ timerBytes r.clearHold ++
            [flagByte r.untracked] ++ zoneBytes r.setting ++
            byte2 (count .normal) ++ byte2 (count .fault) ++ byte2 (count .prealarm) ++ byte2 (count .alarm) ++
            [flagByte c.alarm, flagByte c.warning, flagByte c.degraded, flagByte c.confirmed,
             byte1 (highestAlarms s.zh.detectors z.toNat)]) s
  | _ => turnedAway .badLength s

/-- A detector record's part of a DETECTOR QUERY reply; an absent record's time is free. -/
def recordPart (free : Nat) : Option DetectorRec → List Byte
  | some r =>
    [1, byte1 r.zone, byte1 (levelCode r.level), optByte1 r.lastSequence, byte1 r.alarms] ++ byte4 r.time
  | none => [0, onesByte, onesByte, onesByte, onesByte] ++ freeBytes free 4

/-- The place of an address's entry in the pending report table, counted from 0, with the entry (log entry 14). -/
def findEntry (address : Nat) (place : Nat) : List PendingEntry → Option (Nat × PendingEntry)
  | [] => none
  | e :: rest => if e.address = address then some (place, e) else findEntry address (place + 1) rest

/-- A pending entry's part of a DETECTOR QUERY reply. -/
def entryPart : Option (Nat × PendingEntry) → List Byte
  | some (place, e) =>
    [1, byte1 place, byte1 e.zone, flagByte e.unmapped, byte1 (levelCode e.level), optByte1 e.sequence,
     byte1 e.merged, byte1 (levelCode e.peak), byte1 e.tail, byte1 (sourceCode e.source)]
  | none => 0 :: List.replicate 9 onesByte

def answerDetectorQuery (fields : List Byte) (s : State) : Answer :=
  match fields with
  | [h, l] =>
    withPlan s fun p =>
      let a := num2 h l
      if a = 0 ∨ 1023 < a then turnedAway .badValue s
      else
        answered
          (byte2 a ++ [optByte1 (decodeZone p a)] ++ recordPart s.free (slotGet s.zh.detectors a) ++
            entryPart (findEntry a 0 s.di.reports)) s
  | _ => turnedAway .badLength s

/-- A portal's advertisement in a PORTAL QUERY reply; an absent cost is free. -/
def advertisementPart (free : Nat) : Option Advertisement → List Byte
  | some a => [1] ++ costBytes a.cost ++ [byte1 a.hop, byte1 (advertFlags a.isHere a.already false)]
  | none => [0] ++ freeBytes free 4 ++ [onesByte, onesByte]

/-- The seed a portal would give now; an absent cost is free. -/
def seedPart (free : Nat) : Option Seed → List Byte
  | some sd => [1] ++ costBytes sd.cost ++ [byte1 sd.hop]
  | none => [0] ++ freeBytes free 4 ++ [onesByte]

/-- A portal's last sent entry; an absent one is free. -/
def lastSentPart (free : Nat) : Option AdvertEntry → List Byte
  | some e => 1 :: entryBytes e
  | none => 0 :: freeBytes free 7

/-- A port's part of a PORTAL QUERY reply. -/
def portPart (free : Nat) (r : PortRec) : List Byte :=
  [byte1 (portStateCode r.state), optByte1 r.station] ++ presentByte2 free r.planId ++ timerBytes r.age

def answerPortalQuery (fields : List Byte) (s : State) : Answer :=
  match fields with
  | [e] =>
    withPlan s fun p =>
      match portalOf p e.toNat, s.rsv.exits[e.toNat]?, s.pp.portals.find? fun r => decide (r.exit = e.toNat) with
      | some f, some st, some r =>
        answered
          ([e, byte1 (portCode f.port), byte1 f.remote] ++ byte2 f.crossing ++ [byte1 (exitStateCode st)] ++
            advertisementPart s.free r.advertisement ++
            seedPart (s.free + 8) (exitSeed p s.rsv.exits (portalsNow s) e.toNat) ++
            lastSentPart (s.free + 16) r.lastSent ++ portPart (s.free + 24) (portGet s.pp f.port)) s
      | _, _, _ => turnedAway .badValue s
  | _ => turnedAway .badLength s

/-! ## Notices, faults, counters and outputs (R173, R174, R177 to R180) -/

/-- A kind's enable and priority and the threshold take new values (R173). -/
def setNotice (k : NoticeKind) (enable : Bool) (priority threshold : Nat) (s : State) : State :=
  { s with mp := { s.mp with
      threshold := threshold
      kinds := s.mp.kinds.set k.idx { s.mp.kinds[k.idx] with enable := enable, priority := priority } } }

def answerNoticeSetup (fields : List Byte) (s : State) : Answer :=
  match fields with
  | [k, en, pr, th] =>
    match noticeKindOf k.toNat, strictFlagOf en.toNat with
    | some kind, some enable =>
      let priority := quantity 0 3 pr.toNat
      let threshold := quantity 1 3 th.toNat
      answeredClamped (priority.2 || threshold.2) [k, flagByte enable, byte1 priority.1, byte1 threshold.1]
        (setNotice kind enable priority.1 threshold.1 s)
    | _, _ => turnedAway .badValue s
  | _ => turnedAway .badLength s

/-- The notice kinds that bytes name, `none` when one names none. -/
def readKinds : List Byte → Option (List NoticeKind)
  | [] => some []
  | b :: rest =>
    match noticeKindOf b.toNat, readKinds rest with
    | some k, some ks => some (k :: ks)
    | _, _ => none

def answerClearFlags (fields : List Byte) (s : State) : Answer :=
  match fields with
  | n :: rest =>
    if rest.length = n.toNat then
      match readKinds rest with
      | some ks =>
        let s1 : State := { s with mp := ks.foldl clearFlagIn s.mp }
        answered (flagBytes s1) s1
      | none => turnedAway .badValue s
    else turnedAway .badLength s
  | [] => turnedAway .badLength s

/-- The fields of FAULT READ; an invalid record's time is free. -/
def faultFields (s : State) : List Byte :=
  [flagByte s.fc.record.isSome] ++ recordKindBytes s.fc.record ++
    (match s.fc.record with
      | some r => byte2 r.subject ++ byte4 r.time
      | none => [onesByte, onesByte] ++ freeBytes s.free 4) ++
    [flagByte s.fc.multipleMinor, flagByte s.fc.multipleMajor, flagByte s.fc.ignoreMinor] ++
    s.fc.tallies.toList.map byte1

def answerFaultRead (fields : List Byte) (s : State) : Answer :=
  withoutFields fields s (answered (faultFields s))

/-- FAULT CLEAR's effect. -/
def clearFaults (zero ignore : Bool) (s : State) : State :=
  { s with fc := { s.fc with
      record := none, multipleMinor := false, multipleMajor := false, ignoreMinor := ignore
      tallies := if zero then State.reset.fc.tallies else s.fc.tallies } }

def answerFaultClear (fields : List Byte) (s : State) : Answer :=
  match fields with
  | [z, i] =>
    match strictFlagOf z.toNat, strictFlagOf i.toNat with
    | some zero, some ignore => answered (faultFields (clearFaults zero ignore s)) (clearFaults zero ignore s)
    | _, _ => turnedAway .badValue s
  | _ => turnedAway .badLength s

/-- A counter's number, input and value. -/
def counterBytes (n : Nat) (c : Counter) : List Byte :=
  [byte1 n, byte1 (counterInputCode c.input)] ++ byte3 c.value

/-- A counter selects an input, at 0. -/
def setCounter (n : Fin 2) (input : CounterInput) (s : State) : State :=
  { s with fc := { s.fc with counters := s.fc.counters.set n { input := input, value := 0 } } }

def answerCounterSetup (fields : List Byte) (s : State) : Answer :=
  match fields with
  | [n, i] =>
    if h : n.toNat < 2 then
      match counterInputOf i.toNat with
      | some input => answered (counterBytes n.toNat { input := input, value := 0 }) (setCounter ⟨n.toNat, h⟩ input s)
      | none => turnedAway .badValue s
    else turnedAway .badValue s
  | _ => turnedAway .badLength s

def answerCounterRead (fields : List Byte) (s : State) : Answer :=
  withoutFields fields s (answered (counterBytes 0 s.fc.counters[0] ++ counterBytes 1 s.fc.counters[1]))

/-- The fault output mask that bytes give, `none` when one is neither 0 nor 1. -/
def readFlags : List Byte → Option (List Bool)
  | [] => some []
  | b :: rest =>
    match strictFlagOf b.toNat, readFlags rest with
    | some f, some fs => some (f :: fs)
    | _, _ => none

/-- The mask as stored: kind `i`'s entry is byte `i`'s flag. -/
def maskOf (fs : List Bool) : Vector Bool 13 := Vector.ofFn fun i => fs.getD i.val false

/-- An output selects a signal, and the mask is replaced when one is given. -/
def setOutput (n : Fin 4) (g : Signal) (mask : Option (Vector Bool 13)) (s : State) : State :=
  { s with fc := { s.fc with outputs := s.fc.outputs.set n g, mask := mask.getD s.fc.mask } }

/-- The fields of an OUTPUT SETUP reply. -/
def outputFields (s : State) : List Byte :=
  s.fc.outputs.toList.map (fun g => byte1 (signalCode g)) ++ s.fc.mask.toList.map flagByte ++
    s.fc.outputs.toList.map fun g => flagByte (signalTrue s g)

/-- The answer of an OUTPUT SETUP with its output and signal read. -/
def outputAnswer (n : Fin 4) (g : Signal) (mask : Option (Vector Bool 13)) (s : State) : Answer :=
  answered (outputFields (setOutput n g mask s)) (setOutput n g mask s)

def answerOutputSetup (fields : List Byte) (s : State) : Answer :=
  match fields with
  | n :: g :: given :: mask =>
    if mask.length = 13 then
      if h : n.toNat < 4 then
        match signalOf g.toNat, strictFlagOf given.toNat with
        | some sig, some false => outputAnswer ⟨n.toNat, h⟩ sig none s
        | some sig, some true =>
          match readFlags mask with
          | some fs => outputAnswer ⟨n.toNat, h⟩ sig (some (maskOf fs)) s
          | none => turnedAway .badValue s
        | _, _ => turnedAway .badValue s
      else turnedAway .badValue s
    else turnedAway .badLength s
  | _ => turnedAway .badLength s

/-! ## Lines and contacts (R163 to R166) -/

/-- The line of a line number below 5. -/
def lineOf : Nat → Option LineId
  | 0 => some .message | 1 => some .detector | 2 => some .sign | 3 => some .peerA | 4 => some .peerB | _ => none

/-- A format body's bytes. -/
def readFormat (s1 s2 s3 par stop : Byte) : Option Format :=
  match speedOf (num3 s1 s2 s3), parityOf par.toNat, stopOf stop.toNat with
  | some speed, some parity, some st => some { speed := speed, parity := parity, stop := st }
  | _, _, _ => none

/-- LINE SETUP with a format body (R163, R164). For line 0 the reply gives the format held (log entry 15). -/
def setupFormat (line : Nat) (f : Option Format) (s : State) : Answer :=
  if 12 < line then turnedAway .badValue s
  else match lineOf line with
    | none => turnedAway .badLength s
    | some id =>
      match f with
      | none => turnedAway .badValue s
      | some format =>
        match id with
        | .message =>
          answered (byte1 line :: formatBytes s.lines.message.format)
            { s with mp := { s.mp with deferred := .formatAfterReply format.speed format.parity format.stop } }
        | other =>
          if s.mark other = .running then turnedAway .busy s
          else answered (byte1 line :: formatBytes format) (s.onLine other fun l => { l with format := format })

/-- LINE SETUP with a contact body (R31, R163). -/
def setupContact (line : Nat) (mode : Option ContactMode) (address : Nat) (s : State) : Answer :=
  if 12 < line then turnedAway .badValue s
  else if line < 5 then turnedAway .badLength s
  else match mode with
    | none => turnedAway .badValue s
    | some m =>
      if 1023 < address then turnedAway .badValue s
      else
        answered ([byte1 line, byte1 (contactModeCode m)] ++ byte2 address)
          (setChannel (Fin.ofNat 8 (line - 5)) (startChannel m address) s)

def answerLineSetup (fields : List Byte) (s : State) : Answer :=
  match fields with
  | [line, s1, s2, s3, par, stop] => setupFormat line.toNat (readFormat s1 s2 s3 par stop) s
  | [line, mode, a1, a2] => setupContact line.toNat (contactModeOf mode.toNat) (num2 a1 a2) s
  | _ => turnedAway .badLength s

/-- The detector line is halted: nothing retained, SILENT (R28). -/
def haltDetector (s : State) : State :=
  setLock (.silent, 0, 0) none s.di.panel (s.onLine .detector fun l => { l with mark := .halted, rx := [] })

/-- The detector line runs: hunting in the format stored (R28, R166). -/
def runDetector (s : State) : State :=
  s.onLine .detector fun l => { l with mark := .running, inUse := l.format, rx := [] }

/-- The reply of LINE HALT and LINE RUN: the line and its mark after the request. -/
def markAnswer (line : Byte) (id : LineId) (s : State) : Answer :=
  answered [line, byte1 (lineMarkCode (s.mark id))] s

/-- A RUNNING line is halted by its owner. -/
def haltLine (id : LineId) (s : State) : State :=
  match id with
  | .message => s
  | .detector => haltDetector s
  | .sign => haltSign s
  | .peerA => haltPort .a s
  | .peerB => haltPort .b s

/-- A HALTED line is run by its owner. -/
def runLine (id : LineId) (s : State) : State :=
  match id with
  | .message => s
  | .detector => runDetector s
  | .sign => runSign s
  | .peerA => runPort .a s
  | .peerB => runPort .b s

/-- The line with a mark that a byte names. -/
def markedLine (line : Byte) : Option LineId :=
  if line = 0 then none else lineOf line.toNat

def answerLineHalt (fields : List Byte) (s : State) : Answer :=
  match fields with
  | [line] =>
    match markedLine line with
    | none => turnedAway .badValue s
    | some id =>
      if s.mark id = .halted then markAnswer line id s
      else if id = .sign ∧ s.zh.evac = .active then turnedAway .refused s
      else markAnswer line id (haltLine id s)
  | _ => turnedAway .badLength s

def answerLineRun (fields : List Byte) (s : State) : Answer :=
  match fields with
  | [line] =>
    match markedLine line with
    | none => turnedAway .badValue s
    | some id =>
      if s.mark id = .running then markAnswer line id s else markAnswer line id (runLine id s)
  | _ => turnedAway .badLength s

/-! ## RESTART (R167) -/

def answerRestart (fields : List Byte) (s : State) : Answer :=
  withoutFields fields s fun s =>
    if s.zh.evac = .active then turnedAway .refused s
    else if s.ps.storing then turnedAway .busy s
    else answered [] { s with mp := { s.mp with deferred := .restartAfterReply } }

/-! ## The catalogue (R158, R188) -/

/-- A request of a kind, performed; a kind that names none is answered UNKNOWN_KIND. -/
def performKind (kind : Nat) (fields : List Byte) (s : State) : Answer :=
  match kind with
  | 0x01 => answerIdentify fields s
  | 0x02 => answerStatus fields s
  | 0x03 => answerPlanBegin fields s
  | 0x04 => answerPlanCheck fields s
  | 0x05 => answerPlanActivate fields s
  | 0x06 => answerPlanDiscard fields s
  | 0x07 => answerPlanPut fields s
  | 0x08 => answerPlanRead fields s
  | 0x09 => answerExitSet fields s
  | 0x0A => answerZoneForce fields s
  | 0x0B => answerZoneReset fields s
  | 0x0C => answerEvacuate fields s
  | 0x0D => answerStandDown fields s
  | 0x0E => answerGroupSet fields s
  | 0x0F => answerNodeQuery fields s
  | 0x10 => answerSignQuery fields s
  | 0x11 => answerZoneQuery fields s
  | 0x12 => answerDetectorQuery fields s
  | 0x13 => answerPortalQuery fields s
  | 0x14 => answerNoticeSetup fields s
  | 0x15 => answerClearFlags fields s
  | 0x16 => answerFaultRead fields s
  | 0x17 => answerFaultClear fields s
  | 0x18 => answerCounterSetup fields s
  | 0x19 => answerCounterRead fields s
  | 0x1A => answerOutputSetup fields s
  | 0x1B => answerLineSetup fields s
  | 0x1C => answerLineHalt fields s
  | 0x1D => answerLineRun fields s
  | 0x1E => answerRestart fields s
  | _ => turnedAway .unknownKind s

/-- A request performed. -/
def perform (r : Request) (s : State) : Answer := performKind r.kind.toNat r.fields s

end Sys2Proof.Machine
end

