-- ==== Sys2Proof/Machine/MessagePort.lean ====
section
/-! DEFINITION. The Message Port: slots, taking, replies, notice frames, and the transmitter (R155 to R157, R164, R170 to
R172). -/

namespace Sys2Proof.Machine

/-- Changes the Message Port in the state. -/
def State.onMp (s : State) (f : MessagePort → MessagePort) : State := { s with mp := f s.mp }

/-! ## Frames the part sends (R188) -/

/-- A reply's body. -/
def replyBody (r : Reply) : List Byte :=
  [0x80, r.tag, r.kind, byte1 (replyStatusCode r.status)] ++ r.fields

/-- A line condition's code. -/
def conditionCode : LineCondition → Nat
  | .lock st => lockStateCode st
  | .port st => portStateCode st

/-- The zone an evacuation cause names. -/
def causeZone : EvacCause → Option Nat
  | .zone z => some z
  | _ => none

/-- A notice's own fields; an absent panel id's byte is free (log entry 12). -/
def noticeFields (free : Nat) : NoticeBody → List Byte
  | .evacState prev new decl cause =>
    [byte1 (evacStateCode prev), byte1 (evacStateCode new), flagByte decl, byte1 (evacCauseCode cause),
     optByte1 (causeZone cause)]
  | .zoneChange z prev new => [byte1 z, byte1 (zoneStateCode prev), byte1 (zoneStateCode new)]
  | .routePublished epoch passes limited stale changed nones =>
    byte2 epoch ++ byte2 passes ++ [flagByte limited, flagByte stale] ++ byte2 changed ++ byte2 nones
  | .noRoute epoch count node address => byte2 epoch ++ [byte1 count] ++ byte2 node ++ [byte1 address]
  | .signTrouble i a st misses lamp =>
    [byte1 i, byte1 a, byte1 (signStateCode st), byte1 misses, optByte1 (lamp.map lampCode)]
  | .portalChange port st live lowest =>
    [byte1 (portCode port), byte1 (portStateCode st), byte1 live, optByte1 lowest]
  | .faultCaptured k subject =>
    [byte1 k.idx.val, byte1 (faultClassCode (faultClassOf k))] ++ byte2 subject
  | .lineState line c panel => [byte1 line, byte1 (conditionCode c)] ++ presentByte1 free panel
  | .planEvent o id f => [byte1 (planOutcomeCode o)] ++ byte2 id ++ failureBytes f
  | .overrun (.pendingTable a) => 0 :: byte2 a
  | .overrun .messagePort => [1, onesByte, onesByte]

/-- A notice frame's body (R172, R188). -/
def noticeFrame (free : Nat) (n : Notice) : List Byte :=
  [0x81, byte1 (noticeKindCode n.kind)] ++ clockBytes n.event.clock ++ byte4 n.event.seconds ++
    noticeFields free n.event.body

/-! ## Taking requests (R156, R157) -/

/-- A reply placed in the reply slot goes out at once when the transmitter is free. -/
def sendReply (t : Transmitter) : Transmitter :=
  match t with
  | .idle => .reply
  | other => other

/-- The request in hand is performed, its reply placed, and the waiting frame moves up. -/
def takeRequest (r : Request) (s : State) : State :=
  let a := perform r s
  let s1 := a.state.onMp fun mp =>
    { mp with
      hand := mp.waiting, waiting := none
      reply := some { kind := r.kind, tag := r.tag, status := a.status, fields := a.fields }
      transmitter := sendReply mp.transmitter }
  { s1 with free := s1.free + Config.freeBlock }

/-- The request in hand is taken when the reply slot is empty and no effect waits on a reply that has been sent. -/
def takeNext (s : State) : State :=
  match s.mp.hand, s.mp.reply, s.mp.deferred with
  | some r, none, .none => takeRequest r s
  | _, _, _ => s

/-- A request frame is placed, or dropped with both slots full; it is then taken if it can be. -/
def receiveRequest (r : Request) (s : State) : State :=
  match s.mp.hand with
  | none => takeNext (s.onMp fun mp => { mp with hand := some r })
  | some _ =>
    match s.mp.waiting with
    | none => takeNext (s.onMp fun mp => { mp with waiting := some r })
    | some _ => raise (.overrun .messagePort) (capture .portFrameDropped 0 s)

/-- A request of a kind, with a tag and fields, completes as a frame on the message port of a running part. -/
def requestArrives (kind tag : Byte) (fields : List Byte) (s : State) : State :=
  whenRunning (receiveRequest { kind := kind, tag := tag, fields := fields }) s

/-! ## Frames received (R155) -/

/-- What the message port's receiver hands on (R155). A bad check value decides over a character error (log entry 23),
and a character error over a body shorter than two bytes (log entry 44). -/
def messageEvent (s : State) (e : RxEvent) : State :=
  match e with
  | .badCheck _ => s
  | .frame body err =>
    if err then capture .lineCharError 0 s
    else match body with
      | kind :: tag :: fields => receiveRequest { kind := kind, tag := tag, fields := fields } s
      | _ => s

/-- One character on the message port. -/
def messageChar (s : State) (c : RxChar) : State :=
  let r := receiveChar s.lines.message.inUse s.lines.message.rx c
  r.1.foldl messageEvent (s.onLine .message fun l => { l with rx := r.2 })

/-! ## The transmitter (R157, R164, R167, R172) -/

/-- What waits once the reply it waited for has been sent. -/
def afterReply : Deferred → Deferred
  | .none => .none
  | .formatAfterReply sp pa st => .formatDue sp pa st
  | .formatDue sp pa st => .formatDue sp pa st
  | .restartAfterReply => .restartDue
  | .restartDue => .restartDue

/-- Whether a change of format is due, which comes before anything more is sent. -/
def formatIsDue : Deferred → Bool
  | .formatDue _ _ _ => true
  | _ => false

/-- The head notice leaves the list and its frame begins, when the transmitter is free and the reply slot empty
(R172). -/
def noticeStart (s : State) : State :=
  match s.mp.transmitter, s.mp.reply, s.mp.notices with
  | .idle, none, n :: rest =>
    if formatIsDue s.mp.deferred then s
    else
      let s1 := s.onMp fun mp => { mp with notices := rest, transmitter := .notice (noticeFrame s.free n) }
      { s1 with free := s1.free + Config.freeBlock }
  | _, _, _ => s

/-- The transmitter is free and the reply slot empty: the next request is taken at once and its reply placed, and the
transmitter chooses before that or after it (R157, R172). `noticeFirst`: it chooses before, so that a listed notice's
frame goes out first and the reply waits for it. R172 leaves the order open, and the command that brings the moment
about carries it (log entry 45). -/
def takeOrNotice (noticeFirst : Bool) (s : State) : State :=
  takeNext (if noticeFirst then noticeStart s else s)

/-- The last character of the reply has been sent; the next request is taken at once, unless an effect that waited for
this reply comes first (R157, R164, R167). -/
def replySent (noticeFirst : Bool) (s : State) : State :=
  if s.mp.transmitter = .reply then
    takeOrNotice noticeFirst (s.onMp fun mp =>
      { mp with reply := none, transmitter := .idle, deferred := afterReply mp.deferred })
  else s

/-- The message port's own format changes, once due (R164); a request in hand is then taken. -/
def messageFormatChange (noticeFirst : Bool) (s : State) : State :=
  match s.mp.deferred with
  | .formatDue sp pa st =>
    let f : Format := { speed := sp, parity := pa, stop := st }
    takeOrNotice noticeFirst
      ((s.onLine .message fun l => { l with format := f, inUse := f, rx := [] }).onMp fun mp =>
        { mp with deferred := .none })
  | _ => s

/-- The last character of a notice frame has been sent; a reply that waits goes out. -/
def noticeSent (s : State) : State :=
  match s.mp.transmitter with
  | .notice _ => s.onMp fun mp => { mp with transmitter := if mp.reply.isSome then .reply else .idle }
  | _ => s

/-! ## The frame a line is sending (R182, R187, R188) -/

/-- The body of the frame being sent on the message port. -/
def sentMessage (mp : MessagePort) : Option (List Byte) :=
  match mp.transmitter with
  | .idle => none
  | .reply => mp.reply.map replyBody
  | .notice body => some body

/-- The body of a frame on the sign line. -/
def exchangeBody (e : Exchange) : List Byte :=
  match e.target with
  | .fallback => fallbackBody
  | _ => showBody e.address e.face e.epochByte

/-- The body of the frame being sent on the sign line. -/
def sentSign (c : SignLine) : Option (List Byte) :=
  match c.exchange with
  | some e => if e.phase = .sending then some (exchangeBody e) else none
  | none => none

/-- The body of the frame that a line is sending; the detector line sends nothing (00_scope.md, Connections). -/
def sentBody (s : State) : LineId → Option (List Byte)
  | .message => sentMessage s.mp
  | .detector => none
  | .sign => sentSign s.slc
  | .peerA => s.pp.a.sending.map fun f => advertBody f.frame
  | .peerB => s.pp.b.sending.map fun f => advertBody f.frame

/-- The characters of the frame that a line is sending, from SYNC to check value, as a receiver in the line's format
reads them. -/
def sentFrame (s : State) (id : LineId) : Option (List RxChar) :=
  (sentBody s id).map (frameChars (lineGet s.lines id).inUse)

/-- The levels of the frame that a line is sending, from the start bit of SYNC to the last stop bit of the check value
(R184, R185). -/
def sentLevels (s : State) (id : LineId) : Option (List Bool) :=
  (sentBody s id).map (frameLevels (lineGet s.lines id).inUse)

end Sys2Proof.Machine
end

