-- ==== Sys2Proof/Machine/HazardCommands.lean ====
section
/-! DEFINITION. The meanings of the events of Detector Intake and the Zone Hazard Unit (R25 to R57). -/

namespace Sys2Proof.Machine

/-- Characters arrive on the detector line (R25 to R30, R36 to R40). -/
def execDetectorFrameReceived (chars : List RxChar) (s : State) : Result :=
  .next (whenRunning (fun s => chars.foldl detectorChar s) s)

/-- The silence timer expires (R28). -/
def execSilenceTimerExpiry (s : State) : Result :=
  .next (whenRunning silenceExpiry s)

/-- The contact channels are sampled (R32, R34). -/
def execContactSample (levels : BitVec 8) (s : State) : Result :=
  .next (whenRunning (sampleContacts levels) s)

/-- A channel's accepted change (R32 to R35). -/
def execContactChangeAccepted (channel : Fin 8) (s : State) : Result :=
  .next (whenRunning (acceptChange channel) s)

/-- A PULSE channel's width count has reached 320 with the contact still CLOSED (R34). -/
def execPulseWidthLimit (channel : Fin 8) (s : State) : Result :=
  .next (whenRunning (widthLimit channel) s)

/-- A take begins (R41). -/
def execTakeBegin (s : State) : Result :=
  .next (whenRunning takeBegin s)

/-- The take in progress completes (R43 to R45, R48). -/
def execTakeComplete (s : State) : Result :=
  .next (whenRunning takeComplete s)

/-- A zone's suspect timer expires (R50). -/
def execSuspectTimerExpiry (zone : Nat) (s : State) : Result :=
  .next (whenRunning (suspectExpiry zone) s)

/-- A zone's clear-hold timer expires (R52). -/
def execClearHoldTimerExpiry (zone : Nat) (s : State) : Result :=
  .next (whenRunning (clearHoldExpiry zone) s)

end Sys2Proof.Machine
end

