-- ==== Sys2Proof/Machine/PeerCommands.lean ====
section
/-! DEFINITION. The meanings of the peer ports' events (R137, R139, R144). -/

namespace Sys2Proof.Machine

/-- Characters arrive on a peer port (R136 to R142). -/
def execAdvertReceived (port : PeerPort) (chars : List RxChar) (s : State) : Result :=
  .next (whenRunning (fun s => chars.foldl (advertChar port) s) s)

/-- A port's age timer expires (R139). -/
def execAgeTimerExpiry (port : PeerPort) (s : State) : Result :=
  .next (whenRunning (ageExpiry port) s)

/-- A port's advertise timer expires (R144). -/
def execAdvertTimerExpiry (port : PeerPort) (s : State) : Result :=
  .next (whenRunning (advertiseExpiry port) s)

/-- A port's spacing timer expires (R144). -/
def execSpacingTimerExpiry (port : PeerPort) (s : State) : Result :=
  .next (whenRunning (spacingExpiry port) s)

/-- The last character of an ADVERT is sent (R144, R145). -/
def execAdvertFrameSent (port : PeerPort) (s : State) : Result :=
  .next (whenRunning (advertSent port) s)

end Sys2Proof.Machine
end

