-- ==== Sys2Proof/Machine/PlanCommands.lean ====
section
/-! DEFINITION. The meanings of the ends of a check and of a store, and of the start and the end of a solve (R14, R20, R77, R83). -/

namespace Sys2Proof.Machine

/-- The plan check ends (R14, R15). -/
def execPlanCheckEnd (s : State) : Result :=
  .next (whenRunning endCheck s)

/-- The store to plan memory ends with the image read back (R20). -/
def execPlanStoreEnd (readBack : List Byte) (s : State) : Result :=
  .next (whenRunning (endStore readBack) s)

/-- A solve starts (R74, R77). -/
def execSolveStart (s : State) : Result :=
  .next (whenRunning solveStart s)

/-- A solve ends (R83 to R86). -/
def execSolveEnd (s : State) : Result :=
  .next (whenRunning solveEnd s)

end Sys2Proof.Machine
end

