-- ==== Sys2Proof/Machine/PortCommands.lean ====
section
/-! DEFINITION. The meanings of the message port's own events and of FRAME_GAP_ABORT (R155 to R157, R164, R172, R183). -/

namespace Sys2Proof.Machine

/-- Characters arrive on the message port (R155, R156, R182 to R184). -/
def execMessageFrameReceived (chars : List RxChar) (s : State) : Result :=
  .next (whenRunning (fun s => chars.foldl messageChar s) s)

/-- The last character of a reply is sent (R157, R172). -/
def execReplySent (s : State) (noticeFirst : Bool := false) : Result :=
  .next (whenRunning (replySent noticeFirst) s)

/-- The message port takes its new format (R164). -/
def execMessagePortFormatChange (s : State) (noticeFirst : Bool := false) : Result :=
  .next (whenRunning (messageFormatChange noticeFirst) s)

/-- The head notice's frame begins (R172). -/
def execNoticeFrameStart (s : State) : Result :=
  .next (whenRunning noticeStart s)

/-- The last character of a notice frame is sent (R172). -/
def execNoticeFrameSent (s : State) : Result :=
  .next (whenRunning noticeSent s)

/-- The gap rule aborts the frame a line is receiving, and its owner counts it (R183, R25, R120, R137, R155). On the
message port R155 captures nothing for an aborted frame and LINE_CHAR_ERROR for one with a character in error; that the
abort decides, so that nothing is captured for a frame that is both, is the model's choice (log entry 49). -/
def gapAbort (line : LineId) (s : State) : State :=
  let rec_ := lineGet s.lines line
  if rec_.rx.isEmpty then s
  else match line with
    | .message => s.onLine .message fun l => { l with rx := [] }
    | .detector =>
      detectorInvalid (rec_.rx.any (charError rec_.inUse)) (s.onLine .detector fun l => { l with rx := [] })
    | .sign => signGap s
    | .peerA => advertGap .a s
    | .peerB => advertGap .b s

/-- More than ten character times pass inside a frame of a line (R183). -/
def execFrameGapAbort (line : LineId) (s : State) : Result :=
  .next (whenRunning (gapAbort line) s)

end Sys2Proof.Machine
end

