-- ==== Sys2Proof/Machine/RequestCommands.lean ====
section
/-! DEFINITION. The meanings of the requests. A request's frame completes on the message port with a correct check value; it is
placed in the input slots (R156) and, with the reply slot empty, taken: its effect is made and its reply composed
(R157). What taking it does is in Machine/Requests.lean, under the request's name (log entry 4). -/

namespace Sys2Proof.Machine

/-- A request of any kind, and in particular of one that names no request (R158). -/
def execUnknownKind (kind tag : Byte) (fields : List Byte) (s : State) : Result :=
  .next (requestArrives kind tag fields s)

/-- IDENTIFY (R160), kind 0x01. -/
def execIdentify (tag : Byte) (fields : List Byte) (s : State) : Result :=
  .next (requestArrives 0x01 tag fields s)

/-- STATUS (R161), kind 0x02. -/
def execStatus (tag : Byte) (fields : List Byte) (s : State) : Result :=
  .next (requestArrives 0x02 tag fields s)

/-- PLAN BEGIN (R9), kind 0x03. -/
def execPlanBegin (tag : Byte) (fields : List Byte) (s : State) : Result :=
  .next (requestArrives 0x03 tag fields s)

/-- PLAN PUT (R10), kind 0x07. -/
def execPlanPut (tag : Byte) (fields : List Byte) (s : State) : Result :=
  .next (requestArrives 0x07 tag fields s)

/-- PLAN CHECK (R13), kind 0x04. -/
def execPlanCheck (tag : Byte) (fields : List Byte) (s : State) : Result :=
  .next (requestArrives 0x04 tag fields s)

/-- PLAN ACTIVATE (R16), kind 0x05. -/
def execPlanActivate (tag : Byte) (fields : List Byte) (s : State) : Result :=
  .next (requestArrives 0x05 tag fields s)

/-- PLAN DISCARD (R11), kind 0x06. -/
def execPlanDiscard (tag : Byte) (fields : List Byte) (s : State) : Result :=
  .next (requestArrives 0x06 tag fields s)

/-- PLAN READ (R12), kind 0x08. -/
def execPlanRead (tag : Byte) (fields : List Byte) (s : State) : Result :=
  .next (requestArrives 0x08 tag fields s)

/-- EXIT SET (R71), kind 0x09. -/
def execExitSet (tag : Byte) (fields : List Byte) (s : State) : Result :=
  .next (requestArrives 0x09 tag fields s)

/-- ZONE FORCE (R55), kind 0x0A. -/
def execZoneForce (tag : Byte) (fields : List Byte) (s : State) : Result :=
  .next (requestArrives 0x0A tag fields s)

/-- ZONE RESET (R56), kind 0x0B. -/
def execZoneReset (tag : Byte) (fields : List Byte) (s : State) : Result :=
  .next (requestArrives 0x0B tag fields s)

/-- EVACUATE (R60), kind 0x0C. -/
def execEvacuate (tag : Byte) (fields : List Byte) (s : State) : Result :=
  .next (requestArrives 0x0C tag fields s)

/-- STAND DOWN (R61), kind 0x0D. -/
def execStandDown (tag : Byte) (fields : List Byte) (s : State) : Result :=
  .next (requestArrives 0x0D tag fields s)

/-- GROUP SET (R104), kind 0x0E. -/
def execGroupSet (tag : Byte) (fields : List Byte) (s : State) : Result :=
  .next (requestArrives 0x0E tag fields s)

/-- NODE QUERY (R96), kind 0x0F. -/
def execNodeQuery (tag : Byte) (fields : List Byte) (s : State) : Result :=
  .next (requestArrives 0x0F tag fields s)

/-- SIGN QUERY (R132), kind 0x10. -/
def execSignQuery (tag : Byte) (fields : List Byte) (s : State) : Result :=
  .next (requestArrives 0x10 tag fields s)

/-- ZONE QUERY (R58), kind 0x11. -/
def execZoneQuery (tag : Byte) (fields : List Byte) (s : State) : Result :=
  .next (requestArrives 0x11 tag fields s)

/-- DETECTOR QUERY (R162), kind 0x12. -/
def execDetectorQuery (tag : Byte) (fields : List Byte) (s : State) : Result :=
  .next (requestArrives 0x12 tag fields s)

/-- PORTAL QUERY (R150), kind 0x13. -/
def execPortalQuery (tag : Byte) (fields : List Byte) (s : State) : Result :=
  .next (requestArrives 0x13 tag fields s)

/-- NOTICE SETUP (R173), kind 0x14. -/
def execNoticeSetup (tag : Byte) (fields : List Byte) (s : State) : Result :=
  .next (requestArrives 0x14 tag fields s)

/-- CLEAR FLAGS (R174), kind 0x15. -/
def execClearFlags (tag : Byte) (fields : List Byte) (s : State) : Result :=
  .next (requestArrives 0x15 tag fields s)

/-- FAULT READ (R177), kind 0x16. -/
def execFaultRead (tag : Byte) (fields : List Byte) (s : State) : Result :=
  .next (requestArrives 0x16 tag fields s)

/-- FAULT CLEAR (R177), kind 0x17. -/
def execFaultClear (tag : Byte) (fields : List Byte) (s : State) : Result :=
  .next (requestArrives 0x17 tag fields s)

/-- COUNTER SETUP (R178), kind 0x18. -/
def execCounterSetup (tag : Byte) (fields : List Byte) (s : State) : Result :=
  .next (requestArrives 0x18 tag fields s)

/-- COUNTER READ (R178), kind 0x19. -/
def execCounterRead (tag : Byte) (fields : List Byte) (s : State) : Result :=
  .next (requestArrives 0x19 tag fields s)

/-- OUTPUT SETUP (R179), kind 0x1A. -/
def execOutputSetup (tag : Byte) (fields : List Byte) (s : State) : Result :=
  .next (requestArrives 0x1A tag fields s)

/-- LINE SETUP (R163), kind 0x1B. -/
def execLineSetup (tag : Byte) (fields : List Byte) (s : State) : Result :=
  .next (requestArrives 0x1B tag fields s)

/-- LINE HALT (R165), kind 0x1C. -/
def execLineHalt (tag : Byte) (fields : List Byte) (s : State) : Result :=
  .next (requestArrives 0x1C tag fields s)

/-- LINE RUN (R166), kind 0x1D. -/
def execLineRun (tag : Byte) (fields : List Byte) (s : State) : Result :=
  .next (requestArrives 0x1D tag fields s)

/-- RESTART (R167), kind 0x1E. -/
def execRestart (tag : Byte) (fields : List Byte) (s : State) : Result :=
  .next (requestArrives 0x1E tag fields s)

end Sys2Proof.Machine
end

