-- ==== Sys2Proof/Machine/ResetCommands.lean ====
section
/-! DEFINITION. The meanings of POWER_ON, RESET_LINE, RESTART_BEGIN, RESET_LINE_ASSERTED, POWER_LOSS and START_UP_LOAD_END (R20, R21,
R167 to R169). -/

namespace Sys2Proof.Machine

/-- Power-on, from whatever state the part is in: a reset of kind POWER_ON with its start-up load (R169, R21). A store
that supply loss cut stays incomplete. -/
def execPowerOn (s : State) : Result :=
  .next (resetWith .powerOn powerOnSettings (abandonStore s.ps) s)

/-- The reset line is released: a reset of kind RESET_LINE with its start-up load (R169, R21). -/
def execResetLine (s : State) : Result :=
  .next (if s.phase = .off then s else resetWith .resetLine powerOnSettings (abandonStore s.ps) s)

/-- The restart an accepted RESTART promised begins, once its reply has been sent and no store is in flight (R167,
R168). -/
def execRestartBegin (s : State) : Result :=
  .next (whenRunning
    (fun s =>
      if s.mp.deferred = .restartDue ∧ s.ps.storing = false then resetWith .restart (keptSettings s) s.ps.memory s
      else s) s)

/-- The reset line is driven active: frames and any store are abandoned, and the outputs follow their power-on selections
against the state before the load (R20, R169, R179). -/
def execResetLineAsserted (s : State) : Result :=
  .next (if s.phase = .off then s else heldState .resetLine .held s)

/-- Supply is lost: everything but plan memory is lost, and a store in flight is abandoned (R20). -/
def execPowerLoss (s : State) : Result :=
  .next (heldState .powerOn .off s)

/-- The start-up load ends; the message port begins hunting and reports are accepted (R21, R155). -/
def execStartUpLoadEnd (s : State) : Result :=
  .next (if s.phase = .loading then { s with phase := .running } else s)

end Sys2Proof.Machine
end

