-- ==== Sys2Proof/Machine/SignCommands.lean ====
section
/-! DEFINITION. The meanings of the sign line's events (R101, R113, R118 to R125). -/

namespace Sys2Proof.Machine

/-- The refresh timer expires (R113). -/
def execRefreshTimerExpiry (s : State) : Result :=
  .next (whenRunning refreshExpiry s)

/-- The last character of a SHOW or BLANK frame is sent (R118, R119, R124). -/
def execShowFrameSent (s : State) : Result :=
  .next (whenRunning showSent s)

/-- Characters arrive on the sign line (R119 to R121). -/
def execSignFrameReceived (chars : List RxChar) (s : State) : Result :=
  .next (whenRunning (fun s => chars.foldl signChar s) s)

/-- The sign reply window closes (R120, R122). -/
def execReplyWindowClose (s : State) : Result :=
  .next (whenRunning windowClosed s)

/-- The last character of a FALLBACK frame is sent (R125). -/
def execFallbackFrameSent (s : State) : Result :=
  .next (whenRunning fallbackSent s)

/-- A sign's emphasis timer expires (R101). -/
def execEmphasisTimerExpiry (sign : Nat) (s : State) : Result :=
  .next (whenRunning (emphasisExpiry sign) s)

end Sys2Proof.Machine
end

