-- ==== Sys2Proof/Machine/TimeCommands.lean ====
section
/-! DEFINITION. The meaning of TENTH_TICK (R53, R63 to R65). -/

namespace Sys2Proof.Machine

/-- The Timebase at a tenth tick: the next step of the pattern, and one second more at the end of the tenth (R64,
R65). -/
def tickTimebase (t : Timebase) : Timebase :=
  if t.step = 9 then { step := 0, seconds := min Config.maxSeconds (t.seconds + 1) }
  else { t with step := t.step + 1 }

/-- The Sign Line Controller's timers at a tenth tick (R100, R113). -/
def tickSigns (c : SignLine) : SignLine :=
  { c with
    refresh := tickTimer c.refresh
    signs := c.signs.map fun g => { g with emphasis := tickTimer g.emphasis } }

/-- A port's timers at a tenth tick (R139, R144). -/
def tickPort (r : PortRec) : PortRec :=
  { r with age := tickTimer r.age, advertise := tickTimer r.advertise, spacing := tickTimer r.spacing }

/-- Every timer takes the tick; the expiries that it brings are commands of their own. -/
def tickAll (s : State) : State :=
  { s with
    tb := tickTimebase s.tb
    zh := tickHazard s.zh
    di := { s.di with silence := tickTimer s.di.silence }
    slc := tickSigns s.slc
    pp := { s.pp with a := tickPort s.pp.a, b := tickPort s.pp.b } }

/-- The Timebase gives a tenth tick; it does so during the start-up load too. -/
def execTenthTick (s : State) : Result :=
  .next
    (match s.phase with
      | .off => s
      | .held => s
      | .loading => tickAll s
      | .running => tickStart (tickAll s))

end Sys2Proof.Machine
end

