-- ==== Sys2Proof/Machine/Dispatch.lean ====
section
/-! DEFINITION. One arm per command, each one call of its meaning. -/

namespace Sys2Proof.Machine

def exec (i : Instr) (s : State) : Host.Outcome State Fault Refusal :=
  match i with
  | .powerOn => Sys2Proof.Machine.execPowerOn s
  | .resetLine => Sys2Proof.Machine.execResetLine s
  | .messageFrameReceived chars => Sys2Proof.Machine.execMessageFrameReceived chars s
  | .unknownKind kind tag fields => Sys2Proof.Machine.execUnknownKind kind tag fields s
  | .identify tag fields => Sys2Proof.Machine.execIdentify tag fields s
  | .status tag fields => Sys2Proof.Machine.execStatus tag fields s
  | .planBegin tag fields => Sys2Proof.Machine.execPlanBegin tag fields s
  | .planPut tag fields => Sys2Proof.Machine.execPlanPut tag fields s
  | .planCheck tag fields => Sys2Proof.Machine.execPlanCheck tag fields s
  | .planActivate tag fields => Sys2Proof.Machine.execPlanActivate tag fields s
  | .planDiscard tag fields => Sys2Proof.Machine.execPlanDiscard tag fields s
  | .planRead tag fields => Sys2Proof.Machine.execPlanRead tag fields s
  | .exitSet tag fields => Sys2Proof.Machine.execExitSet tag fields s
  | .zoneForce tag fields => Sys2Proof.Machine.execZoneForce tag fields s
  | .zoneReset tag fields => Sys2Proof.Machine.execZoneReset tag fields s
  | .evacuate tag fields => Sys2Proof.Machine.execEvacuate tag fields s
  | .standDown tag fields => Sys2Proof.Machine.execStandDown tag fields s
  | .groupSet tag fields => Sys2Proof.Machine.execGroupSet tag fields s
  | .nodeQuery tag fields => Sys2Proof.Machine.execNodeQuery tag fields s
  | .signQuery tag fields => Sys2Proof.Machine.execSignQuery tag fields s
  | .zoneQuery tag fields => Sys2Proof.Machine.execZoneQuery tag fields s
  | .detectorQuery tag fields => Sys2Proof.Machine.execDetectorQuery tag fields s
  | .portalQuery tag fields => Sys2Proof.Machine.execPortalQuery tag fields s
  | .noticeSetup tag fields => Sys2Proof.Machine.execNoticeSetup tag fields s
  | .clearFlags tag fields => Sys2Proof.Machine.execClearFlags tag fields s
  | .faultRead tag fields => Sys2Proof.Machine.execFaultRead tag fields s
  | .faultClear tag fields => Sys2Proof.Machine.execFaultClear tag fields s
  | .counterSetup tag fields => Sys2Proof.Machine.execCounterSetup tag fields s
  | .counterRead tag fields => Sys2Proof.Machine.execCounterRead tag fields s
  | .outputSetup tag fields => Sys2Proof.Machine.execOutputSetup tag fields s
  | .lineSetup tag fields => Sys2Proof.Machine.execLineSetup tag fields s
  | .lineHalt tag fields => Sys2Proof.Machine.execLineHalt tag fields s
  | .lineRun tag fields => Sys2Proof.Machine.execLineRun tag fields s
  | .restart tag fields => Sys2Proof.Machine.execRestart tag fields s
  | .replySent noticeFirst => Sys2Proof.Machine.execReplySent s noticeFirst
  | .messagePortFormatChange noticeFirst => Sys2Proof.Machine.execMessagePortFormatChange s noticeFirst
  | .restartBegin => Sys2Proof.Machine.execRestartBegin s
  | .noticeFrameStart => Sys2Proof.Machine.execNoticeFrameStart s
  | .frameGapAbort line => Sys2Proof.Machine.execFrameGapAbort line s
  | .detectorFrameReceived chars => Sys2Proof.Machine.execDetectorFrameReceived chars s
  | .silenceTimerExpiry => Sys2Proof.Machine.execSilenceTimerExpiry s
  | .contactChangeAccepted channel => Sys2Proof.Machine.execContactChangeAccepted channel s
  | .pulseWidthLimit channel => Sys2Proof.Machine.execPulseWidthLimit channel s
  | .takeBegin => Sys2Proof.Machine.execTakeBegin s
  | .takeComplete => Sys2Proof.Machine.execTakeComplete s
  | .suspectTimerExpiry zone => Sys2Proof.Machine.execSuspectTimerExpiry zone s
  | .clearHoldTimerExpiry zone => Sys2Proof.Machine.execClearHoldTimerExpiry zone s
  | .tenthTick => Sys2Proof.Machine.execTenthTick s
  | .planCheckEnd => Sys2Proof.Machine.execPlanCheckEnd s
  | .planStoreEnd readBack => Sys2Proof.Machine.execPlanStoreEnd readBack s
  | .solveStart => Sys2Proof.Machine.execSolveStart s
  | .solveEnd => Sys2Proof.Machine.execSolveEnd s
  | .refreshTimerExpiry => Sys2Proof.Machine.execRefreshTimerExpiry s
  | .showFrameSent => Sys2Proof.Machine.execShowFrameSent s
  | .signFrameReceived chars => Sys2Proof.Machine.execSignFrameReceived chars s
  | .replyWindowClose => Sys2Proof.Machine.execReplyWindowClose s
  | .fallbackFrameSent => Sys2Proof.Machine.execFallbackFrameSent s
  | .emphasisTimerExpiry sign => Sys2Proof.Machine.execEmphasisTimerExpiry sign s
  | .advertReceived port chars => Sys2Proof.Machine.execAdvertReceived port chars s
  | .ageTimerExpiry port => Sys2Proof.Machine.execAgeTimerExpiry port s
  | .advertTimerExpiry port => Sys2Proof.Machine.execAdvertTimerExpiry port s
  | .spacingTimerExpiry port => Sys2Proof.Machine.execSpacingTimerExpiry port s
  | .advertFrameSent port => Sys2Proof.Machine.execAdvertFrameSent port s
  | .contactSample levels => Sys2Proof.Machine.execContactSample levels s
  | .noticeFrameSent => Sys2Proof.Machine.execNoticeFrameSent s
  | .resetLineAsserted => Sys2Proof.Machine.execResetLineAsserted s
  | .powerLoss => Sys2Proof.Machine.execPowerLoss s
  | .startUpLoadEnd => Sys2Proof.Machine.execStartUpLoadEnd s

end Sys2Proof.Machine
end

