-- ==== Sys2Proof/Safety.lean ====
section
/-! DEFINITION. The terms in which claims about the part are made: when a request can be taken and what its answer
leaves, the properties that every step keeps, and the ranges of a plan's fields. -/

namespace Sys2Proof.Machine

/-! ## Requests -/

/-- The request frame that a request command brings (R188); `none` for the other commands. -/
def requestOf : Instr → Option Request
  | .unknownKind kind tag f => some { kind := kind, tag := tag, fields := f }
  | .identify tag f => some { kind := 0x01, tag := tag, fields := f }
  | .status tag f => some { kind := 0x02, tag := tag, fields := f }
  | .planBegin tag f => some { kind := 0x03, tag := tag, fields := f }
  | .planCheck tag f => some { kind := 0x04, tag := tag, fields := f }
  | .planActivate tag f => some { kind := 0x05, tag := tag, fields := f }
  | .planDiscard tag f => some { kind := 0x06, tag := tag, fields := f }
  | .planPut tag f => some { kind := 0x07, tag := tag, fields := f }
  | .planRead tag f => some { kind := 0x08, tag := tag, fields := f }
  | .exitSet tag f => some { kind := 0x09, tag := tag, fields := f }
  | .zoneForce tag f => some { kind := 0x0A, tag := tag, fields := f }
  | .zoneReset tag f => some { kind := 0x0B, tag := tag, fields := f }
  | .evacuate tag f => some { kind := 0x0C, tag := tag, fields := f }
  | .standDown tag f => some { kind := 0x0D, tag := tag, fields := f }
  | .groupSet tag f => some { kind := 0x0E, tag := tag, fields := f }
  | .nodeQuery tag f => some { kind := 0x0F, tag := tag, fields := f }
  | .signQuery tag f => some { kind := 0x10, tag := tag, fields := f }
  | .zoneQuery tag f => some { kind := 0x11, tag := tag, fields := f }
  | .detectorQuery tag f => some { kind := 0x12, tag := tag, fields := f }
  | .portalQuery tag f => some { kind := 0x13, tag := tag, fields := f }
  | .noticeSetup tag f => some { kind := 0x14, tag := tag, fields := f }
  | .clearFlags tag f => some { kind := 0x15, tag := tag, fields := f }
  | .faultRead tag f => some { kind := 0x16, tag := tag, fields := f }
  | .faultClear tag f => some { kind := 0x17, tag := tag, fields := f }
  | .counterSetup tag f => some { kind := 0x18, tag := tag, fields := f }
  | .counterRead tag f => some { kind := 0x19, tag := tag, fields := f }
  | .outputSetup tag f => some { kind := 0x1A, tag := tag, fields := f }
  | .lineSetup tag f => some { kind := 0x1B, tag := tag, fields := f }
  | .lineHalt tag f => some { kind := 0x1C, tag := tag, fields := f }
  | .lineRun tag f => some { kind := 0x1D, tag := tag, fields := f }
  | .restart tag f => some { kind := 0x1E, tag := tag, fields := f }
  | .powerOn => none
  | .resetLine => none
  | .messageFrameReceived _ => none
  | .replySent _ => none
  | .messagePortFormatChange _ => none
  | .restartBegin => none
  | .noticeFrameStart => none
  | .frameGapAbort _ => none
  | .detectorFrameReceived _ => none
  | .silenceTimerExpiry => none
  | .contactChangeAccepted _ => none
  | .pulseWidthLimit _ => none
  | .takeBegin => none
  | .takeComplete => none
  | .suspectTimerExpiry _ => none
  | .clearHoldTimerExpiry _ => none
  | .tenthTick => none
  | .planCheckEnd => none
  | .planStoreEnd _ => none
  | .solveStart => none
  | .solveEnd => none
  | .refreshTimerExpiry => none
  | .showFrameSent => none
  | .signFrameReceived _ => none
  | .replyWindowClose => none
  | .fallbackFrameSent => none
  | .emphasisTimerExpiry _ => none
  | .advertReceived _ _ => none
  | .ageTimerExpiry _ => none
  | .advertTimerExpiry _ => none
  | .spacingTimerExpiry _ => none
  | .advertFrameSent _ => none
  | .contactSample _ => none
  | .noticeFrameSent => none
  | .resetLineAsserted => none
  | .powerLoss => none
  | .startUpLoadEnd => none

/-- The part runs and takes a request frame as it completes: the input and reply slots are empty and no effect waits on
a reply (R156, R157). -/
def Ready (s : State) : Prop :=
  s.phase = .running ∧ s.mp.hand = none ∧ s.mp.waiting = none ∧ s.mp.reply = none ∧ s.mp.deferred = .none

/-- A state in which a request of a kind and tag has just been answered, its effect having led to `t`: the reply is in the
reply slot, going out if the transmitter is free, and the input slots are empty (R157). -/
def replied (kind tag : Byte) (status : ReplyStatus) (fields : List Byte) (t : State) : State :=
  { t with
    mp := { t.mp with
      hand := none, waiting := none
      reply := some { kind := kind, tag := tag, status := status, fields := fields }
      transmitter := sendReply t.mp.transmitter }
    free := t.free + Config.freeBlock }

/-- How many fields after kind and tag a request of a fixed length carries (R188). -/
def fixedFields : Nat → Option Nat
  | 0x01 => some 0
  | 0x02 => some 0
  | 0x03 => some 0
  | 0x04 => some 0
  | 0x05 => some 0
  | 0x06 => some 0
  | 0x08 => some 5
  | 0x09 => some 2
  | 0x0A => some 2
  | 0x0B => some 1
  | 0x0C => some 0
  | 0x0D => some 0
  | 0x0E => some 10
  | 0x0F => some 2
  | 0x10 => some 1
  | 0x11 => some 1
  | 0x12 => some 2
  | 0x13 => some 1
  | 0x14 => some 4
  | 0x16 => some 0
  | 0x17 => some 2
  | 0x18 => some 2
  | 0x19 => some 0
  | 0x1A => some 16
  | 0x1C => some 1
  | 0x1D => some 1
  | 0x1E => some 0
  | _ => none

/-- The part runs and a request command is answered with a status, fields and the state its effect leads to. -/
def Answers (c : Instr) (s : State) (status : ReplyStatus) (fields : List Byte) (t : State) : Prop :=
  match requestOf c with
  | some r => exec c s = .next (replied r.kind r.tag status fields t)
  | none => False

/-- A request command is turned away with a status and no effect. -/
def TurnedAway (c : Instr) (s : State) (status : ReplyStatus) : Prop := Answers c s status [] s

/-! ## What every step keeps -/

/-- No two notices of one kind, every listed kind's flag set, and the list in order of falling priority (R171). -/
structure NoticesOk (mp : MessagePort) : Prop where
  distinct : mp.notices.Pairwise fun a b => a.kind ≠ b.kind
  flagged  : ∀ n ∈ mp.notices, mp.kinds[n.kind.idx].flag = true
  ordered  : mp.notices.Pairwise fun a b => b.priority ≤ a.priority

/-- The pending report table holds at most 32 entries, no two for one address (R37). -/
structure ReportsOk (di : Intake) : Prop where
  bounded  : di.reports.length ≤ Config.maxPending
  distinct : di.reports.Pairwise fun a b => a.address ≠ b.address

/-- While a zone is in SMOKE, the evacuation state is ACTIVE (R59). -/
def SmokeActive (zh : Hazard) : Prop :=
  (∃ z ∈ zh.zones, z.state = .smoke) → zh.evac = .active

/-- The clock is at most 99:59.9 and its running mark stands exactly while the hall is ACTIVE (R63). -/
structure ClockOk (zh : Hazard) : Prop where
  minutes : zh.clock.minutes ≤ 99
  seconds : zh.clock.seconds ≤ 59
  tenths  : zh.clock.tenths ≤ 9
  running : zh.clock.running = true ↔ zh.evac = .active

/-- A zone's timers run only in their states (R46). -/
def ZoneTimersOk (zh : Hazard) : Prop :=
  ∀ z ∈ zh.zones, (z.suspect ≠ none → z.state = .suspect) ∧ (z.clearHold ≠ none → z.state = .clearing)

/-- The detector table holds at most 256 records, at most one for an address (R42). -/
structure DetectorsOk (zh : Hazard) : Prop where
  bounded : zh.detectors.length ≤ Config.maxDetectors
  rising  : slotsWf zh.detectors = true

/-- The lock machine's counts (R26, R27). -/
def LockOk (di : Intake) : Prop :=
  match di.lock with
  | .silent => di.validRun = 0 ∧ di.invalidRun = 0 ∧ di.silence = none
  | .seeking => di.validRun ≤ 2 ∧ di.invalidRun = 0 ∧ di.silence ≠ none
  | .locked => di.validRun = 0 ∧ di.invalidRun ≤ 2 ∧ di.silence ≠ none

/-- Tallies and counters stay within their ranges (R175, R178). -/
structure FaultsOk (fc : FaultCapture) : Prop where
  tallies  : ∀ k : Fin 13, fc.tallies[k] ≤ 255
  counters : ∀ n : Fin 2, fc.counters[n].value ≤ Config.maxCount

/-- The Timebase stays within its ranges (R64, R65). -/
def TimebaseOk (tb : Timebase) : Prop := tb.step ≤ 9 ∧ tb.seconds ≤ Config.maxSeconds

/-- With no active plan there are no zones, exits, signs or portals, nothing is published or wanted, and both ports are
DOWN (R22). -/
def NoPlanOk (s : State) : Prop :=
  s.ps.active = none →
    s.zh.zones = [] ∧ s.rsv.exits = [] ∧ s.slc.signs = [] ∧ s.pp.portals = [] ∧ s.rsv.published = none ∧
      s.rsv.wanted = false ∧ s.rsv.state = .idle ∧ s.slc.adopted = none ∧
      s.pp.a.state = .down ∧ s.pp.b.state = .down

/-- A portal that is LIVE is a portal of a port that is UP (R141). -/
def PortalsOk (s : State) : Prop :=
  ∀ r ∈ s.pp.portals, r.advertisement ≠ none →
    ∃ p f, s.ps.active = some p ∧ portalOf p r.exit = some f ∧ (portGet s.pp f.port).state = .up

/-- In a heading set, the heading link of every LINK node leads to a node of strictly lower cost that is not NONE and
has the same origin and hop (R93). -/
def SetDescends (p : Plan) (set : HeadingSet) : Prop :=
  ∀ u k o hop, (headingAt set u).choice = .link k o hop →
    ∃ l v, p.links[k]? = some l ∧ farNode l u = some v ∧
      costLt (headingAt set v).cost (headingAt set u).cost = true ∧ routeOf (headingAt set v).choice = some (o, hop)

/-- The published set descends (R93). -/
def PublishedOk (s : State) : Prop :=
  ∀ p set, s.ps.active = some p → s.rsv.published = some set → SetDescends p set

/-! ## Plans in their ranges -/

/-- A timing setting in its range; a count of 0 stands only where the setting allows it (R3). -/
def TimingFits (zeroOk : Bool) (t : Timing) : Prop := t.count ≤ 255 ∧ (zeroOk = false → 1 ≤ t.count)

/-- The fields of a header in their ranges (R2, R3). -/
structure HeaderFits (h : Header) : Prop where
  planId    : h.planId ≤ 65535
  counts    : h.nodeCount ≤ Config.maxNodes ∧ h.linkCount ≤ Config.maxLinks ∧ h.zoneCount ≤ Config.maxZones ∧
    h.windowCount ≤ Config.maxWindows ∧ h.exitCount ≤ Config.maxExits ∧ h.signCount ≤ Config.maxSigns
  timings   : ∀ t ∈ [h.suspect, h.clearHold, h.emphasis, h.advertise, h.ageLimit, h.silence, h.spacing],
    TimingFits false t
  refresh   : TimingFits true h.refresh
  levels    : h.quietLevel ≤ 15 ∧ h.alertLevel ≤ 15 ∧ h.activeLevel ≤ 15
  margin    : h.margin ≤ 1023
  surcharge : h.surcharge ≤ 4095
  window    : 2 ≤ h.replyWindow ∧ h.replyWindow ≤ 50
  misses    : 1 ≤ h.missLimit ∧ h.missLimit ≤ 7
  stations  : 1 ≤ h.ownId ∧ h.ownId ≤ 15 ∧ h.expectedA ≤ 15 ∧ h.expectedB ≤ 15

/-- A link record's fields in their ranges (R4). -/
def LinkFits (l : LinkRec) : Prop :=
  l.a ≤ 65535 ∧ l.b ≤ 65535 ∧ 1 ≤ l.len ∧ l.len ≤ 4095 ∧ l.width ≤ 3 ∧ l.zone ≤ 255

/-- A zone record's fields in their ranges (R5). -/
def ZoneFits (z : ZoneRec) : Prop :=
  z.suspectWeight ≤ 15 ∧ 1 ≤ z.smokeWeight ∧ z.smokeWeight ≤ 15 ∧ 1 ≤ z.confirmCount ∧ z.confirmCount ≤ 7

/-- A window record's fields in their ranges (R5). -/
def WindowFits (w : WindowRec) : Prop :=
  w.base ≤ 65535 ∧ (∃ k ≤ 10, w.size = 2 ^ k) ∧ w.zone ≤ 255

/-- An exit record's fields in their ranges (R6). -/
def ExitFits (e : ExitRec) : Prop :=
  e.node ≤ 65535 ∧ e.bias ≤ 4095 ∧ ∀ f, e.portal = some f → f.remote ≤ 31 ∧ f.crossing ≤ 4095

/-- A sign record's fields in their ranges (R7). -/
def SignFits (g : SignRec) : Prop :=
  g.address ≤ 255 ∧ g.node ≤ 65535 ∧ 1 ≤ g.map.length ∧ g.map.length ≤ 8 ∧
    (∀ e ∈ g.map, e.1 ≤ 65535 ∧ e.2 ≤ 7) ∧ g.groups.length ≤ 4 ∧ ∀ n ∈ g.groups, n ≤ 255

/-- A plan with as many records as its counts say, every field in its range (R2 to R7). -/
structure PlanFits (p : Plan) : Prop where
  header  : HeaderFits p.header
  lengths : p.nodes.length = p.header.nodeCount ∧ p.links.length = p.header.linkCount ∧
    p.zones.length = p.header.zoneCount ∧ p.windows.length = p.header.windowCount ∧
    p.exits.length = p.header.exitCount ∧ p.signs.length = p.header.signCount
  nodes   : ∀ n ∈ p.nodes, ∀ l, n.label = some l → l ≤ 65535
  links   : ∀ l ∈ p.links, LinkFits l
  zones   : ∀ z ∈ p.zones, ZoneFits z
  windows : ∀ w ∈ p.windows, WindowFits w
  exits   : ∀ e ∈ p.exits, ExitFits e
  signs   : ∀ g ∈ p.signs, SignFits g

end Sys2Proof.Machine
end

