-- ==== Sys2Proof/Certificates/Slice0/Obligations.lean ====
section
/-! DEFINITION. The statements for the provers. -/

open Sys2Proof Sys2Proof.Machine

/-! ## The machine -/

/-- Log entry 3: the step runs the command at the front of the queue on the state with the queue's rest; with the queue
empty the block idles. -/
def Obligations.step_runs_front_command : Prop :=
  (∀ (c : Instr) (rest : List Instr) (s : State), s.pending = c :: rest → step s = exec c { s with pending := rest }) ∧
  (∀ s : State, s.pending = [] → step s = .next s)

/-- Every property that the steps keep holds after reset. State.reset itself is the model's choice of log entry 7. -/
def Obligations.reset_has_every_property : Prop :=
  NoticesOk State.reset.mp ∧ ReportsOk State.reset.di ∧ SmokeActive State.reset.zh ∧ ClockOk State.reset.zh ∧
    ZoneTimersOk State.reset.zh ∧ DetectorsOk State.reset.zh ∧ LockOk State.reset.di ∧ FaultsOk State.reset.fc ∧
    TimebaseOk State.reset.tb ∧ NoPlanOk State.reset ∧ PortalsOk State.reset ∧ PublishedOk State.reset

/-! ## Properties every step keeps -/

/-- R171: the notice list never holds two notices of one kind, every listed kind's flag is set, and the list is ordered by
priority. -/
def Obligations.step_keeps_notices_ok : Prop :=
  ∀ s t : State, NoticesOk s.mp → step s = .next t → NoticesOk t.mp

/-- R46, R53, R59: while any zone is in SMOKE the evacuation state is ACTIVE, a suspect timer runs only in SUSPECT and a
clear-hold timer only in CLEARING. -/
def Obligations.step_keeps_zones_ok : Prop :=
  ∀ s t : State, SmokeActive s.zh → ZoneTimersOk s.zh → step s = .next t → SmokeActive t.zh ∧ ZoneTimersOk t.zh

/-- R37, R42: the pending report table holds at most 32 entries and the detector table at most 256 records, each at most
one for an address. -/
def Obligations.step_keeps_tables_ok : Prop :=
  ∀ s t : State, ReportsOk s.di → DetectorsOk s.zh → step s = .next t → ReportsOk t.di ∧ DetectorsOk t.zh

/-- R64, R65, R175, R178: every tally stays at most 255 and every counter at most 16,777,215; the pattern has ten steps
and the seconds count saturates. -/
def Obligations.step_keeps_counts_ok : Prop :=
  ∀ s t : State, FaultsOk s.fc → TimebaseOk s.tb → step s = .next t → FaultsOk t.fc ∧ TimebaseOk t.tb

/-- R63: the clock never exceeds 99:59.9, and its running mark stands exactly in ACTIVE. -/
def Obligations.step_keeps_clock_ok : Prop :=
  ∀ s t : State, ClockOk s.zh → step s = .next t → ClockOk t.zh

/-- R26, R27: the lock machine's counts stay as their states give them, and the silence timer is idle exactly in SILENT.
That the valid-run count is 0 in LOCKED, where no rule gives it a value, is the model's choice (log entry 41). -/
def Obligations.step_keeps_lock_ok : Prop :=
  ∀ s t : State, LockOk s.di → step s = .next t → LockOk t.di

/-- R22: while no plan is active there are no zones, exits, signs or portals, nothing is wanted or published, and both
ports are DOWN. -/
def Obligations.step_keeps_no_plan_ok : Prop :=
  ∀ s t : State, NoPlanOk s → step s = .next t → NoPlanOk t

/-- R141: while a port is DOWN or MISWIRED, every portal of that port is UNKNOWN. -/
def Obligations.step_keeps_portals_ok : Prop :=
  ∀ s t : State, PortalsOk s → step s = .next t → PortalsOk t

/-- R93: in every published heading set a LINK heading leads to a node of strictly lower cost with the same origin and
hop. -/
def Obligations.step_keeps_published_ok : Prop :=
  ∀ s t : State, PublishedOk s → step s = .next t → PublishedOk t

/-! ## Resets and the start-up load -/

/-- R20, R21, R169: power-on, in any phase, and the release of the reset line, with supply, reset every block; with plan
memory BLANK the active bank holds no plan and nothing is captured; with the mark WRITTEN and a stored check value that
is not the CRC-16 of the image, or with an image that holds no plan, it holds none and PLAN_STORE_FAULT is captured; a
store in flight is abandoned. `kind` and `c` are the two kinds of reset. The layout of the image, and that an abandoned
store leaves no check value, are the model's choices, and so are that the load's outcome is in force at once with
`loading` until its end, and that power-on acts in any phase (log entries 6, 8, 9). -/
def Obligations.reset_without_a_plan : Prop :=
  ∀ (s : State) (c : Instr) (kind : ResetKind),
    (c = .powerOn ∧ kind = .powerOn) ∨ (c = .resetLine ∧ kind = .resetLine ∧ s.phase ≠ .off) →
    let fresh (condition : MemoryCondition) (memory : PlanMemory) : State :=
      { State.reset with
        pending := s.pending, free := s.free, phase := .loading
        ps := { State.reset.ps with memory := memory, condition := condition }
        mp := { State.reset.mp with lastReset := kind } }
    (s.ps.memory.mark = .blank → s.ps.storing = false →
      exec c s = .next (fresh .blank s.ps.memory)) ∧
    (s.ps.memory.mark = .written → s.ps.storing = false →
      s.ps.memory.check ≠ some (crc16 s.ps.memory.image) ∨ planOfImage s.ps.memory.image = none →
      exec c s = .next (capture .planStoreFault 0 (fresh .bad s.ps.memory))) ∧
    (s.ps.storing = true →
      exec c s =
        .next (capture .planStoreFault 0 (fresh .bad { s.ps.memory with mark := .written, check := none })))

/-- R21, R111, R134, R135: a reset that finds a plan in plan memory makes it the active plan and starts every block on
it. The block-by-block values are those of the chapters' reset columns. When the load's outcome is in force, that
power-on acts in any phase, and how the image holds the plan are the model's choices (log entries 6, 8, 9). -/
def Obligations.reset_with_a_plan : Prop :=
  ∀ (s : State) (c : Instr) (p : Plan) (image : List Byte),
    c = .powerOn ∨ (c = .resetLine ∧ s.phase ≠ .off) →
    s.ps.memory = { mark := .written, image := image, check := some (crc16 image) } → planOfImage image = some p →
    s.ps.storing = false →
    ∃ t : State, exec c s = .next t ∧
      t.phase = .loading ∧ t.pending = s.pending ∧
      t.ps = { active := some p, staging := stagingEmpty, memory := s.ps.memory, condition := .good,
               storing := false } ∧
      t.di = State.reset.di ∧
      t.zh = { State.reset.zh with
               zones := p.zones.map fun z =>
                 { state := .clear, suspect := none, clearHold := none, untracked := false, setting := z } } ∧
      t.rsv = { State.reset.rsv with
                wanted := true, exits := p.exits.map (·.initial),
                nodes := List.replicate p.header.nodeCount
                  { cost := { x := 65535, d := 65535 }, route := none } } ∧
      t.slc.cycle = .dormant ∧ t.slc.removal = [] ∧ t.slc.adopted = none ∧ t.slc.exchange = none ∧
      t.slc.refresh = (if p.header.refresh.count = 0 then none else some (timingTicks p.header.refresh)) ∧
      t.slc.number = 0 ∧ t.slc.groups = State.reset.slc.groups ∧
      t.slc.signs = p.signs.map (fun g =>
        { address := g.address, node := g.node, state := .unseen, misses := 0, lamp := none, lastFace := none,
          outcome := .none, composed := none, flashOpen := false, emphasis := none, lastBase := none }) ∧
      (∀ r ∈ t.pp.portals, r.advertisement = none ∧ r.lastSent = none) ∧
      t.pp.portals.map (·.exit) = (List.range p.exits.length).filter (fun e => (portalOf p e).isSome) ∧
      (∀ port : PeerPort, (portGet t.pp port).state = .down ∧ (portGet t.pp port).age = none ∧
        (portGet t.pp port).advertise =
          if expectedId p.header port = 0 then none else some (timingTicks p.header.advertise)) ∧
      t.mp = { State.reset.mp with lastReset := if c = .powerOn then .powerOn else .resetLine } ∧
      t.fc = State.reset.fc ∧ t.tb = State.reset.tb ∧ t.lines = State.reset.lines

/-- R167, R168: the restart begins once its reply has been sent and no store is in flight. It keeps plan memory, the
fault record with its tallies and options, the counters and outputs, the line formats and marks, the contact settings
and the notice setup, and gives everything else its value after reset, on the plan that plan memory holds. A load that
fails captures PLAN_STORE_FAULT. That RESTART_BEGIN with a store in flight changes nothing, when the load's outcome is in
force, and how plan memory holds the plan are the model's choices (log entries 2, 6, 9). -/
def Obligations.restart_begin_keeps_and_clears : Prop :=
  ∀ s : State, s.phase = .running → s.mp.deferred = .restartDue →
    (s.ps.storing = true → exec .restartBegin s = .next s) ∧
    (s.ps.storing = false → ∃ u : State,
      let m := s.ps.memory
      let found : Option Plan :=
        if m.mark = .written ∧ m.check = some (crc16 m.image) then planOfImage m.image else none
      exec .restartBegin s = .next (if u.ps.condition = .bad then capture .planStoreFault 0 u else u) ∧
      u.phase = .loading ∧ u.pending = s.pending ∧ u.free = s.free ∧
      u.ps = { active := found, staging := stagingEmpty, memory := m, storing := false
               condition := if m.mark = .blank then .blank else if found.isSome then .good else .bad } ∧
      u.di = { State.reset.di with channels := u.di.channels } ∧
      (∀ n : Fin 8, u.di.channels[n] = startChannel s.di.channels[n].mode s.di.channels[n].address) ∧
      u.zh = { State.reset.zh with
               zones := found.elim [] fun p => p.zones.map fun z =>
                 { state := .clear, suspect := none, clearHold := none, untracked := false, setting := z } } ∧
      u.rsv = { State.reset.rsv with
                wanted := found.isSome, exits := found.elim [] fun p => p.exits.map (·.initial)
                nodes := found.elim [] fun p => List.replicate p.header.nodeCount
                  { cost := { x := 65535, d := 65535 }, route := none } } ∧
      u.slc = { State.reset.slc with
                signs := found.elim [] fun p => p.signs.map newSign
                cycle := if found.isSome then .dormant else .idle
                refresh := found.elim (some 5) fun p =>
                  if p.header.refresh.count = 0 then none else some (timingTicks p.header.refresh) } ∧
      u.pp.portals = (found.elim [] fun p =>
        ((List.range p.exits.length).filter fun e => (portalOf p e).isSome).map fun e =>
          { exit := e, advertisement := none, lastSent := none }) ∧
      (∀ port : PeerPort, portGet u.pp port =
        { state := .down, station := none, planId := none, age := none, spacing := none, sendPending := false
          sending := none
          advertise := found.elim none fun p =>
            if expectedId p.header port ≠ 0 ∧ s.mark (portLine port) = .running then
              some (timingTicks p.header.advertise) else none }) ∧
      u.mp = { State.reset.mp with kinds := u.mp.kinds, threshold := s.mp.threshold, lastReset := .restart } ∧
      (∀ k : Fin 10, u.mp.kinds[k] = { s.mp.kinds[k] with flag := false, event := none }) ∧
      u.fc = s.fc ∧ u.tb = { step := 0, seconds := 0 } ∧
      (∀ id : LineId, lineGet u.lines id = { lineGet s.lines id with rx := [] }))

/-- R20, R169, R179: the reset line driven active and the loss of supply abandon a store with the mark WRITTEN. While
the line is held no plan is active, the hall is QUIET, the fault record is invalid, the list is empty and the selections
are the power-on ones, so that SO3 alone is driven; without supply nothing is. The load's end lets the part run. That
the part without supply or with the line held has its state after power-on with no plan, when the load's end is due, and
that an abandoned store leaves no check value, are the model's choices (log entries 6, 8, 9). -/
def Obligations.held_and_unpowered : Prop :=
  (∀ s : State, s.phase ≠ .off → ∃ t : State, exec .resetLineAsserted s = .next t ∧ t.phase = .held ∧
      t.ps.active = none ∧ t.zh.evac = .quiet ∧ t.fc = State.reset.fc ∧ t.mp.notices = [] ∧
      t.lines = State.reset.lines ∧ t.slc.exchange = none ∧
      outputDriven t 0 = false ∧ outputDriven t 1 = false ∧ outputDriven t 2 = false ∧ outputDriven t 3 = true ∧
      t.ps.memory =
        (if s.ps.storing then { s.ps.memory with mark := .written, check := none } else s.ps.memory)) ∧
  (∀ s : State, ∃ t : State, exec .powerLoss s = .next t ∧ t.phase = .off ∧ t.ps.active = none ∧
      t.ps.storing = false ∧ (∀ n : Fin 4, outputDriven t n = false) ∧
      t.ps.memory =
        (if s.ps.storing then { s.ps.memory with mark := .written, check := none } else s.ps.memory)) ∧
  (∀ s : State, s.phase = .loading → exec .startUpLoadEnd s = .next { s with phase := .running })

/-! ## The Message Port -/

/-- R156: a request frame that completes while the reply slot holds a reply goes into the slot in hand, or else into
the waiting slot; with both full it is dropped, PORT_FRAME_DROPPED is captured and OVERRUN rises. That the command of
a request stands for its frame's completion, and that the rise of FAULT_CAPTURED comes before OVERRUN's, are the
model's choices (log entries 4, 11). -/
def Obligations.request_frame_placed : Prop :=
  ∀ (c : Instr) (r : Request) (s : State), requestOf c = some r → s.phase = .running → s.mp.reply ≠ none →
    (s.mp.hand = none → exec c s = .next { s with mp := { s.mp with hand := some r } }) ∧
    (s.mp.hand ≠ none → s.mp.waiting = none → exec c s = .next { s with mp := { s.mp with waiting := some r } }) ∧
    (s.mp.hand ≠ none → s.mp.waiting ≠ none →
      exec c s = .next (raise (.overrun .messagePort) (capture .portFrameDropped 0 s)))

/-- R157: every request that can be taken is answered by exactly one reply with its own kind and tag; the slot in hand
empties, and the reply goes out at once when the transmitter is free. That a request is placed and taken in one act is
the model's choice (log entry 4). -/
def Obligations.request_answered_once : Prop :=
  ∀ (c : Instr) (r : Request) (s : State), requestOf c = some r → Ready s →
    ∃ (t : State) (status : ReplyStatus) (fields : List Byte), exec c s = .next t ∧
      t.mp.reply = some { kind := r.kind, tag := r.tag, status := status, fields := fields } ∧
      t.mp.hand = none ∧ t.mp.waiting = none ∧
      t.mp.transmitter = (if s.mp.transmitter = .idle then .reply else s.mp.transmitter) ∧
      t.pending = s.pending ∧ t.phase = .running ∧ t.tb = s.tb

/-- R158: a request answered with any status other than OK or CLAMPED changes nothing, and its reply carries no body. -/
def Obligations.turned_away_changes_nothing : Prop :=
  ∀ (r : Request) (s : State), (perform r s).status ≠ .ok → (perform r s).status ≠ .clamped →
    (perform r s).state = s ∧ (perform r s).fields = []

/-- R158 steps 1 and 2: a kind that names no request is answered UNKNOWN_KIND, and a body whose length is not the one
its kind calls for is answered BAD_LENGTH, whatever else is wrong with it. That a request is placed and taken in one
act is the model's choice (log entry 4). -/
def Obligations.unknown_kind_and_bad_length : Prop :=
  (∀ (kind tag : Byte) (fields : List Byte) (s : State), Ready s → kind.toNat = 0 ∨ 30 < kind.toNat →
    TurnedAway (.unknownKind kind tag fields) s .unknownKind) ∧
  (∀ (c : Instr) (r : Request) (n : Nat) (s : State), requestOf c = some r → Ready s →
    fixedFields r.kind.toNat = some n → r.fields.length ≠ n → TurnedAway c s .badLength)

/-- R157, R167, R172: when the last character of a reply has been sent the reply slot empties; the request in hand is
taken, and a listed notice's frame may go out before its reply, as `first` says. A new format or a restart that waited
for the reply becomes due instead, and a notice may go before the restart. R164: at the change of the port's own format
a frame being received is abandoned with nothing captured, and the port goes on as after a reply. That the command
carries which goes first, and the counter of free values, are the model's own (log entries 12, 45). -/
def Obligations.reply_sent_takes_next : Prop :=
  ∀ (s : State) (first : Bool), s.phase = .running →
    let noticed (u : State) : State :=
      match first, u.mp.notices with
      | true, n :: rest =>
        { u with
          mp := { u.mp with notices := rest, transmitter := .notice (noticeFrame u.free n) }
          free := u.free + Config.freeBlock }
      | _, _ => u
    let onward (u : State) : State :=
      let v := noticed u
      match v.mp.hand with
      | none => v
      | some r =>
        let w := (perform r v).state
        { w with
          mp := { w.mp with
            hand := w.mp.waiting, waiting := none
            reply := some { kind := r.kind, tag := r.tag, status := (perform r v).status,
                            fields := (perform r v).fields }
            transmitter := if v.mp.transmitter = .idle then .reply else v.mp.transmitter }
          free := w.free + Config.freeBlock }
    (s.mp.transmitter = .reply →
      let sent : State := { s with mp := { s.mp with reply := none, transmitter := .idle } }
      (s.mp.deferred = .none → exec (.replySent first) s = .next (onward sent)) ∧
      (∀ speed parity stop, s.mp.deferred = .formatAfterReply speed parity stop →
        exec (.replySent first) s =
          .next { sent with mp := { sent.mp with deferred := .formatDue speed parity stop } }) ∧
      (s.mp.deferred = .restartAfterReply →
        exec (.replySent first) s =
          .next (noticed { sent with mp := { sent.mp with deferred := .restartDue } }))) ∧
    (∀ (speed stop : Nat) (parity : Parity), s.mp.deferred = .formatDue speed parity stop →
      s.mp.transmitter = .idle → s.mp.reply = none →
      let f : Format := { speed := speed, parity := parity, stop := stop }
      exec (.messagePortFormatChange first) s =
        .next (onward { s with
          mp := { s.mp with deferred := .none }
          lines := { s.lines with message := { s.lines.message with format := f, inUse := f, rx := [] } } }))

/-- R172: with the transmitter free and the reply slot empty, the notice at the head of the list leaves it and its
frame is sent, carrying the clock and seconds of its rise; when a notice frame has been sent, a reply that waits goes
first. R188, R186: every byte of a notice's body, kind by kind, and the codes of the values in it. The counter of free
values, and the byte of an absent panel id, are the model's own (log entry 12). -/
def Obligations.notice_frames : Prop :=
  (let flag (b : Bool) : Byte := if b then 1 else 0
  let opt (n : Option Nat) : Byte := n.elim 0xFF byte1
  let fields (free : Nat) (body : NoticeBody) : List Byte := match body with
    | .evacState prev new declared cause =>
      [byte1 (evacStateCode prev), byte1 (evacStateCode new), flag declared, byte1 (evacCauseCode cause),
       match cause with
       | .zone z => byte1 z
       | .evacuate | .standDown | .plan => 0xFF]
    | .zoneChange z prev new => [byte1 z, byte1 (zoneStateCode prev), byte1 (zoneStateCode new)]
    | .routePublished epoch passes limited stale changed nones =>
      byte2 epoch ++ byte2 passes ++ [flag limited, flag stale] ++ byte2 changed ++ byte2 nones
    | .noRoute epoch count node address => byte2 epoch ++ [byte1 count] ++ byte2 node ++ [byte1 address]
    | .signTrouble i address st misses lamp =>
      [byte1 i, byte1 address, byte1 (signStateCode st), byte1 misses, opt (lamp.map lampCode)]
    | .portalChange port st live lowest =>
      [match port with
       | .a => 0
       | .b => 1, byte1 (portStateCode st), byte1 live, opt lowest]
    | .faultCaptured k subject =>
      [byte1 k.idx.val, match faultClassOf k with
       | .minor => 0
       | .major => 1] ++ byte2 subject
    | .lineState line (.lock st) panel =>
      [byte1 line, byte1 (lockStateCode st)] ++ panel.elim [0, Config.freeByte free] (fun n => [1, byte1 n])
    | .lineState line (.port st) panel =>
      [byte1 line, byte1 (portStateCode st)] ++ panel.elim [0, Config.freeByte free] (fun n => [1, byte1 n])
    | .planEvent outcome id failure =>
      [byte1 (planOutcomeCode outcome)] ++ byte2 id ++ failure.elim [0, 0xFF, 0xFF, 0xFF]
        (fun f => [byte1 (checkReasonCode f.reason), byte1 (sectionCode f.sect)] ++ byte2 f.index)
    | .overrun (.pendingTable address) => [0] ++ byte2 address
    | .overrun .messagePort => [1, 0xFF, 0xFF]
  (∀ (s : State) (n : Notice) (rest : List Notice), s.phase = .running → s.mp.transmitter = .idle →
    s.mp.reply = none → s.mp.deferred = .none → s.mp.notices = n :: rest →
    exec .noticeFrameStart s =
      .next { s with
        mp := { s.mp with
          notices := rest
          transmitter := .notice
            ([0x81, byte1 (noticeKindCode n.kind), byte1 n.event.clock.minutes, byte1 n.event.clock.seconds,
              byte1 n.event.clock.tenths] ++ byte4 n.event.seconds ++ fields s.free n.event.body) }
        free := s.free + Config.freeBlock })) ∧
  [EvacState.quiet, .alert, .active].map evacStateCode = [0, 1, 2] ∧
  (∀ z : Nat, [EvacCause.zone z, .evacuate, .standDown, .plan].map evacCauseCode = [0, 1, 2, 3]) ∧
  [ZoneState.clear, .suspect, .smoke, .clearing].map zoneStateCode = [0, 1, 2, 3] ∧
  [SignState.unseen, .online, .missing, .lost, .faulty].map signStateCode = [0, 1, 2, 3, 4] ∧
  [Lamp.ok, .part, .failed].map lampCode = [0, 1, 2] ∧ [LockState.silent, .seeking, .locked].map lockStateCode = [0, 1, 2] ∧
  [PortState.down, .up, .miswired].map portStateCode = [0, 1, 2] ∧
  [PlanOutcome.passed, .failed, .activated, .stored, .storeFailed].map planOutcomeCode = [0, 1, 2, 3, 4] ∧
  [Section.header, .nodes, .links, .zones, .windows, .exits, .signs].map sectionCode = [0, 1, 2, 3, 4, 5, 6] ∧
  [NoticeKind.evacState, .zoneChange, .routePublished, .noRoute, .signTrouble, .portalChange, .faultCaptured, .lineState,
    .planEvent, .overrun].map noticeKindCode = [1, 2, 3, 4, 5, 6, 7, 8, 9, 10] ∧
  (∀ (s : State) (body : List Byte), s.phase = .running → s.mp.transmitter = .notice body →
    exec .noticeFrameSent s =
      .next { s with mp := { s.mp with transmitter := if s.mp.reply.isSome then .reply else .idle } })

/-- R182 to R185, R187, R188: how a frame is laid out; the levels of a character, start bit, data bits, parity bit and
stop bits, and what a receiver reads from them; bits per character and character times; and which characters are in
error. What a receiver does with every sequence of characters: it hunts for a SYNC, waits for a whole frame, hunts on
after an impossible LENGTH and, after a wrong check value, from the byte after the SYNC; so that a whole frame sent in
its own format is handed on without error and nothing is retained, also behind a discarded frame. And the frame that
each line is sending, in its format: the driver enable is asserted while a frame is sent on the sign line. That a SYNC
in error begins no frame, and that the gap of ten character times is ended by a command, are the model's (log entries 5,
36). -/
def Obligations.whole_frame_is_handed_on : Prop :=
  (∀ body : List Byte,
    frameBytes body = [0xA5, byte1 body.length] ++ body ++ byte2 (crc16 (byte1 body.length :: body))) ∧
  crc16 [0x31, 0x32, 0x33, 0x34, 0x35, 0x36, 0x37, 0x38, 0x39] = 0x29B1 ∧
  (let ones (b : Byte) : Nat := ((List.range 8).filter fun i => b.getLsbD i).length
   (∀ (f : Format) (c : RxChar), charError f c = true ↔
     c.stop = false ∨ (f.parity = .even ∧ (ones c.data + c.parity.toNat) % 2 = 1) ∨
       (f.parity = .odd ∧ (ones c.data + c.parity.toNat) % 2 = 0)) ∧
   (∀ (f : Format) (body : List Byte), (frameChars f body).map (·.data) = frameBytes body ∧
     ∀ c ∈ frameChars f body, c.stop = true ∧ charError f c = false ∧
       (f.parity = .none ∨ f.parity = .zero → c.parity = false))) ∧
  (let ones (b : Byte) : Nat := ((List.range 8).filter fun i => b.getLsbD i).length
   ∀ (f : Format) (b : Byte),
     let parity : List Bool := match f.parity with
       | .none => []
       | .even => [decide (ones b % 2 = 1)]
       | .odd => [decide (ones b % 2 = 0)]
       | .zero => [false]
     charLevels f b =
       [false, b.getLsbD 0, b.getLsbD 1, b.getLsbD 2, b.getLsbD 3, b.getLsbD 4, b.getLsbD 5, b.getLsbD 6, b.getLsbD 7] ++
         parity ++ List.replicate f.stop true ∧
     (charLevels f b).length = charBits f ∧
     (∀ (data : List Bool) (p stop : Bool) (more : List Bool), data.length = 8 →
       ∃ c : RxChar, readChar f (false :: (data ++ (if f.parity = .none then [] else [p]) ++ stop :: more)) = some c ∧
         (∀ i : Nat, i < 8 → data[i]? = some (c.data.getLsbD i)) ∧ c.stop = stop ∧
         c.parity = (decide (f.parity ≠ .none) && p)) ∧
     (1 ≤ f.stop → readChar f (charLevels f b) = some (sendChar f b))) ∧
  (∀ f : Format, charBits f = 9 + (if f.parity = .none then 0 else 1) + f.stop ∧
    (f.speed ∈ [1200, 2400, 4800, 9600, 19200, 38400, 57600, 115200] →
      charCycles f * f.speed = charBits f * 14745600 ∧
      ∀ n : Nat, gapAborts f n = true ↔ 10 * charBits f * 14745600 < n * f.speed)) ∧
  (∀ (f : Format) (c : RxChar) (tail : List RxChar),
    scan f 0 [] = ([], []) ∧
    (c.data ≠ 0xA5 ∨ charError f c = true → scan f 0 (c :: tail) = scan f 0 tail) ∧
    (c.data = 0xA5 → charError f c = false →
      scan f 0 [c] = ([], [c]) ∧
      (∀ (len : RxChar) (after : List RxChar), tail = len :: after →
        let n := len.data.toNat
        let bytes := (after.take (n + 2)).map (·.data)
        let body := bytes.take n
        let err := (len :: after.take (n + 2)).any (charError f)
        (n = 0 ∨ 251 ≤ n → scan f 0 (c :: tail) = scan f 0 tail) ∧
        (1 ≤ n → n ≤ 250 → after.length < n + 2 → scan f 0 (c :: tail) = ([], c :: tail)) ∧
        (1 ≤ n → n ≤ 250 → n + 2 ≤ after.length →
          (bytes.drop n = byte2 (crc16 (len.data :: body)) → scan f 0 (c :: tail) =
            (.frame body err :: (scan f 0 (after.drop (n + 2))).1, (scan f 0 (after.drop (n + 2))).2)) ∧
          (bytes.drop n ≠ byte2 (crc16 (len.data :: body)) → scan f 0 (c :: tail) =
            (.badCheck err :: (scan f 0 tail).1, (scan f 0 tail).2)))))) ∧
  (∀ (f : Format) (chars : List RxChar),
    chars.foldl (fun r c => (r.1 ++ (receiveChar f r.2 c).1, (receiveChar f r.2 c).2)) ([], []) = scan f 0 chars) ∧
  (∀ (f : Format) (body : List Byte), 1 ≤ body.length → body.length ≤ 250 →
    scan f 0 (frameChars f body) = ([.frame body false], []) ∧
    ∀ (before : List RxChar) (found : List RxEvent), scan f 0 before = (found, []) →
      scan f 0 (before ++ frameChars f body) = (found ++ [.frame body false], [])) ∧
  (∀ s : State,
    let out (id : LineId) (body : List Byte) : Option (List RxChar) :=
      some (frameChars (lineGet s.lines id).inUse body)
    (s.mp.transmitter = .idle → sentFrame s .message = none) ∧
    (∀ r : Reply, s.mp.transmitter = .reply → s.mp.reply = some r →
      sentFrame s .message = out .message ([0x80, r.tag, r.kind, byte1 (replyStatusCode r.status)] ++ r.fields)) ∧
    (∀ body, s.mp.transmitter = .notice body → sentFrame s .message = out .message body) ∧
    sentFrame s .detector = none ∧
    (s.slc.exchange = none → sentFrame s .sign = none) ∧
    (∀ e : Exchange, s.slc.exchange = some e →
      (e.phase ≠ .sending → sentFrame s .sign = none) ∧
      (e.phase = .sending → e.target = .fallback → sentFrame s .sign = out .sign [0x22, 0xFF]) ∧
      (e.phase = .sending → e.target ≠ .fallback →
        let direction : Byte := match e.face.symbol with
          | .arrow d => byte1 d
          | _ => 0xFF
        sentFrame s .sign = out .sign
          [0x20, byte1 e.address, byte1 (symbolCode e.face.symbol), direction, byte1 (flashCode e.face.flash),
           byte1 e.face.level, byte1 e.epochByte])) ∧
    (∀ id : LineId, sentLevels s id = (sentFrame s id).map fun chars =>
      chars.flatMap fun c => charLevels (lineGet s.lines id).inUse c.data) ∧
    driverEnable s = (sentFrame s .sign).isSome ∧
    (∀ port : PeerPort,
      ((portGet s.pp port).sending = none → sentFrame s (portLine port) = none) ∧
      (∀ f : AdvertSending, (portGet s.pp port).sending = some f →
        sentFrame s (portLine port) = out (portLine port)
          ([0x30, byte1 f.frame.station] ++ byte2 f.frame.planId ++ [byte1 f.frame.entries.length] ++
            f.frame.entries.flatMap fun e =>
              [byte1 e.exit] ++ byte2 e.cost.x ++ byte2 e.cost.d ++
                [byte1 e.hop,
                 byte1 ((if e.isHere then 1 else 0) + (if e.already then 2 else 0) + if e.unknown then 4 else 0)]))))

/-- R155, R25, R120, R137: characters of a whole frame in the line's format, received with nothing retained, act as
that one frame does at the line's owner. The sign line's receiver takes characters with no frame being sent. A body of
two bytes or more is a request on the message port; a shorter one, a bad check value and a character error make none,
and only the last is captured. That these commands carry characters, that a bad check value decides over a character
error, and a character error over a short body, are the model's choices (log entries 5, 23, 44). -/
def Obligations.frame_received : Prop :=
  ∀ (s : State) (body : List Byte), s.phase = .running → 1 ≤ body.length → body.length ≤ 250 →
    (s.lines.message.rx = [] →
      exec (.messageFrameReceived (frameChars s.lines.message.inUse body)) s =
        .next (messageEvent s (.frame body false))) ∧
    (s.lines.detector.rx = [] → s.lines.detector.mark = .running →
      exec (.detectorFrameReceived (frameChars s.lines.detector.inUse body)) s =
        .next (detectorEvent s (.frame body false))) ∧
    (s.lines.sign.rx = [] → s.lines.sign.mark = .running →
      (∀ e, s.slc.exchange = some e → e.phase = .window none) →
      exec (.signFrameReceived (frameChars s.lines.sign.inUse body)) s =
        .next (signEvent s (.frame body false))) ∧
    (∀ port : PeerPort, (lineGet s.lines (portLine port)).rx = [] → s.mark (portLine port) = .running →
      exec (.advertReceived port (frameChars (lineGet s.lines (portLine port)).inUse body)) s =
        .next (advertEvent port s (.frame body false))) ∧
    messageEvent s (.frame body true) = capture .lineCharError 0 s ∧
    messageEvent s (.badCheck false) = s ∧ messageEvent s (.badCheck true) = s ∧
    (∀ kind tag fields, body = kind :: tag :: fields → messageEvent s (.frame body false) =
      receiveRequest { kind := kind, tag := tag, fields := fields } s) ∧
    (body.length = 1 → messageEvent s (.frame body false) = s)

/-- R183: the gap rule aborts the frame a line is receiving, its receiver returns to HUNT, and the owner counts it:
the message port captures nothing, the detector line counts an invalid frame, the sign line's stray frame ends, and a
peer port in use captures a character error. What a receiver retains as characters, when a character error on the
sign line is acted on, that a cycle whose window closed over a frame goes on or ends at that frame's abort, and that an
aborted frame of the message port captures nothing whatever errors its characters had, are the model's choices (log
entries 5, 22, 32, 49). -/
def Obligations.gap_abort : Prop :=
  ∀ s : State, s.phase = .running →
    (s.lines.message.rx ≠ [] → exec (.frameGapAbort .message) s =
      .next { s with lines := { s.lines with message := { s.lines.message with rx := [] } } }) ∧
    (s.lines.detector.rx ≠ [] → exec (.frameGapAbort .detector) s =
      .next (detectorInvalid (s.lines.detector.rx.any (charError s.lines.detector.inUse))
        { s with lines := { s.lines with detector := { s.lines.detector with rx := [] } } })) ∧
    (s.lines.sign.rx ≠ [] → (∀ e, s.slc.exchange = some e → e.phase ≠ .drain) → exec (.frameGapAbort .sign) s =
      .next { s with lines := { s.lines with sign := { s.lines.sign with rx := [] } } }) ∧
    (∀ e, s.lines.sign.rx ≠ [] → s.slc.exchange = some e → e.phase = .drain → exec (.frameGapAbort .sign) s =
      .next (exchangeEnded { s with lines := { s.lines with sign := { s.lines.sign with rx := [] } } })) ∧
    (∀ port : PeerPort, (lineGet s.lines (portLine port)).rx ≠ [] →
      ∃ t : State, exec (.frameGapAbort (portLine port)) s = .next t ∧
        (lineGet t.lines (portLine port)).rx = [] ∧ t.pp = s.pp ∧ t.rsv = s.rsv ∧
        t.fc = (if portInUse s port = true ∧
                    (lineGet s.lines (portLine port)).rx.any
                      (charError (lineGet s.lines (portLine port)).inUse) = true
                then (capture .lineCharError (portNumber port) s).fc else s.fc))

/-! ## The Plan Store -/

/-- R9, R11: PLAN BEGIN and PLAN DISCARD by the stage of the staging bank. -/
def Obligations.plan_begin_and_discard : Prop :=
  ∀ (tag : Byte) (s : State), Ready s →
    let st := s.ps.staging.stage
    (st ≠ .checking → st ≠ .activating →
      Answers (.planBegin tag []) s .ok []
        { s with ps := { s.ps with staging :=
            { stage := .opened, failure := none, header := [], nodes := [], links := [], zones := [], windows := [],
              exits := [], signs := [] } } }) ∧
    (st = .opened ∨ st = .passed ∨ st = .failed →
      Answers (.planDiscard tag []) s .ok []
        { s with ps := { s.ps with staging :=
            { stage := .empty, failure := none, header := [], nodes := [], links := [], zones := [], windows := [],
              exits := [], signs := [] } } }) ∧
    (st = .empty → Answers (.planDiscard tag []) s .ok [] s) ∧
    (st = .checking ∨ st = .activating →
      TurnedAway (.planBegin tag []) s .wrongStage ∧ TurnedAway (.planDiscard tag []) s .wrongStage)

/-- R10, R188, R190: how a PLAN PUT is read and answered. A section code that names none, a count of 0, and a SIGNS
record with a map length outside 1 to 8 or more than 4 groups are answered BAD_VALUE, and a body whose records do not
sum to it BAD_LENGTH, before the stage is looked at. One that is read whole is answered WRONG_STAGE in EMPTY, CHECKING
and ACTIVATING; in OPEN, PASSED and FAILED it is answered BAD_VALUE beyond the section's maximum or for a code field
error, and otherwise writes its records, sets the stage to OPEN and removes any failure report. That a body ending
before its code, count or list lengths is answered BAD_LENGTH is the model's choice (log entry 17). -/
def Obligations.plan_put : Prop :=
  let whole (sect : Section) (r : List Byte) : Prop :=
    match sect with
    | .header => r.length = 38
    | .nodes => r.length = 3
    | .links => r.length = 9
    | .zones => r.length = 4
    | .windows => r.length = 5
    | .exits => r.length = if at1 r 2 = 1 then 10 else 6
    | .signs => 1 ≤ at1 r 3 ∧ at1 r 3 ≤ 8 ∧ at1 r (4 + 3 * at1 r 3) ≤ 4 ∧
        r.length = 5 + 3 * at1 r 3 + at1 r (4 + 3 * at1 r 3)
  let badList (rest : List Byte) : Prop :=
    (4 ≤ rest.length ∧ (at1 rest 3 < 1 ∨ 8 < at1 rest 3)) ∨
      (1 ≤ at1 rest 3 ∧ at1 rest 3 ≤ 8 ∧ 5 + 3 * at1 rest 3 ≤ rest.length ∧ 4 < at1 rest (4 + 3 * at1 rest 3))
  (∀ (sect : Section) (n : Nat) (body : List Byte),
    (∀ rs : List (List Byte), splitRecords sect n body = .records rs ↔
      rs.length = n ∧ rs.flatten = body ∧ ∀ r ∈ rs, whole sect r) ∧
    (splitRecords sect n body = .badValue ↔ sect = .signs ∧
      ∃ (before : List (List Byte)) (rest : List Byte), before.length < n ∧ body = before.flatten ++ rest ∧
        (∀ r ∈ before, whole .signs r) ∧ badList rest)) ∧
  (∀ (tag code : Byte) (more : List Byte) (s : State), Ready s →
    TurnedAway (.planPut tag []) s .badLength ∧
    (sectionOf code.toNat = none → TurnedAway (.planPut tag (code :: more)) s .badValue) ∧
    ((sectionOf code.toNat).isSome = true → more.length < 3 → TurnedAway (.planPut tag (code :: more)) s .badLength)) ∧
  (∀ (tag code i1 i2 n : Byte) (body : List Byte) (sect : Section) (s : State), Ready s →
    sectionOf code.toNat = some sect →
    let c : Instr := .planPut tag (code :: i1 :: i2 :: n :: body)
    let st := s.ps.staging.stage
    (n = 0 → TurnedAway c s .badValue) ∧
    (n ≠ 0 → splitRecords sect n.toNat body = .badValue → TurnedAway c s .badValue) ∧
    (n ≠ 0 → splitRecords sect n.toNat body = .badLength → TurnedAway c s .badLength) ∧
    (∀ rs : List (List Byte), n ≠ 0 → splitRecords sect n.toNat body = .records rs →
      (st = .empty ∨ st = .checking ∨ st = .activating → TurnedAway c s .wrongStage) ∧
      (st = .opened ∨ st = .passed ∨ st = .failed →
        (sectionMax sect ≤ num2 i1 i2 + rs.length - 1 → TurnedAway c s .badValue) ∧
        (num2 i1 i2 + rs.length - 1 < sectionMax sect →
          (putRecords s.ps.staging sect (num2 i1 i2) rs = none → TurnedAway c s .badValue) ∧
          (∀ (g : Staging) (clamped : Bool), putRecords s.ps.staging sect (num2 i1 i2) rs = some (g, clamped) →
            Answers c s (if clamped then .clamped else .ok) []
              { s with ps := { s.ps with staging := { g with stage := .opened, failure := none } } })))))

/-- R8, R10: the records of a PLAN PUT are read one by one: one code field error stores none of them, and the request is
answered CLAMPED when a field of some record was clamped. The records of the section named are written from the first
index on, are read back from their slots, and every other slot, of this section and of the others, is as it was. -/
def Obligations.put_records_are_read_back : Prop :=
  (∀ {α : Type} (slots : Slots α) (first i : Nat) (xs : List α),
    slotGet (slotPutAll slots first xs) i =
      if first ≤ i ∧ i < first + xs.length then xs[i - first]? else slotGet slots i) ∧
  (∀ {α : Type} (read : List Byte → Option (Stored α)) (rs : List (List Byte)),
    (readAll read rs = none ↔ ∃ r ∈ rs, read r = none) ∧
    (∀ (xs : List α) (clamped : Bool), readAll read rs = some (xs, clamped) →
      xs.map some = rs.map (fun r => (read r).map (·.1)) ∧
      (clamped = true ↔ ∃ r ∈ rs, ∃ x, read r = some (x, true)))) ∧
  (∀ (g g' : Staging) (sect : Section) (first : Nat) (rs : List (List Byte)) (clamped : Bool),
    putRecords g sect first rs = some (g', clamped) →
    let writes {α : Type} (read : List Byte → Option (Stored α)) (old new : Slots α) : Prop :=
      ∃ xs : List α, readAll read rs = some (xs, clamped) ∧ new = slotPutAll old first xs
    g' = { g with header := g'.header, nodes := g'.nodes, links := g'.links, zones := g'.zones, windows := g'.windows,
                  exits := g'.exits, signs := g'.signs } ∧
    (if sect = .header then writes readHeader g.header g'.header else g'.header = g.header) ∧
    (if sect = .nodes then writes readNode g.nodes g'.nodes else g'.nodes = g.nodes) ∧
    (if sect = .links then writes readLink g.links g'.links else g'.links = g.links) ∧
    (if sect = .zones then writes readZone g.zones g'.zones else g'.zones = g.zones) ∧
    (if sect = .windows then writes readWindow g.windows g'.windows else g'.windows = g.windows) ∧
    (if sect = .exits then writes readExit g.exits g'.exits else g'.exits = g.exits) ∧
    (if sect = .signs then writes readSign g.signs g'.signs else g'.signs = g.signs))

/-- R2 to R8, R186, R190: what each record of a PLAN PUT is stored as. A quantity is stored as the nearer end of its
range and counts as clamped when it changes; a window size becomes the largest power of two not above it, 0 becoming 1
and anything above 1024 becoming 1024; DEFAULT is stored as the field's default; a code that names nothing stores no
record; a reference is stored as given. -/
def Obligations.quantities_are_clamped : Prop :=
  let within (lo hi n : Nat) : Nat := if n < lo then lo else if hi < n then hi else n
  let orDefault (ones dflt lo hi n : Nat) : Nat := if n = ones then dflt else within lo hi n
  (∀ n : Nat, 1 ≤ n → n ≤ 1024 → ∃ k : Nat, (windowSize n).1 = 2 ^ k ∧ 2 ^ k ≤ n ∧ n < 2 ^ (k + 1)) ∧
  (windowSize 0).1 = 1 ∧ (∀ n : Nat, 1024 < n → (windowSize n).1 = 1024) ∧
  (∀ n : Nat, (windowSize n).2 = true ↔ (windowSize n).1 ≠ n) ∧
  (∀ bs : List Byte,
    let timing (i : Nat) (dflt : Timing) (zeroOk : Bool) (t : Timing) : Prop :=
      if at1 bs (i + 1) = 255 then t = dflt
      else timeUnitOf (at1 bs (i + 1)) = some t.unit ∧
        t.count = if at1 bs i = 0 ∧ zeroOk = false then 1 else at1 bs i
    ((readHeader bs).isSome = true ↔
      (∀ i ∈ [10, 12, 14, 16, 18, 20, 22, 24], at1 bs (i + 1) ≤ 3 ∨ at1 bs (i + 1) = 255) ∧
      ((1 ≤ at1 bs 35 ∧ at1 bs 35 ≤ 15) ∨ at1 bs 35 = 255) ∧
      (at1 bs 36 ≤ 15 ∨ at1 bs 36 = 255) ∧ (at1 bs 37 ≤ 15 ∨ at1 bs 37 = 255)) ∧
    (∀ (h : Header) (clamped : Bool), readHeader bs = some (h, clamped) →
      h.planId = at2 bs 0 ∧ h.nodeCount = at2 bs 2 ∧ h.linkCount = at2 bs 4 ∧ h.zoneCount = at1 bs 6 ∧
      h.windowCount = at1 bs 7 ∧ h.exitCount = at1 bs 8 ∧ h.signCount = at1 bs 9 ∧
      timing 10 { count := 60, unit := .second } false h.suspect ∧
      timing 12 { count := 120, unit := .second } false h.clearHold ∧
      timing 14 { count := 10, unit := .second } false h.emphasis ∧
      timing 16 { count := 5, unit := .tenth } true h.refresh ∧
      timing 18 { count := 1, unit := .second } false h.advertise ∧
      timing 20 { count := 5, unit := .second } false h.ageLimit ∧
      timing 22 { count := 3, unit := .second } false h.silence ∧
      timing 24 { count := 2, unit := .tenth } false h.spacing ∧
      h.quietLevel = orDefault 255 8 0 15 (at1 bs 26) ∧ h.alertLevel = orDefault 255 12 0 15 (at1 bs 27) ∧
      h.activeLevel = orDefault 255 15 0 15 (at1 bs 28) ∧ h.margin = orDefault 65535 100 0 1023 (at2 bs 29) ∧
      h.surcharge = orDefault 65535 600 0 4095 (at2 bs 31) ∧ h.replyWindow = orDefault 255 10 2 50 (at1 bs 33) ∧
      h.missLimit = orDefault 255 3 1 7 (at1 bs 34) ∧
      h.ownId = (if at1 bs 35 = 255 then 1 else at1 bs 35) ∧
      h.expectedA = (if at1 bs 36 = 255 then 0 else at1 bs 36) ∧
      h.expectedB = (if at1 bs 37 = 255 then 0 else at1 bs 37) ∧
      (clamped = true ↔
        (∃ i ∈ [10, 12, 14, 18, 20, 22, 24], at1 bs i = 0 ∧ at1 bs (i + 1) ≠ 255) ∨
        (∃ i ∈ [26, 27, 28], 15 < at1 bs i ∧ at1 bs i ≠ 255) ∨
        (1023 < at2 bs 29 ∧ at2 bs 29 ≠ 65535) ∨ (4095 < at2 bs 31 ∧ at2 bs 31 ≠ 65535) ∨
        ((at1 bs 33 < 2 ∨ 50 < at1 bs 33) ∧ at1 bs 33 ≠ 255) ∨
        ((at1 bs 34 < 1 ∨ 7 < at1 bs 34) ∧ at1 bs 34 ≠ 255)))) ∧
  (∀ present l1 l2 : Byte, readNode [present, l1, l2] =
    some ({ label := if present = 0 then none else some (num2 l1 l2) }, false)) ∧
  (∀ a1 a2 b1 b2 n1 n2 w z ps : Byte,
    let record := [a1, a2, b1, b2, n1, n2, w, z, ps]
    (2 < ps.toNat → readLink record = none) ∧
    (∀ passage : Passage, passageCode passage = ps.toNat →
      readLink record = some
        ({ a := num2 a1 a2, b := num2 b1 b2, len := within 1 4095 (num2 n1 n2), width := within 0 3 w.toNat
           zone := z.toNat, passage := passage },
         decide (num2 n1 n2 < 1 ∨ 4095 < num2 n1 n2 ∨ 3 < w.toNat)))) ∧
  (∀ latch sw mw cc : Byte,
    (1 < latch.toNat → latch ≠ 255 → readZone [latch, sw, mw, cc] = none) ∧
    (latch.toNat ≤ 1 ∨ latch = 255 →
      readZone [latch, sw, mw, cc] = some
        ({ latch := decide (latch = 1), suspectWeight := orDefault 255 1 0 15 sw.toNat
           smokeWeight := orDefault 255 8 1 15 mw.toNat, confirmCount := orDefault 255 3 1 7 cc.toNat },
         decide ((15 < sw.toNat ∧ sw ≠ 255) ∨ ((mw.toNat < 1 ∨ 15 < mw.toNat) ∧ mw ≠ 255) ∨
           ((cc.toNat < 1 ∨ 7 < cc.toNat) ∧ cc ≠ 255))))) ∧
  (∀ b1 b2 s1 s2 z : Byte, readWindow [b1, b2, s1, s2, z] =
    some ({ base := num2 b1 b2, size := (windowSize (num2 s1 s2)).1, zone := z.toNat }, (windowSize (num2 s1 s2)).2)) ∧
  (∀ n1 n2 kind b1 b2 st port remote c1 c2 : Byte,
    let door := [n1, n2, kind, b1, b2, st]
    let portal := [n1, n2, kind, b1, b2, st, port, remote, c1, c2]
    (1 < kind.toNat ∨ 2 < st.toNat → readExit door = none) ∧
    (kind = 1 → 2 < st.toNat ∨ 1 < port.toNat ∨ 31 < remote.toNat → readExit portal = none) ∧
    (∀ initial : ExitState, exitStateCode initial = st.toNat →
      (kind = 0 → readExit door = some
        ({ node := num2 n1 n2, bias := within 0 4095 (num2 b1 b2), initial := initial, portal := none },
         decide (4095 < num2 b1 b2))) ∧
      (∀ side : PeerPort, kind = 1 → portCode side = port.toNat → remote.toNat ≤ 31 →
        readExit portal = some
          ({ node := num2 n1 n2, bias := within 0 4095 (num2 b1 b2), initial := initial
             portal := some { port := side, remote := remote.toNat, crossing := within 0 4095 (num2 c1 c2) } },
           decide (4095 < num2 b1 b2 ∨ 4095 < num2 c1 c2))))) ∧
  (∀ (address n1 n2 : Byte) (entries : List (Byte × Byte × Byte)) (groups : List Byte),
    entries.length ≤ 8 → groups.length ≤ 4 →
    let record := [address, n1, n2, byte1 entries.length] ++ entries.flatMap (fun e => [e.1, e.2.1, e.2.2]) ++
      [byte1 groups.length] ++ groups
    ((∃ e ∈ entries, 7 < e.2.2.toNat) → readSign record = none) ∧
    ((∀ e ∈ entries, e.2.2.toNat ≤ 7) → readSign record = some
      ({ address := address.toNat, node := num2 n1 n2, map := entries.map fun e => (num2 e.1 e.2.1, e.2.2.toNat)
         groups := groups.map (·.toNat) }, false)))

/-- R13, R14: PLAN CHECK by stage and store; and the end of the check in CHECKING, which gives PASSED, or FAILED with the
failure report, and raises PLAN_EVENT. -/
def Obligations.plan_check : Prop :=
  (∀ (tag : Byte) (s : State), Ready s →
    let st := s.ps.staging.stage
    (st = .empty ∨ st = .checking ∨ st = .activating → TurnedAway (.planCheck tag []) s .wrongStage) ∧
    (st = .opened ∨ st = .passed ∨ st = .failed →
      (s.ps.storing = true → TurnedAway (.planCheck tag []) s .busy) ∧
      (s.ps.storing = false →
        Answers (.planCheck tag []) s .ok []
          { s with ps := { s.ps with staging := { s.ps.staging with stage := .checking, failure := none } } }))) ∧
  (∀ s : State, s.phase = .running → s.ps.staging.stage = .checking →
    let id := stagedPlanId s.ps.staging
    (planCheck s.ps.staging = none →
      exec .planCheckEnd s =
        .next (raise (.planEvent .passed id none)
          { s with ps := { s.ps with staging := { s.ps.staging with stage := .passed, failure := none } } })) ∧
    (∀ f : FailureReport, planCheck s.ps.staging = some f →
      exec .planCheckEnd s =
        .next (raise (.planEvent .failed id (some f))
          { s with ps := { s.ps with staging := { s.ps.staging with stage := .failed, failure := some f } } })))

/-- R15: what the check of a staging bank leaves standing: a plan whose records are all present, with counts in range,
link endpoints and zones inside the plan, at most 8 links at a node, windows aligned and apart, exits at distinct nodes
with a port in use, and signs at distinct addresses whose maps name links at their node only, and every link that leads
out of it. And what it finds: nothing exactly where no record fails any of the sixteen reasons, and otherwise the first
reason of the table that fails, at the lowest index of its section that fails it. Reason 1 takes the sections after the
header in the order of their codes, the model's choice (log entry 18). -/
def Obligations.checked_plan_is_sound : Prop :=
  (∀ (g : Staging) (p : Plan), planCheck g = none → stagedPlan g = some p →
    let h := p.header
    1 ≤ h.planId ∧ 1 ≤ h.nodeCount ∧ h.nodeCount ≤ 384 ∧ h.linkCount ≤ 768 ∧ h.zoneCount ≤ 64 ∧
    h.windowCount ≤ 16 ∧ 1 ≤ h.exitCount ∧ h.exitCount ≤ 32 ∧ h.signCount ≤ 250 ∧
    p.nodes.length = h.nodeCount ∧ p.links.length = h.linkCount ∧ p.zones.length = h.zoneCount ∧
    p.windows.length = h.windowCount ∧ p.exits.length = h.exitCount ∧ p.signs.length = h.signCount ∧
    (∀ l ∈ p.links, l.a < h.nodeCount ∧ l.b < h.nodeCount ∧ l.a ≠ l.b ∧ l.zone < h.zoneCount) ∧
    (∀ u : Nat, u < h.nodeCount → (p.links.filter fun l => decide (l.a = u ∨ l.b = u)).length ≤ 8) ∧
    (∀ w ∈ p.windows, 1 ≤ w.base ∧ w.base % w.size = 0 ∧ w.base + w.size ≤ 1024 ∧ w.zone < h.zoneCount) ∧
    p.windows.Pairwise (fun v w => v.base + v.size ≤ w.base ∨ w.base + w.size ≤ v.base) ∧
    (∀ e ∈ p.exits, e.node < h.nodeCount ∧ ∀ f, e.portal = some f → expectedId h f.port ≠ 0) ∧
    p.exits.Pairwise (fun d e => d.node ≠ e.node) ∧
    (p.exits.filter fun e => e.portal.isSome).length ≤ 8 ∧
    (∀ x ∈ p.signs, 1 ≤ x.address ∧ x.address ≤ 250 ∧ x.node < h.nodeCount ∧ (x.map.map (·.1)).Nodup ∧
      (x.map.map (·.2)).Nodup ∧ x.groups.Nodup ∧ (∀ n ∈ x.groups, n ≤ 15) ∧
      (∀ e ∈ x.map, ∃ l : LinkRec, p.links[e.1]? = some l ∧ (l.a = x.node ∨ l.b = x.node)) ∧
      ∀ (k : Nat) (l : LinkRec), p.links[k]? = some l → permitsOut l x.node = true → k ∈ x.map.map (·.1)) ∧
    p.signs.Pairwise (fun x y => x.address ≠ y.address)) ∧
  (∀ g : Staging, slotGet g.header 0 = none →
    planCheck g = some { reason := .sectionMissing, sect := .header, index := 0 }) ∧
  (∀ (g : Staging) (h : Header) (p : Plan), slotGet g.header 0 = some h → stagedPlan g = some p →
    let missing (sect : Section) (k : Nat) : Prop := match sect with
      | .header => False
      | .nodes => k < h.nodeCount ∧ k < 384 ∧ slotGet g.nodes k = none
      | .links => k < h.linkCount ∧ k < 768 ∧ slotGet g.links k = none
      | .zones => k < h.zoneCount ∧ k < 64 ∧ slotGet g.zones k = none
      | .windows => k < h.windowCount ∧ k < 16 ∧ slotGet g.windows k = none
      | .exits => k < h.exitCount ∧ k < 32 ∧ slotGet g.exits k = none
      | .signs => k < h.signCount ∧ k < 250 ∧ slotGet g.signs k = none
    let sectOf (r : CheckReason) : Section := match r with
      | .sectionMissing | .countRange | .noExit => .header
      | .nodeDegree => .nodes
      | .linkEndpoint | .linkZone => .links
      | .windowAlign | .windowOverlap | .windowZone => .windows
      | .exitNode | .portalCount | .portalPort => .exits
      | .signAddress | .signNode | .signMap | .signGroup => .signs
    let fails (r : CheckReason) (k : Nat) : Prop := match r with
      | .sectionMissing => ∃ sect, missing sect k
      | .countRange => k = 0 ∧ (h.planId = 0 ∨ h.nodeCount = 0 ∨ 384 < h.nodeCount ∨ 768 < h.linkCount ∨
          64 < h.zoneCount ∨ 16 < h.windowCount ∨ 32 < h.exitCount ∨ 250 < h.signCount)
      | .linkEndpoint => ∃ l, p.links[k]? = some l ∧ (h.nodeCount ≤ l.a ∨ h.nodeCount ≤ l.b ∨ l.a = l.b)
      | .linkZone => ∃ l, p.links[k]? = some l ∧ h.zoneCount ≤ l.zone
      | .nodeDegree => k < h.nodeCount ∧ 8 < (p.links.filter fun l => decide (l.a = k ∨ l.b = k)).length
      | .windowAlign => ∃ w, p.windows[k]? = some w ∧
          (w.base = 0 ∨ w.base % w.size ≠ 0 ∨ 1023 < w.base + w.size - 1)
      | .windowOverlap => ∃ w, p.windows[k]? = some w ∧ ∃ j v, j < k ∧ p.windows[j]? = some v ∧
          w.base < v.base + v.size ∧ v.base < w.base + w.size
      | .windowZone => ∃ w, p.windows[k]? = some w ∧ h.zoneCount ≤ w.zone
      | .exitNode => ∃ e, p.exits[k]? = some e ∧
          (h.nodeCount ≤ e.node ∨ ∃ j d, j < k ∧ p.exits[j]? = some d ∧ d.node = e.node)
      | .portalCount => ∃ e, p.exits[k]? = some e ∧ e.portal ≠ none ∧
          8 ≤ ((p.exits.take k).filter fun d => d.portal.isSome).length
      | .portalPort => ∃ e f, p.exits[k]? = some e ∧ e.portal = some f ∧ expectedId h f.port = 0
      | .signAddress => ∃ x, p.signs[k]? = some x ∧
          (x.address = 0 ∨ 250 < x.address ∨ ∃ j y, j < k ∧ p.signs[j]? = some y ∧ y.address = x.address)
      | .signNode => ∃ x, p.signs[k]? = some x ∧ h.nodeCount ≤ x.node
      | .signMap => ∃ x, p.signs[k]? = some x ∧
          ((∃ e ∈ x.map, ∀ l, p.links[e.1]? = some l → l.a ≠ x.node ∧ l.b ≠ x.node) ∨
            ¬ (x.map.map (·.1)).Nodup ∨ ¬ (x.map.map (·.2)).Nodup ∨
            ∃ j l, p.links[j]? = some l ∧ j ∉ x.map.map (·.1) ∧
              ((l.a = x.node ∧ l.passage ≠ .bToA) ∨ (l.b = x.node ∧ l.passage ≠ .aToB)))
      | .signGroup => ∃ x, p.signs[k]? = some x ∧ ((∃ n ∈ x.groups, 15 < n) ∨ ¬ x.groups.Nodup)
      | .noExit => k = 0 ∧ h.exitCount = 0
    (planCheck g = none ↔ ∀ r k, ¬ fails r k) ∧
    (∀ r k, r ≠ .sectionMissing →
      (planCheck g = some { reason := r, sect := sectOf r, index := k } ↔
        fails r k ∧ (∀ j, j < k → ¬ fails r j) ∧
          ∀ q j, checkReasonCode q < checkReasonCode r → ¬ fails q j)) ∧
    (∀ sect k, planCheck g = some { reason := .sectionMissing, sect := sect, index := k } ↔
      missing sect k ∧ (∀ j, j < k → ¬ missing sect j) ∧
        ∀ other j, sectionCode other < sectionCode sect → ¬ missing other j) ∧
    (∀ f, planCheck g = some f → f.reason ≠ .sectionMissing → f.sect = sectOf f.reason))

/-- R16: PLAN ACTIVATE outside PASSED is answered WRONG_STAGE; in PASSED with a solve running it waits for that solve, and
with RSV IDLE the swap to the staged plan is made as the request is taken. -/
def Obligations.plan_activate : Prop :=
  ∀ (tag : Byte) (s : State), Ready s →
    let activating : State :=
      { s with ps := { s.ps with staging := { s.ps.staging with stage := .activating } } }
    (s.ps.staging.stage ≠ .passed → TurnedAway (.planActivate tag []) s .wrongStage) ∧
    (s.ps.staging.stage = .passed → s.rsv.state = .solving →
      Answers (.planActivate tag []) s .ok [] { activating with rsv := { s.rsv with activationPending := true } }) ∧
    (∀ p : Plan, s.ps.staging.stage = .passed → s.rsv.state = .idle → stagedPlan s.ps.staging = some p →
      Answers (.planActivate tag []) s .ok [] (swapTo p activating) ∧
      (swapTo p activating).ps.active = some p ∧ (swapTo p activating).ps.staging = stagingEmpty ∧
      (swapTo p activating).ps.storing = true ∧ (swapTo p activating).rsv.wanted = true)

/-- R17 to R19, R124, R128, R148: the swap to a plan, block by block, with its notices. That the image is the plan's
records and no check value stands beside it before the store's end, the outcome of an exchange that the swap outlives,
the send pending cleared at once and the frame marked, the zone kept by an entry marked unmapped, and that port A's
change is recorded where both ports fall out of use, are the model's choices (log entries 9, 19, 25, 39, 47). -/
def Obligations.swap_block_by_block : Prop :=
  ∀ (p : Plan) (s : State),
    let t := swapTo p s
    let decoded (e : PendingEntry) : PendingEntry :=
      match decodeZone p e.address with
      | some z => { e with zone := z, unmapped := false }
      | none => { e with unmapped := true }
    t.ps = { s.ps with
      active := some p, staging := stagingEmpty, storing := true
      memory := { mark := .written, image := imageBytes p, check := none } } ∧
    t.rsv.state = .idle ∧ t.rsv.wanted = true ∧ t.rsv.stale = false ∧ t.rsv.activationPending = false ∧
    t.rsv.published = none ∧ t.rsv.epoch = 0 ∧ t.rsv.exits = p.exits.map (·.initial) ∧
    t.rsv.nodes.length = p.header.nodeCount ∧ (∀ w ∈ t.rsv.nodes, w.cost = unreachable ∧ w.route = none) ∧
    t.zh.zones.length = p.zones.length ∧
    (∀ (i : Nat) (z : ZoneRec) (old : ZoneRun), p.zones[i]? = some z → s.zh.zones[i]? = some old →
      t.zh.zones[i]? = some { old with setting := z }) ∧
    (∀ (i : Nat) (z : ZoneRec), p.zones[i]? = some z → s.zh.zones[i]? = none →
      t.zh.zones[i]? =
        some { state := .clear, suspect := none, clearHold := none, untracked := false, setting := z }) ∧
    t.zh.declaration = s.zh.declaration ∧ t.zh.clock = s.zh.clock ∧
    (s.zh.evac = .active → t.zh.evac = .active) ∧
    (s.zh.evac ≠ .active → t.zh.evac = derivedEvac t.zh.zones) ∧
    t.di = { s.di with reports := s.di.reports.map decoded } ∧
    t.zh.take = s.zh.take.map decoded ∧
    (∀ d : Nat × DetectorRec, d ∈ t.zh.detectors ↔
      ∃ old ∈ s.zh.detectors, ∃ z, decodeZone p old.1 = some z ∧ z < p.header.zoneCount ∧
        d = (old.1, { old.2 with zone := z })) ∧
    (t.zh.detectors.map (·.1)).Sublist (s.zh.detectors.map (·.1)) ∧
    t.slc.cycle = .dormant ∧ t.slc.startPending = false ∧ t.slc.cutPending = false ∧ t.slc.adopted = none ∧
    t.slc.noRouteCount = 0 ∧ t.slc.number = s.slc.number ∧ t.slc.groups = s.slc.groups ∧
    t.slc.refresh = s.slc.refresh ∧ t.slc.signs = p.signs.map newSign ∧
    (s.slc.exchange = none → t.slc.exchange = none) ∧
    (∀ e : Exchange, s.slc.exchange = some e → ∃ target : Target,
      t.slc.exchange = some { e with target := target } ∧
      (∀ i g old, e.target = .sign i → s.slc.signs[i]? = some g → s.ps.active = some old →
        target = .former i g old.header.missLimit) ∧
      ((∀ i, e.target ≠ .sign i) → target = e.target)) ∧
    (∀ a : Nat, a ∈ t.slc.removal ↔
      (a ∈ s.slc.removal ∨ ∃ old, s.ps.active = some old ∧ ∃ g ∈ old.signs, g.address = a) ∧
        ¬ ∃ g ∈ p.signs, g.address = a) ∧
    (∀ r ∈ t.pp.portals, r.advertisement = none ∧ r.lastSent = none) ∧
    t.pp.portals.map (·.exit) = (List.range p.exits.length).filter (fun e => (portalOf p e).isSome) ∧
    (∀ port : PeerPort, (portGet t.pp port).sendPending = false ∧
      (portGet t.pp port).sending = (portGet s.pp port).sending.map (fun f => { f with former := true }) ∧
      (portGet t.pp port).station = (portGet s.pp port).station ∧
      (portGet t.pp port).planId = (portGet s.pp port).planId ∧
      (expectedId p.header port = 0 →
        (portGet t.pp port).state = .down ∧ (portGet t.pp port).age = none ∧
          (portGet t.pp port).advertise = none ∧ (portGet t.pp port).spacing = none ∧
          ((portGet s.pp port).state ≠ .down → t.mp.kinds[NoticeKind.lineState.idx].flag = true)) ∧
      (expectedId p.header port ≠ 0 →
        (portGet t.pp port).state = (portGet s.pp port).state ∧ (portGet t.pp port).age = (portGet s.pp port).age ∧
          (portGet t.pp port).spacing = (portGet s.pp port).spacing ∧
          (s.mark (portLine port) = .running →
            (portGet t.pp port).advertise = some (timingTicks p.header.advertise)))) ∧
    (let rose (k : NoticeKind) (body : NoticeBody) : Prop :=
      t.mp.kinds[k.idx].flag = true ∧
        (s.mp.kinds[k.idx].flag = false →
          t.mp.kinds[k.idx].event = some { body := body, clock := s.zh.clock, seconds := s.tb.seconds })
    let downed (port : PeerPort) : Prop := expectedId p.header port = 0 ∧ (portGet s.pp port).state ≠ .down
    let left (port : PeerPort) : Prop := expectedId p.header port = 0 ∧ (portGet s.pp port).state = .up
    (∀ port : PeerPort, downed port → (port = .b → ¬ downed .a) →
      rose .lineState (.lineState (portNumber port) (.port .down) none)) ∧
    (∀ port : PeerPort, left port → (port = .b → ¬ left .a) → rose .portalChange (.portalChange port .down 0 none)) ∧
    ((∀ port : PeerPort, ¬ downed port) →
      t.mp.kinds[NoticeKind.lineState.idx] = s.mp.kinds[NoticeKind.lineState.idx]) ∧
    ((∀ port : PeerPort, ¬ left port) →
      t.mp.kinds[NoticeKind.portalChange.idx] = s.mp.kinds[NoticeKind.portalChange.idx])) ∧
    t.mp.kinds[NoticeKind.planEvent.idx].flag = true ∧
    (s.mp.kinds[NoticeKind.planEvent.idx].flag = false →
      t.mp.kinds[NoticeKind.planEvent.idx].event =
        some { body := .planEvent .activated p.header.planId none, clock := s.zh.clock, seconds := s.tb.seconds }) ∧
    (t.zh.evac ≠ s.zh.evac → t.mp.kinds[NoticeKind.evacState.idx].flag = true ∧
      (s.mp.kinds[NoticeKind.evacState.idx].flag = false →
        t.mp.kinds[NoticeKind.evacState.idx].event =
          some { body := .evacState s.zh.evac t.zh.evac s.zh.declaration .plan, clock := s.zh.clock,
                 seconds := s.tb.seconds })) ∧
    t.fc = s.fc ∧ t.tb = s.tb ∧ t.lines = s.lines

/-- R20: the end of a store in flight. The stored check value is the CRC-16 of the image written; the CRC-16 of the image
read back either equals it, or differs, with PLAN_EVENT and, when it differs, PLAN_STORE_FAULT. With no store in flight
nothing ends. A plan in its ranges is read back from its image, which holds it record by record. The image's layout and
that the check value is written at the store's end are the model's choices, and so is that the rise of PLAN_EVENT comes
before the capture (log entries 2, 9, 11). -/
def Obligations.plan_store_end : Prop :=
  (∀ (s : State) (readBack : List Byte), s.phase = .running →
    let memory : PlanMemory := { mark := .written, image := readBack, check := some (crc16 s.ps.memory.image) }
    (s.ps.storing = true → crc16 readBack = crc16 s.ps.memory.image →
      exec (.planStoreEnd readBack) s =
        .next (raise (.planEvent .stored (activePlanId s) none)
          { s with ps := { s.ps with storing := false, condition := .good, memory := memory } })) ∧
    (s.ps.storing = true → crc16 readBack ≠ crc16 s.ps.memory.image →
      exec (.planStoreEnd readBack) s =
        .next (capture .planStoreFault 0 (raise (.planEvent .storeFailed (activePlanId s) none)
          { s with ps := { s.ps with storing := false, condition := .bad, memory := memory } }))) ∧
    (s.ps.storing = false → exec (.planStoreEnd readBack) s = .next s)) ∧
  (∀ p : Plan, PlanFits p →
    imageBytes p = headerBytes p.header ++ p.nodes.flatMap (nodeBytes [0xFF, 0xFF]) ++ p.links.flatMap linkBytes ++
      p.zones.flatMap zoneBytes ++ p.windows.flatMap windowBytes ++ p.exits.flatMap exitBytes ++
      p.signs.flatMap signBytes ∧
    planOfImage (imageBytes p) = some p)

/-! ## Requests that read -/

/-- R160, R161, R177, R178, R188, R189: IDENTIFY, STATUS, FAULT READ and COUNTER READ are answered OK in every state, and
every byte that they give. They, PLAN READ and the five queries change nothing: whatever they are answered, only the
reply is new. That a request is placed and taken in one act, the bytes of a value announced as absent, and the epoch of
STATUS with no set are the model's choices (log entries 4, 12, 13). -/
def Obligations.identify_status_and_reads : Prop :=
  (∀ (c : Instr) (r : Request) (s : State), requestOf c = some r → Ready s →
    r.kind ∈ [0x01, 0x02, 0x08, 0x0F, 0x10, 0x11, 0x12, 0x13, 0x16, 0x19] →
    ∃ (status : ReplyStatus) (fields : List Byte), Answers c s status fields s) ∧
  ∀ (tag : Byte) (s : State), Ready s →
    let flag (b : Bool) : Byte := if b then 1 else 0
    let opt (o : Option Nat) : Byte := o.elim 0xFF byte1
    let free (from_ n : Nat) : List Byte := (List.range n).map fun i => Config.freeByte (s.free + from_ + i)
    let zones (st : ZoneState) : Byte := byte1 (s.zh.zones.filter fun z => decide (z.state = st)).length
    let signs (st : SignState) : Byte := byte1 (s.slc.signs.filter fun g => decide (g.state = st)).length
    let port (from_ : Nat) (id : PeerPort) : List Byte :=
      [byte1 (lineMarkCode (s.mark (portLine id))), flag (portInUse s id), byte1 (portStateCode (portGet s.pp id).state),
       opt (portGet s.pp id).station] ++
        (portGet s.pp id).planId.elim (0 :: free from_ 2) (fun n => 1 :: byte2 n)
    let format (id : LineId) : List Byte :=
      byte3 (lineGet s.lines id).format.speed ++
        [byte1 (parityCode (lineGet s.lines id).format.parity), byte1 (lineGet s.lines id).format.stop]
    Answers (.identify tag []) s .ok
      ([0x0C, 0x44, 0x01, 0x01, 0x80, 0x03, 0x00, 64, 16, 32, 8, 250, byte1 (resetKindCode s.mp.lastReset)] ++
        byte4 s.tb.seconds ++ byte2 (activePlanId s) ++ [opt (s.ps.active.map fun p => p.header.ownId)]) s ∧
    Answers (.status tag []) s .ok
      (byte2 (activePlanId s) ++ [byte1 (stageCode s.ps.staging.stage)] ++
        s.ps.staging.failure.elim [0, 0xFF, 0xFF, 0xFF]
          (fun f => [byte1 (checkReasonCode f.reason), byte1 (sectionCode f.sect)] ++ byte2 f.index) ++
        [flag s.ps.storing, byte1 (memoryConditionCode s.ps.condition)] ++
        [byte1 (lockStateCode s.di.lock)] ++ s.di.panel.elim (0 :: free 0 1) (fun n => [1, byte1 n]) ++
        [byte1 s.di.reports.length] ++ s.di.channels.toList.map (fun c => opt (c.accepted.map contactLevelCode)) ++
        byte2 s.zh.detectors.length ++ [zones .clear, zones .suspect, zones .smoke, zones .clearing] ++
        [byte1 (evacStateCode s.zh.evac), flag s.zh.declaration, byte1 s.zh.clock.minutes, byte1 s.zh.clock.seconds,
         byte1 s.zh.clock.tenths, flag s.zh.clock.running] ++
        [byte1 (solverStateCode s.rsv.state), flag s.rsv.wanted, flag s.rsv.stale, flag s.rsv.activationPending,
         flag s.rsv.published.isSome] ++ byte2 s.rsv.epoch ++
        s.rsv.report.elim [0xFF, 0xFF, 0xFF] (fun r => byte2 r.passes ++ [flag r.limited]) ++
        [byte1 (lineMarkCode (s.mark .sign)), byte1 (cycleStateCode s.slc.cycle), byte1 s.slc.number] ++
        s.slc.adopted.elim (0 :: free 8 2) (fun a => 1 :: byte2 a.epoch) ++
        [signs .unseen, signs .online, signs .missing, signs .lost, signs .faulty,
         byte1 (s.slc.signs.filter fun g => decide (g.state = .online ∧ g.lamp = some .part)).length,
         byte1 s.slc.removal.length, byte1 s.slc.noRouteCount] ++
        port 16 .a ++ port 24 .b ++
        [byte1 (s.pp.portals.filter fun r => r.advertisement.isSome).length,
         byte1 (s.pp.portals.filter fun r => r.advertisement.isNone).length] ++
        format .message ++ format .detector ++ format .sign ++ format .peerA ++ format .peerB ++
        [byte1 (lineMarkCode (s.mark .detector))] ++
        [0, byte1 (resetKindCode s.mp.lastReset)] ++ byte4 s.tb.seconds ++
        s.mp.kinds.toList.map (fun k => flag k.flag) ++ [byte1 s.mp.notices.length, flag s.fc.record.isSome] ++
        s.fc.record.elim [0xFF, 0xFF] (fun r => [byte1 r.kind.idx.val, byte1 (faultClassCode (faultClassOf r.kind))]) ++
        [flag s.fc.multipleMinor, flag s.fc.multipleMajor, flag s.fc.ignoreMinor] ++
        s.fc.outputs.toList.flatMap (fun g => [byte1 (signalCode g), flag (signalTrue s g)]) ++
        [byte1 s.rsv.exits.length] ++ s.rsv.exits.map (fun e => byte1 (exitStateCode e))) s ∧
    Answers (.faultRead tag []) s .ok
      ([flag s.fc.record.isSome] ++
        s.fc.record.elim ([0xFF, 0xFF, 0xFF, 0xFF] ++ free 0 4)
          (fun r => [byte1 r.kind.idx.val, byte1 (faultClassCode (faultClassOf r.kind))] ++ byte2 r.subject ++
            byte4 r.time) ++
        [flag s.fc.multipleMinor, flag s.fc.multipleMajor, flag s.fc.ignoreMinor] ++
        s.fc.tallies.toList.map byte1) s ∧
    Answers (.counterRead tag []) s .ok
      ([0, byte1 (counterInputCode s.fc.counters[0].input)] ++ byte3 s.fc.counters[0].value ++
        [1, byte1 (counterInputCode s.fc.counters[1].input)] ++ byte3 s.fc.counters[1].value) s

/-- R12, R58, R96, R132, R150, R162, R188: each query and PLAN READ of the ACTIVE bank is answered NO_PLAN with no plan,
and with one each query answers OK exactly for an identifier that names something, with every byte it gives. PLAN READ
gives whole slots from the first index on, as many as were asked for that lie in the section and fit in 240 bytes, and
BAD_VALUE for a bank or a section code that names none. That NO_PLAN is tested before the section and the index, the
bytes of a value announced as absent, the epoch of NODE QUERY with no set and the place of the head entry are the
model's choices (log entries 12, 13, 14, 16). -/
def Obligations.queries_answer : Prop :=
  ∀ (tag : Byte) (s : State), Ready s →
    let flag (b : Bool) : Byte := if b then 1 else 0
    let opt (o : Option Nat) : Byte := o.elim 0xFF byte1
    let free (from_ n : Nat) : List Byte := (List.range n).map fun i => Config.freeByte (s.free + from_ + i)
    let timer (t : Timer) : List Byte := t.elim [0xFF, 0xFF, 0xFF] byte3
    let costs (c : Cost) : List Byte := byte2 c.x ++ byte2 c.d
    let shown (f : Option Face) : List Byte := f.elim [0xFF, 0xFF, 0xFF, 0xFF] faceBytes
    (s.ps.active = none → ∀ a b : Byte,
      TurnedAway (.nodeQuery tag [a, b]) s .noPlan ∧ TurnedAway (.signQuery tag [a]) s .noPlan ∧
      TurnedAway (.zoneQuery tag [a]) s .noPlan ∧ TurnedAway (.detectorQuery tag [a, b]) s .noPlan ∧
      TurnedAway (.portalQuery tag [a]) s .noPlan ∧ (∀ i j n, TurnedAway (.planRead tag [0, a, i, j, n]) s .noPlan)) ∧
    (∀ (p : Plan) (a b : Byte), s.ps.active = some p →
      (p.nodes.length ≤ num2 a b → TurnedAway (.nodeQuery tag [a, b]) s .badValue) ∧
      (∀ n : NodeRec, p.nodes[num2 a b]? = some n →
        Answers (.nodeQuery tag [a, b]) s .ok
          ([a, b] ++ n.label.elim (0 :: free 0 2) (fun l => 1 :: byte2 l) ++
            (match s.rsv.published with
              | none => [0] ++ byte2 s.rsv.epoch ++ free 8 4 ++ [0xFF, 0xFF, 0xFF, 0xFF, 0xFF, 0xFF]
              | some set =>
                let h := headingAt set (num2 a b)
                [1] ++ byte2 s.rsv.epoch ++ costs h.cost ++
                  (match h.choice with
                    | .seed o hop => [0, 0xFF, 0xFF, byte1 o, byte1 hop]
                    | .link k o hop => [1] ++ byte2 k ++ [byte1 o, byte1 hop]
                    | .none => [2, 0xFF, 0xFF, 0xFF, 0xFF]) ++ [flag h.changed]) ++
            [byte1 (p.signs.filter fun g => decide (g.node = num2 a b)).length]) s) ∧
      (s.slc.signs.length = p.signs.length → p.signs.length ≤ a.toNat →
        TurnedAway (.signQuery tag [a]) s .badValue) ∧
      (∀ (g : SignRun) (x : SignRec), s.slc.signs[a.toNat]? = some g → p.signs[a.toNat]? = some x →
        Answers (.signQuery tag [a]) s .ok
          ([a, byte1 g.address] ++ byte2 g.node ++
            [byte1 (signStateCode g.state), byte1 g.misses, opt (g.lamp.map lampCode),
             byte1 (signOutcomeCode g.outcome)] ++ shown g.composed ++ shown g.lastFace ++ timer g.emphasis ++
            s.slc.adopted.elim (0 :: free 0 2) (fun d => 1 :: byte2 d.epoch) ++
            [byte1 x.groups.length] ++ x.groups.map byte1) s) ∧
      (s.zh.zones.length ≤ a.toNat → TurnedAway (.zoneQuery tag [a]) s .badValue) ∧
      (∀ z : ZoneRun, s.zh.zones[a.toNat]? = some z →
        let own := s.zh.detectors.filter fun d => decide (d.2.zone = a.toNat)
        let count (l : Level) : List Byte := byte2 (own.filter fun d => decide (d.2.level = l)).length
        let c := conditions s.zh.detectors a.toNat z
        Answers (.zoneQuery tag [a]) s .ok
          ([a, byte1 (zoneStateCode z.state)] ++ timer z.suspect ++ timer z.clearHold ++
            [flag z.untracked, flag z.setting.latch, byte1 z.setting.suspectWeight, byte1 z.setting.smokeWeight,
             byte1 z.setting.confirmCount] ++ count .normal ++ count .fault ++ count .prealarm ++ count .alarm ++
            [flag c.alarm, flag c.warning, flag c.degraded, flag c.confirmed,
             byte1 ((own.map fun d => d.2.alarms).foldl max 0)]) s) ∧
      (num2 a b = 0 ∨ 1023 < num2 a b → TurnedAway (.detectorQuery tag [a, b]) s .badValue) ∧
      (1 ≤ num2 a b → num2 a b ≤ 1023 →
        ∀ place : Option (Nat × PendingEntry),
        (∀ k e, place = some (k, e) → s.di.reports[k]? = some e ∧ e.address = num2 a b ∧
          ∀ j x, j < k → s.di.reports[j]? = some x → x.address ≠ num2 a b) →
        (place = none → ∀ e ∈ s.di.reports, e.address ≠ num2 a b) →
        Answers (.detectorQuery tag [a, b]) s .ok
          ([a, b, opt (decodeZone p (num2 a b))] ++
            (slotGet s.zh.detectors (num2 a b)).elim ([0, 0xFF, 0xFF, 0xFF, 0xFF] ++ free 0 4)
              (fun r => [1, byte1 r.zone, byte1 (levelCode r.level), opt r.lastSequence, byte1 r.alarms] ++
                byte4 r.time) ++
            place.elim [0, 0xFF, 0xFF, 0xFF, 0xFF, 0xFF, 0xFF, 0xFF, 0xFF, 0xFF]
              (fun q => [1, byte1 q.1, byte1 q.2.zone, flag q.2.unmapped, byte1 (levelCode q.2.level),
                opt q.2.sequence, byte1 q.2.merged, byte1 (levelCode q.2.peak), byte1 q.2.tail,
                byte1 (sourceCode q.2.source)])) s) ∧
      (portalOf p a.toNat = none → TurnedAway (.portalQuery tag [a]) s .badValue) ∧
      (∀ (f : PortalFields) (st : ExitState) (r : PortalRun) (front back : List PortalRun),
        portalOf p a.toNat = some f → s.rsv.exits[a.toNat]? = some st → s.pp.portals = front ++ r :: back →
        r.exit = a.toNat → (∀ x ∈ front, x.exit ≠ a.toNat) →
        let port := portGet s.pp f.port
        Answers (.portalQuery tag [a]) s .ok
          ([a, byte1 (portCode f.port), byte1 f.remote] ++ byte2 f.crossing ++ [byte1 (exitStateCode st)] ++
            r.advertisement.elim ([0] ++ free 0 4 ++ [0xFF, 0xFF])
              (fun d => [1] ++ costs d.cost ++
                [byte1 d.hop, byte1 ((if d.isHere then 1 else 0) + if d.already then 2 else 0)]) ++
            (portalSeed p.header f st r.advertisement).elim ([0] ++ free 8 4 ++ [0xFF])
              (fun sd => [1] ++ costs sd.1 ++ [byte1 sd.2]) ++
            r.lastSent.elim (0 :: free 16 7)
              (fun e => [1, byte1 e.exit] ++ costs e.cost ++
                [byte1 e.hop,
                 byte1 ((if e.isHere then 1 else 0) + (if e.already then 2 else 0) + if e.unknown then 4 else 0)]) ++
            [byte1 (portStateCode port.state), opt port.station] ++
            port.planId.elim (0 :: free 24 2) (fun n => 1 :: byte2 n) ++ timer port.age) s)) ∧
    (∀ b c i j n : Byte,
      (1 < b.toNat → TurnedAway (.planRead tag [b, c, i, j, n]) s .badValue) ∧
      (b.toNat = 1 ∨ (b.toNat = 0 ∧ s.ps.active ≠ none) → 6 < c.toNat →
        TurnedAway (.planRead tag [b, c, i, j, n]) s .badValue)) ∧
    (∀ (bank : Bank) (sect : Section) (b c i j n : Byte), bankOf b.toNat = some bank → sectionOf c.toNat = some sect →
      (bank = .staging ∨ s.ps.active ≠ none) →
      let slot (k : Nat) : List Byte :=
        match bank with
        | .staging => slotBytes (stagingSlot s.free s.ps.staging sect k)
        | .active => slotBytes (s.ps.active.bind fun p => activeSlot s.free p sect k)
      let first := num2 i j
      let asked := if n = 0 then 1 else n.toNat
      (sectionMax sect ≤ first → TurnedAway (.planRead tag [b, c, i, j, n]) s .badValue) ∧
      (first < sectionMax sect → ∃ count : Nat,
        let given := (List.range count).flatMap fun k => slot (first + k)
        count ≤ asked ∧ first + count ≤ sectionMax sect ∧ given.length ≤ 240 ∧
        (count < asked → first + count = sectionMax sect ∨ 240 < given.length + (slot (first + count)).length) ∧
        Answers (.planRead tag [b, c, i, j, n]) s (if n = 0 ∨ count < asked then .clamped else .ok)
          ([b, c, i, j, byte1 count] ++ given) s))

/-! ## Detector Intake -/

/-- R24, R36: a report is dropped with no plan, discarded as unmapped where no window hits, and otherwise goes to the
table with its window's zone. R38 to R40: a decoded report merges into its address's entry, joins at the tail, or, with 32 entries held and none
for its address, is dropped: INTAKE_OVERRUN is captured, REPORT_DROPPED fires and OVERRUN rises. That FAULT_CAPTURED rises before OVERRUN in that one step is the
model's choice (log entry 11). -/
def Obligations.report_joins_merges_or_overruns : Prop :=
  (∀ (address : Nat) (level : Level) (q : Option Nat) (src : Source) (s : State),
    (s.ps.active = none → makeReport address level q src s = fire .reportDropped 1 s) ∧
    (∀ p : Plan, s.ps.active = some p →
      ((∀ w ∈ p.windows, ¬ (w.base ≤ address ∧ address < w.base + w.size)) →
        makeReport address level q src s = capture .unmappedDetector address s) ∧
      (∀ w ∈ p.windows, w.base ≤ address ∧ address < w.base + w.size →
        (∀ v ∈ p.windows, v.base ≤ address ∧ address < v.base + v.size → v.zone = w.zone) →
        makeReport address level q src s = tableReport address w.zone level q src s))) ∧
  ∀ (address zone : Nat) (level : Level) (q : Option Nat) (src : Source) (s : State),
    ((∀ e ∈ s.di.reports, e.address ≠ address) → s.di.reports.length < 32 →
      tableReport address zone level q src s =
        { s with di := { s.di with reports := s.di.reports ++
            [{ address := address, zone := zone, unmapped := false, level := level, sequence := q, merged := 1,
               peak := level, tail := if level = .alarm then 1 else 0, source := src }] } }) ∧
    ((∀ e ∈ s.di.reports, e.address ≠ address) → 32 ≤ s.di.reports.length →
      tableReport address zone level q src s =
        raise (.overrun (.pendingTable address)) (fire .reportDropped 1 (capture .intakeOverrun address s))) ∧
    (∀ (front back : List PendingEntry) (e : PendingEntry), s.di.reports = front ++ e :: back →
      e.address = address → (∀ x ∈ front ++ back, x.address ≠ address) →
      tableReport address zone level q src s =
        fire .reportMerged 1
          { s with di := { s.di with reports := front ++
              ({ e with
                  level := level
                  sequence := if q.isSome then q else e.sequence
                  merged := min 63 (e.merged + 1)
                  peak := if levelCode e.peak < levelCode level then level else e.peak
                  tail := if level = .alarm then min 7 (e.tail + 1) else 0
                  source := src } :: back) } })

/-- R25: which frames are valid, and that every other frame, with its character errors captured, is invalid. R26 to R30:
the lock machine. Three valid frames in a row take SILENT to LOCKED and three invalid ones take LOCKED to SEEKING; the
silence timer's expiry takes the line to SILENT. LINE_STATE rises at a change, and DETECTOR_LINE_LOST is captured on
leaving LOCKED. A valid REPORT is taken only when the line is LOCKED once it has been judged, a SUPERVISE in every lock
state, and a valid frame restarts the silence timer. That SUPERVISE sets the panel id in the act that judges the frame,
that LINE_STATE rises before FAULT_CAPTURED in one step, and the valid-run count 0 in LOCKED are the model's choices
(log entries 31, 11, 41). -/
def Obligations.detector_line_lock : Prop :=
  (∀ di : Intake,
    (di.lock = .silent → lockAfterValid di = (.seeking, 1, 0)) ∧
    (di.lock = .seeking → di.validRun = 0 → lockAfterValid di = (.seeking, 1, 0)) ∧
    (di.lock = .seeking → di.validRun = 1 → lockAfterValid di = (.seeking, 2, 0)) ∧
    (di.lock = .seeking → di.validRun = 2 → lockAfterValid di = (.locked, 0, 0)) ∧
    (di.lock = .locked → lockAfterValid di = (.locked, 0, 0)) ∧
    (di.lock = .silent → lockAfterInvalid di = (.silent, di.validRun, di.invalidRun)) ∧
    (di.lock = .seeking → lockAfterInvalid di = (.seeking, 0, 0)) ∧
    (di.lock = .locked → di.invalidRun < 2 → lockAfterInvalid di = (.locked, 0, di.invalidRun + 1)) ∧
    (di.lock = .locked → di.invalidRun = 2 → lockAfterInvalid di = (.seeking, 0, 0))) ∧
  (∀ (lock : LockState) (v i : Nat) (silence : Timer) (panel : Option Nat) (s : State),
    let s1 : State :=
      { s with di := { s.di with lock := lock, validRun := v, invalidRun := i, silence := silence, panel := panel } }
    let raised := raise (.lineState 1 (.lock lock) panel) s1
    let t := setLock (lock, v, i) silence panel s
    (s.di.lock = lock → s.di.panel = none ∨ s.di.panel = panel → t = s1) ∧
    (s.di.lock = lock → s.di.panel ≠ none → s.di.panel ≠ panel → t = raised) ∧
    (s.di.lock ≠ lock → s.di.lock ≠ .locked → t = raised) ∧
    (s.di.lock ≠ lock → s.di.lock = .locked → t = capture .detectorLineLost 1 raised)) ∧
  (∀ (s : State) (err : Bool),
    detectorInvalid err s =
      setLock (lockAfterInvalid s.di) s.di.silence s.di.panel (if err then capture .lineCharError 1 s else s) ∧
    (s.di.lock = .locked → s.di.invalidRun = 2 →
      detectorInvalid false s =
        capture .detectorLineLost 1 (raise (.lineState 1 (.lock .seeking) s.di.panel)
          { s with di := { s.di with lock := .seeking, validRun := 0, invalidRun := 0 } }))) ∧
  (∀ s : State, s.phase = .running → s.di.silence = some 0 →
    let quiet : State :=
      { s with di := { s.di with lock := .silent, validRun := 0, invalidRun := 0, silence := none } }
    (s.di.lock = .seeking →
      exec .silenceTimerExpiry s = .next (raise (.lineState 1 (.lock .silent) s.di.panel) quiet)) ∧
    (s.di.lock = .locked →
      exec .silenceTimerExpiry s =
        .next (capture .detectorLineLost 1 (raise (.lineState 1 (.lock .silent) s.di.panel) quiet)))) ∧
  (∀ (s : State) (address : Nat) (level : Level) (q : Nat),
    let s1 := setLock (lockAfterValid s.di) (some (silenceTicks s)) s.di.panel s
    let frame : RxEvent := .frame ([0x10] ++ byte2 address ++ [byte1 (levelCode level), byte1 q]) false
    address < 65536 →
    (q ≤ 63 →
      detectorEvent s frame =
        if (lockAfterValid s.di).1 = .locked then makeReport address level (some q) .line s1 else s1) ∧
    (63 < q → q < 256 → detectorEvent s frame = detectorInvalid false s)) ∧
  (∀ (s : State),
    (∀ body : List Byte,
      let report : Prop :=
        ∃ h l level q : Byte, body = [0x10, h, l, level, q] ∧ level.toNat ≤ 3 ∧ q.toNat ≤ 63
      (¬ report → (∀ panel : Byte, body ≠ [0x11, panel]) →
        detectorEvent s (.frame body false) = detectorInvalid false s) ∧
      detectorEvent s (.frame body true) = detectorInvalid true s) ∧
    ∀ err : Bool, detectorEvent s (.badCheck err) = detectorInvalid err s) ∧
  (∀ (s : State) (panel : Byte),
    let t := detectorEvent s (.frame [0x11, panel] false)
    t = setLock (lockAfterValid s.di) (some (silenceTicks s)) (some panel.toNat) s ∧
      t.di.panel = some panel.toNat ∧ t.di.silence = some (silenceTicks s) ∧ t.di.reports = s.di.reports ∧
      t.zh = s.zh)

/-- R32 to R35: the sampling of a channel, its accepted change with the report its mode gives, and the FAULT report of
a PULSE closure whose width count reaches 320. A channel in OFF takes no samples. The mark `accepting` and when an
unsettled one is settled are the model's choices (log entry 26). -/
def Obligations.contact_channels : Prop :=
  (∀ (s : State) (levels : BitVec 8) (n : Fin 8), s.phase = .running →
    (∀ m : Fin 8, s.di.channels[m].candidate ≠ .accepting ∧
      ∀ w, s.di.channels[m].width = some w → w < 320) →
    ∃ t : State, exec (.contactSample levels) s = .next t ∧
      t.zh = s.zh ∧ t.mp = s.mp ∧ t.fc = s.fc ∧ t.di.reports = s.di.reports ∧
      (s.di.channels[n].accepted = none → t.di.channels[n] = s.di.channels[n]) ∧
      (∀ l, s.di.channels[n].accepted = some l →
        t.di.channels[n] =
          { s.di.channels[n] with
            candidate :=
              if (if levels.getLsbD n then ContactLevel.closed else .opened) = l then .absent
              else if s.di.channels[n].candidate = .absent then .present else .accepting
            width := s.di.channels[n].width.map (· + 1) })) ∧
  (∀ (s : State) (n : Fin 8) (old : ContactLevel), s.phase = .running →
    s.di.channels[n].candidate = .accepting → s.di.channels[n].accepted = some old →
    let c := s.di.channels[n]
    let new : ContactLevel := if old = .opened then .closed else .opened
    let c1 : Channel :=
      { c with accepted := some new, candidate := .absent,
               width := if c.mode = .pulse ∧ new = .closed then some 0 else none }
    let quiet : State := { s with di := { s.di with channels := s.di.channels.set n c1 } }
    let level : Option Level :=
      match c.mode with
      | .off => none
      | .levelOpenAlarm => some (if new = .opened then .alarm else .normal)
      | .levelClosedAlarm => some (if new = .closed then .alarm else .normal)
      | .pulse =>
        if new = .closed then none
        else match c.width with
          | none => none
          | some w => if w ≤ 12 then none else if w ≤ 63 then some .normal else if w ≤ 319 then some .alarm else some .fault
    exec (.contactChangeAccepted n) s =
      .next (match level with
        | none => quiet
        | some l => if c.address = 0 then quiet else makeReport c.address l none (.contact n) quiet)) ∧
  (∀ (s : State) (n : Fin 8), s.phase = .running → s.di.channels[n].candidate ≠ .accepting →
    s.di.channels[n].width = some 320 →
    let c := s.di.channels[n]
    let quiet : State := { s with di := { s.di with channels := s.di.channels.set n { c with width := none } } }
    exec (.pulseWidthLimit n) s =
      .next (if c.address = 0 then quiet else makeReport c.address .fault none (.contact n) quiet))

/-- R41: a take begins by removing the head entry; an entry marked unmapped ends it with UNMAPPED_DETECTOR. -/
def Obligations.take_begins : Prop :=
  ∀ (s : State) (e : PendingEntry) (rest : List PendingEntry), s.phase = .running → s.zh.take = none →
    s.di.reports = e :: rest →
    let s1 := fire .reportTaken 1 { s with di := { s.di with reports := rest } }
    (e.unmapped = false → exec .takeBegin s = .next { s1 with zh := { s1.zh with take := some e } }) ∧
    (e.unmapped = true → exec .takeBegin s = .next (capture .unmappedDetector e.address s1))

/-- R43 to R45: a take whose address has a record: a duplicate changes nothing but the take, a wrong sequence captures
SEQUENCE_GAP, and an applied take sets level, consecutive count, last sequence and time and evaluates the zone. A take
for a new address with room creates the record. R18, R41: a take whose entry a swap has marked unmapped ends with
UNMAPPED_DETECTOR and changes nothing else. -/
def Obligations.take_completes : Prop :=
  ∀ (s : State) (e : PendingEntry), s.phase = .running → s.zh.take = some e →
    let s1 : State := { s with zh := { s.zh with take := none } }
    let applied (r : DetectorRec) (u : State) : State :=
      let r1 : DetectorRec :=
        { zone := r.zone, level := e.level
          lastSequence := if e.sequence.isSome then e.sequence else r.lastSequence
          alarms := if e.tail = e.merged then min 7 (r.alarms + e.tail) else e.tail
          time := u.tb.seconds }
      evaluateZone r.zone e.peak { u with zh := { u.zh with detectors := slotPut u.zh.detectors e.address r1 } }
    (e.unmapped = true → exec .takeComplete s = .next (capture .unmappedDetector e.address s1)) ∧
    (∀ r : DetectorRec, e.unmapped = false → slotGet s.zh.detectors e.address = some r →
      (e.sequence = none ∨ r.lastSequence = none → exec .takeComplete s = .next (applied r s1)) ∧
      (∀ q last : Nat, e.sequence = some q → r.lastSequence = some last →
        (q = last → e.merged = 1 → exec .takeComplete s = .next s1) ∧
        (¬ (q = last ∧ e.merged = 1) → q ≠ (last + e.merged) % 64 →
          exec .takeComplete s = .next (applied r (capture .sequenceGap e.address s1))) ∧
        (¬ (q = last ∧ e.merged = 1) → q = (last + e.merged) % 64 →
          exec .takeComplete s = .next (applied r s1)))) ∧
    (e.unmapped = false → slotGet s.zh.detectors e.address = none → s.zh.detectors.length < 256 →
      exec .takeComplete s =
        .next (applied { zone := e.zone, level := .normal, lastSequence := none, alarms := 0, time := 0 } s1))

/-- R43: with 256 records held and none for the address, the record at NORMAL that is oldest, and of lowest address among
equals, gives way; with none at NORMAL the take is untracked. -/
def Obligations.take_with_full_table : Prop :=
  ∀ (s : State) (e : PendingEntry), s.phase = .running → s.zh.take = some e → e.unmapped = false →
    slotGet s.zh.detectors e.address = none → 256 ≤ s.zh.detectors.length → slotsWf s.zh.detectors = true →
    let s1 : State := { s with zh := { s.zh with take := none } }
    (∀ a r, (a, r) ∈ s.zh.detectors → r.level = .normal →
      (∀ b x, (b, x) ∈ s.zh.detectors → x.level = .normal → r.time < x.time ∨ (r.time = x.time ∧ a ≤ b)) →
      exec .takeComplete s =
        .next (applyTake e { zone := e.zone, level := .normal, lastSequence := none, alarms := 0, time := 0 }
          { s1 with zh := { s1.zh with detectors := slotErase s.zh.detectors a } })) ∧
    ((∀ a r, (a, r) ∈ s.zh.detectors → r.level ≠ .normal) →
      ∃ t : State, exec .takeComplete s = .next t ∧ t.zh.detectors = s.zh.detectors ∧ t.zh.take = none ∧
        t.fc = (capture .detectorTableFull e.address s).fc ∧
        (∀ z, e.peak = .alarm → t.zh.zones[e.zone]? = some z → z.untracked = true))

/-! ## Zones and the evacuation state -/

/-- R71, R76: EXIT SET sets the entry, wants a solve and makes a running one stale, whatever the previous state,
which it answers. R55, R54, R57: ZONE FORCE acts on a zone in any state, with the consequences of R54 where its state changes; FORCE
CLEAR clears the untracked-alarm flag and zeroes the zone's consecutive alarm counts. -/
def Obligations.exit_set_and_zone_force : Prop :=
  ∀ (tag a b : Byte) (s : State), Ready s →
    (s.ps.active = none →
      TurnedAway (.exitSet tag [a, b]) s .noPlan ∧ TurnedAway (.zoneForce tag [a, b]) s .noPlan) ∧
    (s.ps.active ≠ none →
      (s.rsv.exits.length ≤ a.toNat ∨ 2 < b.toNat → TurnedAway (.exitSet tag [a, b]) s .badValue) ∧
      (∀ prev st : ExitState, s.rsv.exits[a.toNat]? = some prev → exitStateOf b.toNat = some st →
        Answers (.exitSet tag [a, b]) s .ok [byte1 (exitStateCode prev)]
          { s with rsv := { s.rsv with
              exits := s.rsv.exits.set a.toNat st, wanted := true
              stale := if s.rsv.state = .solving then true else s.rsv.stale } }) ∧
      (s.zh.zones.length ≤ a.toNat ∨ 1 < b.toNat → TurnedAway (.zoneForce tag [a, b]) s .badValue) ∧
      (∀ z : ZoneRun, s.zh.zones[a.toNat]? = some z →
        let smoke : ZoneRun := { z with state := .smoke, suspect := none, clearHold := none }
        let clear : ZoneRun := { z with state := .clear, suspect := none, clearHold := none, untracked := false }
        let quiet (new : ZoneRun) (dets : Slots DetectorRec) : State :=
          { s with zh := { s.zh with zones := s.zh.zones.set a.toNat new, detectors := dets } }
        let dets0 : Slots DetectorRec := s.zh.detectors.map fun p =>
          if p.2.zone = a.toNat then (p.1, { p.2 with alarms := 0 }) else p
        (b = 0 → Answers (.zoneForce tag [a, b]) s .ok []
          (if z.state = .smoke then quiet smoke s.zh.detectors
            else zoneChanged a.toNat z.state .smoke (quiet smoke s.zh.detectors))) ∧
        (b = 1 → Answers (.zoneForce tag [a, b]) s .ok []
          (if z.state = .clear then quiet clear dets0
            else zoneChanged a.toNat z.state .clear (quiet clear dets0)))))

/-- R56: ZONE RESET, by the zone's state and by whether alarm is present: a record of the zone at ALARM, or its
untracked-alarm flag. -/
def Obligations.zone_reset : Prop :=
  ∀ (tag a : Byte) (s : State), Ready s →
    (s.ps.active = none → TurnedAway (.zoneReset tag [a]) s .noPlan) ∧
    (∀ p : Plan, s.ps.active = some p →
      (s.zh.zones.length ≤ a.toNat → TurnedAway (.zoneReset tag [a]) s .badValue) ∧
      (∀ z : ZoneRun, s.zh.zones[a.toNat]? = some z →
        let alarm : Prop := (∃ d ∈ s.zh.detectors, d.2.zone = a.toNat ∧ d.2.level = .alarm) ∨ z.untracked = true
        (z.state = .smoke → alarm → TurnedAway (.zoneReset tag [a]) s .refused) ∧
        (z.state = .smoke → ¬ alarm →
          let clearing : ZoneRun :=
            { z with state := .clearing, suspect := none, clearHold := some (timingTicks p.header.clearHold) }
          Answers (.zoneReset tag [a]) s .ok []
            (zoneChanged a.toNat .smoke .clearing
              { s with zh := { s.zh with zones := s.zh.zones.set a.toNat clearing } })) ∧
        (z.state ≠ .smoke → Answers (.zoneReset tag [a]) s .ok [] s)))

/-- R60 to R63, R102, R108: EVACUATE in every state, and STAND DOWN by the evacuation state and the zones. That EVAC_STATE
rises before NO_ROUTE in EVACUATE's one step is the model's choice (log entry 11). -/
def Obligations.evacuate_and_stand_down : Prop :=
  ∀ (tag : Byte) (s : State), Ready s →
    (s.zh.evac = .active →
      Answers (.evacuate tag []) s .ok [] { s with zh := { s.zh with declaration := true } }) ∧
    (s.zh.evac ≠ .active →
      Answers (.evacuate tag []) s .ok []
        (checkNoRoute (raise (.evacState s.zh.evac .active true .evacuate)
          { s with zh := { s.zh with
              declaration := true, evac := .active
              clock := { minutes := 0, seconds := 0, tenths := 0, running := true } } }))) ∧
    (s.zh.evac ≠ .active → Answers (.standDown tag []) s .ok [] s) ∧
    (s.zh.evac = .active → (∃ z ∈ s.zh.zones, z.state = .smoke) → TurnedAway (.standDown tag []) s .refused) ∧
    (s.zh.evac = .active → (∀ z ∈ s.zh.zones, z.state ≠ .smoke) →
      let new : EvacState :=
        if s.zh.zones.any fun z => decide (z.state = .suspect ∨ z.state = .clearing) then .alert else .quiet
      Answers (.standDown tag []) s .ok []
        (raise (.evacState .active new false .standDown)
          { s with
            zh := { s.zh with declaration := false, evac := new, clock := { s.zh.clock with running := false } }
            slc := { s.slc with signs := s.slc.signs.map fun g => { g with emphasis := none } } }))

/-- R54, R59, R62, R63: the consequences of a zone's change: a solve is wanted, ZONE_CHANGE rises, and the evacuation
state follows: ACTIVE stays, SMOKE makes the hall ACTIVE with its clock at 00:00.0, and any other change makes it ALERT
with a zone SUSPECT or CLEARING, and QUIET with none. R108: on that entry to ACTIVE NO_ROUTE rises when the published
set has a signed node of kind NONE, and at no other change of a zone. -/
def Obligations.zone_change_consequences : Prop :=
  (∀ (p : Plan) (set : HeadingSet), signedNone p set = (List.range p.header.nodeCount).filter fun u =>
    decide ((headingAt set u).choice = .none ∧ ∃ g ∈ p.signs, g.node = u)) ∧
  ∀ (zone : Nat) (prev new : ZoneState) (s : State),
    let t := zoneChanged zone prev new s
    t.rsv = { s.rsv with wanted := true, stale := if s.rsv.state = .solving then true else s.rsv.stale } ∧
    t.zh.zones = s.zh.zones ∧ t.zh.detectors = s.zh.detectors ∧ t.zh.take = s.zh.take ∧
    t.zh.declaration = s.zh.declaration ∧
    (s.zh.evac = .active → t.zh = s.zh) ∧
    (s.zh.evac ≠ .active → new = .smoke → t.zh.evac = .active ∧
      t.zh.clock = { minutes := 0, seconds := 0, tenths := 0, running := true }) ∧
    (s.zh.evac ≠ .active → new ≠ .smoke → t.zh.clock = s.zh.clock ∧
      t.zh.evac =
        if s.zh.zones.any fun z => decide (z.state = .suspect ∨ z.state = .clearing) then .alert else .quiet) ∧
    t.mp.kinds[NoticeKind.zoneChange.idx].flag = true ∧
    (s.mp.kinds[NoticeKind.zoneChange.idx].flag = false →
      t.mp.kinds[NoticeKind.zoneChange.idx].event =
        some { body := .zoneChange zone prev new, clock := s.zh.clock, seconds := s.tb.seconds }) ∧
    (t.zh.evac ≠ s.zh.evac → t.mp.kinds[NoticeKind.evacState.idx].flag = true ∧
      (s.mp.kinds[NoticeKind.evacState.idx].flag = false →
        t.mp.kinds[NoticeKind.evacState.idx].event =
          some { body := .evacState s.zh.evac t.zh.evac s.zh.declaration (.zone zone), clock := t.zh.clock,
                 seconds := s.tb.seconds })) ∧
    (∀ (p : Plan) (set : HeadingSet), s.ps.active = some p → s.rsv.published = some set → s.zh.evac ≠ .active →
      new = .smoke →
      (signedNone p set = [] → t.mp.kinds[NoticeKind.noRoute.idx] = s.mp.kinds[NoticeKind.noRoute.idx]) ∧
      (∀ (u : Nat) (rest : List Nat) (g : SignRec), signedNone p set = u :: rest →
        p.signs.find? (fun x => decide (x.node = u)) = some g →
        t.mp.kinds[NoticeKind.noRoute.idx].flag = true ∧
        (s.mp.kinds[NoticeKind.noRoute.idx].flag = false →
          t.mp.kinds[NoticeKind.noRoute.idx].event =
            some { body := .noRoute s.rsv.epoch (rest.length + 1) u g.address, clock := t.zh.clock,
                   seconds := s.tb.seconds }))) ∧
    (s.zh.evac = .active ∨ new ≠ .smoke ∨ s.ps.active = none ∨ s.rsv.published = none →
      t.mp.kinds[NoticeKind.noRoute.idx] = s.mp.kinds[NoticeKind.noRoute.idx]) ∧
    t.ps = s.ps ∧ t.di = s.di ∧ t.slc = s.slc ∧ t.pp = s.pp ∧ t.fc = s.fc ∧ t.tb = s.tb ∧ t.lines = s.lines ∧
    t.pending = s.pending ∧ t.phase = s.phase

/-- R47: a zone's four conditions, from the levels and consecutive alarm counts of its records and its untracked-alarm
flag. R49 to R53: what an evaluation makes of a zone, by its state, its conditions and the peak level, and what the
expiries of the suspect timer and the clear-hold timer do. -/
def Obligations.zone_evaluation : Prop :=
  ∀ (zone : Nat) (z : ZoneRun) (s : State), s.zh.zones[zone]? = some z →
    let c := conditions s.zh.detectors zone z
    let own : List DetectorRec := (s.zh.detectors.map (·.2)).filter fun r => decide (r.zone = zone)
    let count (level : Level) : Nat := own.countP fun r => decide (r.level = level)
    (c.alarm = true ↔ 1 ≤ count .alarm ∨ z.untracked = true) ∧
    (c.warning = true ↔ 1 ≤ count .prealarm + count .alarm) ∧
    (c.degraded = true ↔ 1 ≤ count .fault) ∧
    (c.confirmed = true ↔
      2 ≤ count .alarm ∨ (∃ r ∈ own, z.setting.confirmCount ≤ r.alarms) ∨
        (1 ≤ count .fault ∧ (1 ≤ count .alarm ∨ z.untracked = true)) ∨ z.untracked = true) ∧
    let put (new : ZoneRun) : State := { s with zh := { s.zh with zones := s.zh.zones.set zone new } }
    let smoke : ZoneRun := { z with state := .smoke, suspect := none, clearHold := none }
    let suspect : ZoneRun := { z with state := .suspect, suspect := some (suspectTicks s), clearHold := none }
    let clearing : ZoneRun := { z with state := .clearing, suspect := none, clearHold := some (clearHoldTicks s) }
    let clear : ZoneRun := { z with state := .clear, suspect := none, clearHold := none }
    (∀ peak : Level,
      let t := evaluateZone zone peak s
      let warns : Prop := peak = .prealarm ∨ peak = .alarm
      (z.state = .clear → ¬ warns → t = s) ∧
      (z.state = .clear → warns → c.confirmed = true → t = zoneChanged zone .clear .smoke (put smoke)) ∧
      (z.state = .clear → warns → c.confirmed = false → t = zoneChanged zone .clear .suspect (put suspect)) ∧
      (z.state = .suspect → c.confirmed = true → t = zoneChanged zone .suspect .smoke (put smoke)) ∧
      (z.state = .suspect → c.confirmed = false → t = s) ∧
      (z.state = .smoke → c.alarm = false → c.warning = false → z.setting.latch = false →
        t = zoneChanged zone .smoke .clearing (put clearing)) ∧
      (z.state = .smoke → c.alarm = true ∨ c.warning = true ∨ z.setting.latch = true → t = s) ∧
      (z.state = .clearing → c.alarm = true → t = zoneChanged zone .clearing .smoke (put smoke)) ∧
      (z.state = .clearing → c.alarm = false → warns → t = put { z with clearHold := some (clearHoldTicks s) }) ∧
      (z.state = .clearing → c.alarm = false → ¬ warns → t = s)) ∧
    (s.phase = .running → z.state = .suspect → z.suspect = some 0 →
      (c.warning = true →
        exec (.suspectTimerExpiry zone) s = .next (put { z with suspect := some (suspectTicks s) })) ∧
      (c.warning = false →
        exec (.suspectTimerExpiry zone) s = .next (zoneChanged zone .suspect .clear (put clear)))) ∧
    (s.phase = .running → z.state = .clearing → z.clearHold = some 0 →
      exec (.clearHoldTimerExpiry zone) s = .next (zoneChanged zone .clearing .clear (put clear)))

/-! ## Notices, faults, counters and outputs -/

/-- R173: NOTICE SETUP replaces a kind's enable and priority and the threshold and nothing else. R174: CLEAR FLAGS
clears each named flag and removes its queued notice. -/
def Obligations.notice_setup_and_clear_flags : Prop :=
  (∀ (tag k en pr th : Byte) (s : State), Ready s →
    let c : Instr := .noticeSetup tag [k, en, pr, th]
    (k.toNat = 0 ∨ 10 < k.toNat ∨ 1 < en.toNat → TurnedAway c s .badValue) ∧
    (∀ kind : NoticeKind, noticeKindOf k.toNat = some kind → en.toNat ≤ 1 →
      let priority := if 3 < pr.toNat then 3 else pr.toNat
      let threshold := if th.toNat = 0 then 1 else if 3 < th.toNat then 3 else th.toNat
      Answers c s (if 3 < pr.toNat ∨ th.toNat = 0 ∨ 3 < th.toNat then .clamped else .ok)
        [k, en, byte1 priority, byte1 threshold]
        { s with mp := { s.mp with
            threshold := threshold
            kinds := s.mp.kinds.set kind.idx
              ({ s.mp.kinds[kind.idx] with enable := decide (en.toNat = 1), priority := priority }) } })) ∧
  (∀ (tag n : Byte) (named : List Byte) (s : State), Ready s →
    let c : Instr := .clearFlags tag (n :: named)
    (named.length ≠ n.toNat → TurnedAway c s .badLength) ∧
    (named.length = n.toNat → (∃ b ∈ named, b.toNat = 0 ∨ 10 < b.toNat) → TurnedAway c s .badValue) ∧
    (named.length = n.toNat → (∀ b ∈ named, 1 ≤ b.toNat ∧ b.toNat ≤ 10) →
      ∃ (mp : MessagePort) (fields : List Byte), Answers c s .ok fields { s with mp := mp } ∧
        (∀ k : NoticeKind, mp.kinds[k.idx].enable = s.mp.kinds[k.idx].enable ∧
          mp.kinds[k.idx].priority = s.mp.kinds[k.idx].priority ∧
          fields[k.idx.val]? = some (if mp.kinds[k.idx].flag then 1 else 0) ∧
          ((∃ b ∈ named, b.toNat = k.idx.val + 1) → mp.kinds[k.idx].flag = false) ∧
          ((∀ b ∈ named, b.toNat ≠ k.idx.val + 1) → mp.kinds[k.idx] = s.mp.kinds[k.idx])) ∧
        fields.length = 10 ∧
        mp.notices = s.mp.notices.filter (fun x => !named.any fun b => decide (b.toNat = x.kind.idx.val + 1)) ∧
        mp.threshold = s.mp.threshold ∧ mp.transmitter = s.mp.transmitter ∧ mp.lastReset = s.mp.lastReset))

/-- R170, R171, R175, R176, R178: a flag's rise from clear records its event and queues its notice by enable, priority
and threshold, and while the flag is set it does nothing; a capture counts its tally and acts on the record by the table
of R176; a firing adds to the counters that select its input. -/
def Obligations.rises_captures_and_firings : Prop :=
  (∀ (body : NoticeBody) (s : State),
    let r := s.mp.kinds[body.kind.idx]
    let event : NoticeEvent := { body := body, clock := s.zh.clock, seconds := s.tb.seconds }
    let t := raise body s
    (r.flag = true → t = s) ∧
    (r.flag = false →
      t = { s with mp := { s.mp with kinds := t.mp.kinds, notices := t.mp.notices } } ∧
      t.mp.kinds[body.kind.idx] = { r with flag := true, event := some event } ∧
      (∀ k : NoticeKind, k ≠ body.kind → t.mp.kinds[k.idx] = s.mp.kinds[k.idx]) ∧
      (r.enable = false ∨ r.priority < s.mp.threshold → t.mp.notices = s.mp.notices) ∧
      (r.enable = true → s.mp.threshold ≤ r.priority →
        ∃ front back : List Notice,
          t.mp.notices = front ++ { kind := body.kind, priority := r.priority, event := event } :: back ∧
          s.mp.notices = front ++ back ∧ (∀ n ∈ front, r.priority ≤ n.priority) ∧
          (∀ n rest, back = n :: rest → n.priority < r.priority)))) ∧
  (∀ (k : FaultKind) (subject : Nat) (s : State),
    let t := capture k subject s
    let rec_ := s.fc.record
    let filled : FaultRecord := { kind := k, subject := subject, time := s.tb.seconds }
    let filling : Prop :=
      rec_ = none ∨ (faultClassOf k = .major ∧ ∃ r, rec_ = some r ∧ faultClassOf r.kind = .minor)
    t = { s with fc := t.fc, mp := t.mp } ∧
    t.fc = { s.fc with record := t.fc.record, multipleMinor := t.fc.multipleMinor,
                       multipleMajor := t.fc.multipleMajor, tallies := t.fc.tallies } ∧
    t.fc.tallies[k.idx] = min 255 (s.fc.tallies[k.idx] + 1) ∧
    (∀ j : FaultKind, j ≠ k → t.fc.tallies[j.idx] = s.fc.tallies[j.idx]) ∧
    (faultClassOf k = .minor → s.fc.ignoreMinor = true →
      t.fc.record = rec_ ∧ t.fc.multipleMinor = s.fc.multipleMinor ∧ t.fc.multipleMajor = s.fc.multipleMajor ∧
        t.mp = s.mp) ∧
    (faultClassOf k = .major ∨ s.fc.ignoreMinor = false →
      (filling → t.fc.record = some filled ∧ t.mp = (raise (.faultCaptured k subject) s).mp) ∧
      (¬ filling → t.fc.record = rec_ ∧ t.mp = s.mp) ∧
      (t.fc.multipleMinor = true ↔ s.fc.multipleMinor = true ∨ (∃ r, rec_ = some r ∧
        (faultClassOf r.kind = .minor ∨ faultClassOf k = .minor))) ∧
      (t.fc.multipleMajor = true ↔ s.fc.multipleMajor = true ∨ (∃ r, rec_ = some r ∧
        faultClassOf r.kind = .major ∧ faultClassOf k = .major)))) ∧
  (∀ (input : CounterInput) (n : Nat) (s : State),
    let t := fire input n s
    t = { s with fc := { s.fc with counters := t.fc.counters } } ∧
    ∀ i : Fin 2, t.fc.counters[i] =
      if s.fc.counters[i].input = input then
        { input := input, value := min 16777215 (s.fc.counters[i].value + n) }
      else s.fc.counters[i])

/-- R177 to R180, R188: FAULT CLEAR, COUNTER SETUP and OUTPUT SETUP with codes that name their values, with every byte
that they answer, and with one that does not; and what each signal and output is. The bytes of an invalid record's time
are free values of the model (log entry 12). -/
def Obligations.fault_counter_and_output_setup : Prop :=
  (∀ (tag : Byte) (s : State), Ready s →
    (∀ z i : Byte,
      let c : Instr := .faultClear tag [z, i]
      (1 < z.toNat ∨ 1 < i.toNat → TurnedAway c s .badValue) ∧
      (z.toNat ≤ 1 → i.toNat ≤ 1 →
        let tallies : Vector Nat 13 :=
          if z.toNat = 1 then #v[0, 0, 0, 0, 0, 0, 0, 0, 0, 0, 0, 0, 0] else s.fc.tallies
        Answers c s .ok
          ([0, 0xFF, 0xFF, 0xFF, 0xFF] ++ (List.range 4).map (fun k => Config.freeByte (s.free + k)) ++ [0, 0, i] ++
            tallies.toList.map byte1)
          { s with fc := { s.fc with
              record := none, multipleMinor := false, multipleMajor := false, ignoreMinor := decide (i.toNat = 1)
              tallies := tallies } })) ∧
    (∀ n i : Byte,
      let c : Instr := .counterSetup tag [n, i]
      (1 < n.toNat ∨ 11 < i.toNat → TurnedAway c s .badValue) ∧
      (∀ (k : Fin 2) (input : CounterInput), n.toNat = k.val → counterInputOf i.toNat = some input →
        Answers c s .ok [n, i, 0, 0, 0]
          { s with fc := { s.fc with counters := s.fc.counters.set k ({ input := input, value := 0 }) } })) ∧
    (∀ (n g given : Byte) (mask : List Byte), mask.length = 13 →
      let c : Instr := .outputSetup tag (n :: g :: given :: mask)
      (3 < n.toNat ∨ 11 < g.toNat ∨ 1 < given.toNat ∨ (given.toNat = 1 ∧ ∃ b ∈ mask, 1 < b.toNat) →
        TurnedAway c s .badValue) ∧
      (∀ (k : Fin 4) (sig : Signal), n.toNat = k.val → signalOf g.toNat = some sig →
        given.toNat = 0 ∨ (given.toNat = 1 ∧ ∀ b ∈ mask, b.toNat ≤ 1) →
        ∃ newMask : Vector Bool 13,
          let t : State := { s with fc := { s.fc with outputs := s.fc.outputs.set k sig, mask := newMask } }
          Answers c s .ok
            (t.fc.outputs.toList.map (fun x => byte1 (signalCode x)) ++
              newMask.toList.map (fun x => if x then 1 else 0) ++
              (List.finRange 4).map (fun x => if outputDriven t x then 1 else 0)) t ∧
          (given.toNat = 0 → newMask = s.fc.mask) ∧
          (given.toNat = 1 → ∀ j : Fin 13, newMask[j] = decide (mask[j.val]? = some 1))))) ∧
  (∀ s : State,
    (∀ n : Fin 4, outputDriven s n = true ↔ s.phase ≠ .off ∧ signalTrue s s.fc.outputs[n] = true) ∧
    signalTrue s .off = false ∧
    (signalTrue s .evacActive = true ↔ s.zh.evac = .active) ∧
    (signalTrue s .alertOrActive = true ↔ s.zh.evac = .alert ∨ s.zh.evac = .active) ∧
    (signalTrue s .anySmoke = true ↔ ∃ z ∈ s.zh.zones, z.state = .smoke) ∧
    (signalTrue s .noRoutePresent = true ↔ 0 < s.slc.noRouteCount) ∧
    (signalTrue s .signTrouble = true ↔ ∃ g ∈ s.slc.signs, g.state = .lost ∨ g.state = .faulty) ∧
    (signalTrue s .portalUnknown = true ↔ ∃ r ∈ s.pp.portals, r.advertisement = none) ∧
    (signalTrue s .faultPresent = true ↔ ∃ r, s.fc.record = some r ∧ s.fc.mask[r.kind.idx] = false) ∧
    (signalTrue s .detectorNotLocked = true ↔ s.di.lock = .silent ∨ s.di.lock = .seeking) ∧
    (signalTrue s .planAbsent = true ↔ s.ps.active = none) ∧
    (signalTrue s .solving = true ↔ s.rsv.state = .solving) ∧
    (signalTrue s .noticePending = true ↔ s.mp.notices ≠ [] ∨
      ∃ k : Fin 10, s.mp.kinds[k].flag = true ∧ s.mp.kinds[k].enable = true))

/-- R176: a valid fault record that holds a major fault is changed by no step that does not run FAULT CLEAR, a reset
or a loss of supply. The commands left out are those and the receipt of characters on the message port, which may
bring a FAULT CLEAR; no request waits in hand. The requests by command are the model's (log entry 4). -/
def Obligations.major_fault_is_kept : Prop :=
  ∀ (s t : State) (r : FaultRecord), s.fc.record = some r → faultClassOf r.kind = .major → s.mp.hand = none →
    (∀ c rest, s.pending = c :: rest →
      c ∉ [.powerOn, .resetLine, .resetLineAsserted, .powerLoss] ∧
      (∀ chars, c ≠ .messageFrameReceived chars) ∧ (∀ q, requestOf c = some q → q.kind ≠ 0x17)) →
    step s = .next t → t.fc.record = some r

/-! ## Groups and faces -/

/-- R104: GROUP SET replaces a group's whole record, its level clamped, and nothing else, and answers it as stored. R106,
R107: a group that is not enabled, or is NORMAL in ACTIVE, leaves a face alone, and a field that no applying group masks
is the base face's. R98: the base face by heading and evacuation state. That the flash of a base arrow in ACTIVE which
no group replaced is settled when its frame is built is the model's choice (log entry 24). -/
def Obligations.group_set_and_faces : Prop :=
  (∀ (tag n en cl ms mf ml sym dir fl level : Byte) (s : State), Ready s →
    let c : Instr := .groupSet tag [n, en, cl, ms, mf, ml, sym, dir, fl, level]
    (15 < n.toNat ∨ 1 < en.toNat ∨ 1 < cl.toNat ∨ 1 < ms.toNat ∨ 1 < mf.toNat ∨ 1 < ml.toNat ∨ 4 < sym.toNat ∨
        2 < fl.toNat ∨ (sym.toNat = 0 ∧ 7 < dir.toNat) → TurnedAway c s .badValue) ∧
    (∀ (k : Fin 16) (g : GroupRec), n.toNat = k.val → strictFlagOf en.toNat = some g.enabled →
      groupClassOf cl.toNat = some g.cls → strictFlagOf ms.toNat = some g.maskSymbol →
      strictFlagOf mf.toNat = some g.maskFlash → strictFlagOf ml.toNat = some g.maskLevel →
      symbolOf sym.toNat dir.toNat = some g.face.symbol → flashOf fl.toNat = some g.face.flash →
      g.face.level = (if 15 < level.toNat then 15 else level.toNat) →
      Answers c s (if 15 < level.toNat then .clamped else .ok)
        [n, en, cl, ms, mf, ml, sym, if sym = 0 then dir else 0xFF, fl, byte1 g.face.level]
        { s with slc := { s.slc with groups := s.slc.groups.set k g } })) ∧
  (∀ (h : Header) (table : Vector GroupRec 16) (evac : EvacState) (ticks : Nat) (set : HeadingSet) (x : SignRec)
      (g : SignRun),
    let base := baseSymbol x.map (headingAt set g.node).choice evac
    let new := composeSign h table evac ticks set x g
    let face := baseFace h evac base new.emphasis
    let applies (k : Fin 16) : Prop :=
      k.val ∈ x.groups ∧ table[k].enabled = true ∧ ¬ (table[k].cls = .normal ∧ evac = .active)
    new = { g with composed := new.composed, flashOpen := new.flashOpen, emphasis := new.emphasis,
                   lastBase := some base } ∧
    (new.flashOpen = true ↔ evac = .active ∧ (∃ d, base = .arrow d) ∧ ∀ k, applies k → table[k].maskFlash = false) ∧
    (∃ f : Face, new.composed = some f ∧
      ((∀ k, applies k → table[k].maskSymbol = false) → f.symbol = face.symbol) ∧
      ((∀ k, applies k → table[k].maskFlash = false) → f.flash = face.flash) ∧
      ((∀ k, applies k → table[k].maskLevel = false) → f.level = face.level) ∧
      (∀ k, applies k → table[k].maskSymbol = true → (∀ j, applies j → k < j → table[j].maskSymbol = false) →
        f.symbol = table[k].face.symbol) ∧
      (∀ k, applies k → table[k].maskFlash = true → (∀ j, applies j → k < j → table[j].maskFlash = false) →
        f.flash = table[k].face.flash) ∧
      (∀ k, applies k → table[k].maskLevel = true → (∀ j, applies j → k < j → table[j].maskLevel = false) →
        f.level = table[k].face.level)) ∧
    new.emphasis = (if evac = .active ∧ g.lastBase ≠ none ∧ g.lastBase ≠ some base then some ticks else g.emphasis)) ∧
  (∀ (h : Header) (evac : EvacState) (map : List (Nat × Nat)) (k d o hop : Nat) (timer : Timer),
    (mapDirection map k = some d →
      baseSymbol map (.link k o hop) evac = .arrow d) ∧
    baseSymbol map (.seed o hop) evac = .exitHere ∧
    baseSymbol map .none evac = (if evac = .quiet then .blank else .noRoute) ∧
    baseFace h .quiet (.arrow d) timer = { symbol := .arrow d, flash := .steady, level := h.quietLevel } ∧
    baseFace h .alert (.arrow d) timer = { symbol := .arrow d, flash := .steady, level := h.alertLevel } ∧
    baseFace h .active (.arrow d) timer =
      { symbol := .arrow d, flash := if timer = none then .slow else .fast, level := h.activeLevel } ∧
    baseFace h .quiet .exitHere timer = { symbol := .exitHere, flash := .steady, level := h.quietLevel } ∧
    baseFace h .alert .exitHere timer = { symbol := .exitHere, flash := .steady, level := h.alertLevel } ∧
    baseFace h .active .exitHere timer = { symbol := .exitHere, flash := .slow, level := h.activeLevel } ∧
    baseFace h evac .blank timer = { symbol := .blank, flash := .steady, level := 0 } ∧
    baseFace h .alert .noRoute timer = { symbol := .noRoute, flash := .fast, level := h.alertLevel } ∧
    baseFace h .active .noRoute timer = { symbol := .noRoute, flash := .fast, level := h.activeLevel })

/-! ## Lines and RESTART -/

/-- R163, R164, R31, R32: LINE SETUP in the order of its tests, with each of its bodies. What the reply to line 0
shows is the model's choice (log entry 15). -/
def Obligations.line_setup : Prop :=
  ∀ (tag line : Byte) (s : State), Ready s →
    (∀ s1 s2 s3 par stop : Byte,
      let c : Instr := .lineSetup tag [line, s1, s2, s3, par, stop]
      (12 < line.toNat → TurnedAway c s .badValue) ∧
      (5 ≤ line.toNat → line.toNat ≤ 12 → TurnedAway c s .badLength) ∧
      (line.toNat ≤ 4 → num3 s1 s2 s3 ∉ [1200, 2400, 4800, 9600, 19200, 38400, 57600, 115200] ∨ 3 < par.toNat ∨
        (stop.toNat ≠ 1 ∧ stop.toNat ≠ 2) → TurnedAway c s .badValue) ∧
      (∀ parity : Parity, num3 s1 s2 s3 ∈ [1200, 2400, 4800, 9600, 19200, 38400, 57600, 115200] →
        parityOf par.toNat = some parity → stop.toNat = 1 ∨ stop.toNat = 2 →
        (line.toNat = 0 → Answers c s .ok
          ([0] ++ byte3 s.lines.message.format.speed ++
            [byte1 (parityCode s.lines.message.format.parity), byte1 s.lines.message.format.stop])
          { s with mp := { s.mp with deferred := .formatAfterReply (num3 s1 s2 s3) parity stop.toNat } }) ∧
        (∀ id : LineId, id ≠ .message → line.toNat = lineNumber id →
          (s.mark id = .running → TurnedAway c s .busy) ∧
          (s.mark id = .halted →
            let new : LineRec :=
              { lineGet s.lines id with
                format := { speed := num3 s1 s2 s3, parity := parity, stop := stop.toNat } }
            Answers c s .ok [line, s1, s2, s3, par, stop] { s with lines := lineSet s.lines id new })))) ∧
    (∀ mode a1 a2 : Byte,
      let c : Instr := .lineSetup tag [line, mode, a1, a2]
      (12 < line.toNat → TurnedAway c s .badValue) ∧
      (line.toNat ≤ 4 → TurnedAway c s .badLength) ∧
      (5 ≤ line.toNat → line.toNat ≤ 12 → 3 < mode.toNat ∨ 1023 < num2 a1 a2 → TurnedAway c s .badValue) ∧
      (∀ (n : Fin 8) (m : ContactMode), line.toNat = 5 + n.val → contactModeOf mode.toNat = some m →
        num2 a1 a2 ≤ 1023 →
        let channel : Channel :=
          { mode := m, address := num2 a1 a2, candidate := .absent, width := none
            accepted := match m with
              | .off => none
              | .levelOpenAlarm => some .closed
              | .levelClosedAlarm => some .opened
              | .pulse => some .opened }
        Answers c s .ok [line, mode, a1, a2]
          { s with di := { s.di with channels := s.di.channels.set n channel } })) ∧
    (∀ fields : List Byte, fields.length ≠ 5 → fields.length ≠ 3 →
      TurnedAway (.lineSetup tag (line :: fields)) s .badLength)

/-- R28, R30, R130, R131, R140, R142, R165 to R167: LINE HALT and LINE RUN of a line in the mark it has already and in
the other, with the notices of a line's change of state and the solve that a change of seed data wants, and when RESTART
is refused, busy and accepted. What becomes of the exchange in progress at a halt, the order of the rises in one step,
and one PORTAL_CHANGE for all portals of a port are the model's choices (log entries 20, 11, 30). -/
def Obligations.line_halt_run_and_restart : Prop :=
  ∀ (tag line : Byte) (s : State), Ready s →
    (line = 0 ∨ 4 < line.toNat →
      TurnedAway (.lineHalt tag [line]) s .badValue ∧ TurnedAway (.lineRun tag [line]) s .badValue) ∧
    (∀ id : LineId, id ≠ .message → line.toNat = lineNumber id →
      (s.mark id = .halted → Answers (.lineHalt tag [line]) s .ok [line, 1] s) ∧
      (s.mark id = .running → Answers (.lineRun tag [line]) s .ok [line, 0] s)) ∧
    (line = 1 → s.mark .detector = .running → ∃ t, Answers (.lineHalt tag [line]) s .ok [line, 1] t ∧
      t.lines = { s.lines with detector := { s.lines.detector with mark := .halted, rx := [] } } ∧
      t.di = { s.di with lock := .silent, validRun := 0, invalidRun := 0, silence := none } ∧
      t.zh = s.zh ∧ t.rsv = s.rsv ∧ t.slc = s.slc ∧ t.pp = s.pp ∧ t.ps = s.ps ∧
      (let told := if s.di.lock = .silent then s else raise (.lineState 1 (.lock .silent) s.di.panel) s
      (s.di.lock ≠ .locked → t.fc = s.fc ∧ t.mp = told.mp) ∧
      (s.di.lock = .locked →
        t.fc = (capture .detectorLineLost 1 s).fc ∧ t.mp = (capture .detectorLineLost 1 told).mp))) ∧
    (line = 2 → s.mark .sign = .running → s.zh.evac = .active → TurnedAway (.lineHalt tag [line]) s .refused) ∧
    (line = 2 → s.mark .sign = .running → s.zh.evac ≠ .active →
      Answers (.lineHalt tag [line]) s .ok [line, 1]
        { s with
          slc := { s.slc with startPending := false, cutPending := false, startWaiting := false
                              order := s.slc.order.take (s.slc.position + 1) }
          lines := { s.lines with sign := { s.lines.sign with mark := .halted } } }) ∧
    (∀ port : PeerPort, line.toNat = portNumber port → s.mark (portLine port) = .running →
      ∃ t, Answers (.lineHalt tag [line]) s .ok [line, 1] t ∧
        (portGet t.pp port).state = .down ∧ (portGet t.pp port).age = none ∧
        (portGet t.pp port).advertise = none ∧ (portGet t.pp port).spacing = none ∧
        (portGet t.pp port).sendPending = false ∧ (portGet t.pp port).sending = none ∧
        (lineGet t.lines (portLine port)).mark = .halted ∧
        (∀ (p : Plan) (r : PortalRun), s.ps.active = some p → r ∈ t.pp.portals → onPort p r.exit port = true →
          r.advertisement = none) ∧
        t.zh = s.zh ∧ t.di = s.di ∧ t.slc = s.slc ∧ t.ps = s.ps ∧
        (portInUse s port = true → (portGet s.pp port).state ≠ .down →
          t.fc = (capture .peerDown (portNumber port) s).fc) ∧
        (portInUse s port = false ∨ (portGet s.pp port).state = .down → t.fc = s.fc) ∧
        (∀ p : Plan, s.ps.active = some p →
          let seeds (x : State) := x.pp.portals.map fun r => r.advertisement.map fun a => (a.cost, a.hop)
          let old := (portGet s.pp port).state
          let lost := if portInUse s port = true ∧ old ≠ .down then capture .peerDown (portNumber port) s else s
          let told := if old = .down then lost else raise (.lineState (portNumber port) (.port .down) none) lost
          let first := ((s.pp.portals.zip t.pp.portals).find? fun x =>
            decide (x.1.advertisement ≠ x.2.advertisement)).map (·.1.exit)
          (seeds s ≠ seeds t → t.rsv =
            { s.rsv with wanted := true, stale := if s.rsv.state = .solving then true else s.rsv.stale }) ∧
          (seeds s = seeds t → t.rsv = s.rsv) ∧
          (old = .up ∨ first ≠ none → t.mp = (raise (.portalChange port .down 0 first) told).mp) ∧
          (old ≠ .up → first = none → t.mp = told.mp)) ∧
        (s.ps.active = none → (portGet s.pp port).state = .down → t.rsv = s.rsv ∧ t.mp = s.mp)) ∧
    (line = 1 → s.mark .detector = .halted → Answers (.lineRun tag [line]) s .ok [line, 0]
      { s with lines := { s.lines with
          detector := { s.lines.detector with mark := .running, inUse := s.lines.detector.format, rx := [] } } }) ∧
    (line = 2 → s.mark .sign = .halted → s.slc.exchange = none →
      let s1 : State :=
        { s with lines := { s.lines with
            sign := { s.lines.sign with mark := .running, inUse := s.lines.sign.format, rx := [] } } }
      Answers (.lineRun tag [line]) s .ok [line, 0]
        (if s.slc.cycle = .idle then cycleStart { s1 with slc := { s.slc with refresh := refreshSetting s } }
          else s1)) ∧
    (∀ port : PeerPort, line.toNat = portNumber port → s.mark (portLine port) = .halted →
      let old := lineGet s.lines (portLine port)
      let s1 : State :=
        { s with lines := lineSet s.lines (portLine port) ({ old with mark := .running, inUse := old.format, rx := [] }) }
      Answers (.lineRun tag [line]) s .ok [line, 0]
        (if portInUse s port then
          sendTrigger port (s1.onPort port fun r => { r with advertise := some (advertiseTicks s) }) else s1)) ∧
    (s.zh.evac = .active → TurnedAway (.restart tag []) s .refused) ∧
    (s.zh.evac ≠ .active → s.ps.storing = true → TurnedAway (.restart tag []) s .busy) ∧
    (s.zh.evac ≠ .active → s.ps.storing = false →
      Answers (.restart tag []) s .ok [] { s with mp := { s.mp with deferred := .restartAfterReply } })

/-! ## The Route Solver -/

/-- R67: extending a cost: both values saturate, UNREACHABLE stays, an extended cost is never lower, and seed costs
saturate the same way. R72, R73: the seed of a DOOR exit by its state, and of a PORTAL exit by its state and its
advertisement as both stand in the snapshot, with the hop limit (R149); and which exit's seed a node has (R74). -/
def Obligations.cost_extension : Prop :=
  (∀ (c : Cost) (arc : Arc), c.x ≤ 65535 → c.d ≤ 65534 →
    let e := extend c arc
    e = { x := if c.x + arc.e < 65535 then c.x + arc.e else 65535
          d := if c.d + arc.le < 65534 then c.d + arc.le else 65534 } ∧
    costLt e c = false ∧ c.x ≤ e.x ∧
    (1 ≤ arc.le → e.x = c.x → c.d < 65534 → c.d + 1 ≤ e.d) ∧
    (arc.e = 0 → c.d = 65534 → e = c)) ∧
  (∀ arc : Arc, extend { x := 65535, d := 65535 } arc = { x := 65535, d := 65535 }) ∧
  (∀ (arc : Arc) (to_ from_ : Nat) (nodes : List NodeWork),
    costLt (extend (workAt nodes from_).cost arc) (workAt nodes to_).cost = false →
    relaxTry arc to_ from_ nodes = nodes) ∧
  (∀ (h : Header) (e : ExitRec),
    doorSeed h e .opened = some { x := 0, d := e.bias } ∧
    doorSeed h e .restricted =
      some { x := 0, d := if e.bias + h.surcharge < 65534 then e.bias + h.surcharge else 65534 } ∧
    doorSeed h e .closed = none ∧
    (e.bias ≤ 4095 → h.surcharge ≤ 4095 → ∀ st c, doorSeed h e st = some c → c.d ≤ 8190)) ∧
  (∀ (h : Header) (f : PortalFields),
    (∀ st : ExitState, portalSeed h f st none = none) ∧
    ∀ a : Advertisement,
      portalSeed h f .closed (some a) = none ∧
      (3 ≤ a.hop ∨ 65535 ≤ a.cost.d → ∀ st : ExitState, portalSeed h f st (some a) = none) ∧
      (a.hop ≤ 2 → a.cost.d < 65535 →
        portalSeed h f .opened (some a) =
          some ({ x := a.cost.x
                  d := if a.cost.d + f.crossing < 65534 then a.cost.d + f.crossing else 65534 }, a.hop + 1) ∧
        portalSeed h f .restricted (some a) =
          some ({ x := a.cost.x
                  d := if a.cost.d + f.crossing + h.surcharge < 65534 then a.cost.d + f.crossing + h.surcharge
                       else 65534 }, a.hop + 1))) ∧
  (∀ s : State, takeSnapshot s =
    { weights := s.zh.zones.map zoneWeight, exits := s.rsv.exits
      portals := s.pp.portals.map fun r => (r.exit, r.advertisement) }) ∧
  (∀ (p : Plan) (snap : Snapshot) (i : Nat) (e : ExitRec) (st : ExitState),
    p.exits[i]? = some e → snap.exits[i]? = some st →
    let seed := exitSeed p snap.exits snap.portals i
    (e.portal = none → seed = (doorSeed p.header e st).map fun c => { exit := i, cost := c, hop := 0 }) ∧
    (∀ (f : PortalFields) (adv : Option Advertisement), e.portal = some f →
      snap.portals.find? (fun r => decide (r.1 = i)) = some (i, adv) →
      seed = (portalSeed p.header f st adv).map fun c => { exit := i, cost := c.1, hop := c.2 }) ∧
    (∀ sd : Seed, seed = some sd → sd.exit = i ∧ sd.hop ≤ 3) ∧
    ((∀ (j : Nat) (d : ExitRec), p.exits[j]? = some d → d.node = e.node → j = i) →
      nodeSeed p snap e.node = seed)) ∧
  (∀ (p : Plan) (snap : Snapshot) (u : Nat), (∀ e ∈ p.exits, e.node ≠ u) → nodeSeed p snap u = none)

/-- R68, R69: arc costs by length, width class and zone weight, the weight following the zone's state. R79, R80: a pass
visits the links in order, toward A and then toward B, and a try takes a strictly lower candidate with its origin and
hop, and nothing else. R81: no node's cost rises, a solve that is not limited ends where a further pass changes nothing
and no link offers a lower candidate, passes are made one after another until one changes nothing, which is counted, and
a solve is allowed as many as the active plan has nodes. R89 to R94: the heading record of every node, from its seed and
its arcs by the strict-descent guard: NONE without a candidate, the best candidate, or the previous heading's link
within the margin; its cost, origin, hop and changed mark. -/
def Obligations.arc_costs_and_relaxation : Prop :=
  (∀ (weights : List Nat) (l : LinkRec),
    (arcCost weights l).e = l.len * weights.getD l.zone 0 ∧
    (l.width = 0 → (arcCost weights l).le = l.len) ∧
    (l.width = 1 → 4 * (arcCost weights l).le ≥ 5 * l.len ∧ 4 * (arcCost weights l).le < 5 * l.len + 4) ∧
    (l.width = 2 → 2 * (arcCost weights l).le ≥ 3 * l.len ∧ 2 * (arcCost weights l).le < 3 * l.len + 2) ∧
    (l.width = 3 → (arcCost weights l).le = 2 * l.len)) ∧
  (∀ z : ZoneRun,
    (z.state = .clear → zoneWeight z = 0) ∧
    (z.state = .suspect ∨ z.state = .clearing → zoneWeight z = z.setting.suspectWeight) ∧
    (z.state = .smoke → zoneWeight z = z.setting.smokeWeight)) ∧
  (∀ (weights : List Nat) (nodes : List NodeWork), relaxPass weights [] nodes = nodes ∧
    ∀ (l : LinkRec) (rest : List LinkRec),
      let arc := arcCost weights l
      let towardA := if l.passage = .bToA then nodes else relaxTry arc l.a l.b nodes
      let towardB := if l.passage = .aToB then towardA else relaxTry arc l.b l.a towardA
      relaxPass weights (l :: rest) nodes = relaxPass weights rest towardB) ∧
  (∀ (arc : Arc) (to_ from_ : Nat) (nodes : List NodeWork), to_ < nodes.length →
    let far := workAt nodes from_
    let near := workAt nodes to_
    let candidate := extend far.cost arc
    let lower : Prop := candidate.x < near.cost.x ∨ (candidate.x = near.cost.x ∧ candidate.d < near.cost.d)
    let t := relaxTry arc to_ from_ nodes
    (lower → workAt t to_ = { cost := candidate, route := far.route }) ∧ (¬ lower → t = nodes) ∧
    t.length = nodes.length ∧ ∀ u : Nat, u ≠ to_ → workAt t u = workAt nodes u) ∧
  (∀ (weights : List Nat) (links : List LinkRec) (left made : Nat) (nodes : List NodeWork),
    let r := relax weights links left made nodes
    r.nodes.length = nodes.length ∧ r.passes ≤ made + left ∧
    (∀ u : Nat, costLt (workAt nodes u).cost (workAt r.nodes u).cost = false) ∧
    (r.limited = false → relaxPass weights links r.nodes = r.nodes ∧
      ∀ l ∈ links, l.a < nodes.length → l.b < nodes.length →
        let costA := (workAt r.nodes l.a).cost
        let costB := (workAt r.nodes l.b).cost
        (l.passage ≠ .bToA → costLt (extend costB (arcCost weights l)) costA = false) ∧
        (l.passage ≠ .aToB → costLt (extend costA (arcCost weights l)) costB = false)) ∧
    (r.limited = true → r.passes = made + left) ∧
    (left = 0 → r = { nodes := nodes, passes := made, limited := true }) ∧
    (∀ fewer : Nat, left = fewer + 1 →
      let next := relaxPass weights links nodes
      (next = nodes → r = { nodes := nodes, passes := made + 1, limited := false }) ∧
      (next ≠ nodes → r = relax weights links fewer (made + 1) next))) ∧
  (∀ (p : Plan) (snap : Snapshot) (nodes : List NodeWork) (prev : Option HeadingSet),
    let r := solveResult p snap nodes prev
    r.1 = relax snap.weights p.links p.header.nodeCount 0 nodes ∧ r.1.passes ≤ p.header.nodeCount ∧
    (r.1.limited = true → r.1.passes = p.header.nodeCount) ∧
    r.2.records = selectHeadings p snap r.1.nodes prev) ∧
  (∀ (p : Plan) (snap : Snapshot) (nodes : List NodeWork) (prev : Option HeadingSet),
    let set : HeadingSet := { records := selectHeadings p snap nodes prev, seeds := [] }
    set.records.length = nodes.length ∧
    ∀ u : Nat, u < nodes.length →
      let own := (workAt nodes u).cost
      let seed := nodeSeed p snap u
      let before : Choice := match prev with
        | some old => (headingAt old u).choice
        | none => .none
      let wasLink (k : Nat) : Bool := match before with
        | .link j _ _ => decide (j = k)
        | _ => false
      let wasSeed : Bool := match before with
        | .seed _ _ => true
        | _ => false
      let arc (k : Nat) (c : Cost) (route : Nat × Nat) : Prop :=
        ∃ l v, p.links[k]? = some l ∧ farNode l u = some v ∧ costLt (workAt nodes v).cost own = true ∧
          routeOf (headingAt set v).choice = some route ∧ c = extend (workAt nodes v).cost (arcCost snap.weights l)
      let best (c : Cost) : Prop :=
        ((∃ sd, seed = some sd ∧ sd.cost = c) ∨ ∃ k route, arc k c route) ∧
        (∀ sd, seed = some sd → costLt sd.cost c = false) ∧ ∀ k d route, arc k d route → costLt d c = false
      let none_ : Heading := { cost := unreachable, choice := .none, changed := decide (before ≠ .none) }
      (own = unreachable ∨ (seed = none ∧ ∀ k c route, ¬ arc k c route) → headingAt set u = none_) ∧
      (own ≠ unreachable → ∀ b : Cost, best b →
        let holds (k : Nat) (route : Nat × Nat) : Prop :=
          wasLink k = true ∧ ∃ c : Cost, arc k c route ∧ c.x = b.x ∧ c.d ≤ b.d + p.header.margin
        (∀ k route, holds k route →
          headingAt set u = { cost := own, choice := .link k route.1 route.2, changed := false }) ∧
        ((∀ k route, ¬ holds k route) →
          (∀ sd, seed = some sd → sd.cost = b →
            headingAt set u = { cost := own, choice := .seed sd.exit sd.hop, changed := !wasSeed }) ∧
          ((∀ sd, seed = some sd → sd.cost ≠ b) → ∀ k route, arc k b route →
            (∀ j other, j < k → ¬ arc j b other) →
            headingAt set u = { cost := own, choice := .link k route.1 route.2, changed := !wasLink k }))) ∧
      ((headingAt set u).choice = .none ↔ (headingAt set u).cost = unreachable))

/-- R77, R74: a solve starts with the snapshot and the seeded node table. R83 to R86, R144: it ends with its set
published under the next epoch and in that one act, when one is wanted, the next solve starts; the counters fire, the
notices rise, each port in use sends an ADVERT of the new set, and the Sign Line Controller is told; or, with an
activation pending, it is discarded and the swap is made. A publication in DORMANT with a frame of the former plan still
on the line ends DORMANT, and the first cycle waits for that frame's end (R128, log entry 21), the refresh timer being
restarted at the publication (log entry 48). That a solve's work is done in the command of its end, what the snapshot
and the pass count hold once no solve runs, and that ROUTE_PUBLISHED rises before NO_ROUTE in that one step, are the
model's choices (log entries 37, 42, 11). -/
def Obligations.solve_start_and_end : Prop :=
  (∀ (s : State) (p : Plan), s.phase = .running → s.ps.active = some p → s.rsv.state = .idle → s.rsv.wanted = true →
    let snap : Snapshot :=
      { weights := s.zh.zones.map zoneWeight, exits := s.rsv.exits
        portals := s.pp.portals.map fun r => (r.exit, r.advertisement) }
    ∃ nodes : List NodeWork,
      exec .solveStart s =
        .next { s with rsv := { s.rsv with
            state := .solving, wanted := false, stale := false, passes := 0, snapshot := some snap
            nodes := nodes } } ∧
      nodes.length = p.header.nodeCount ∧
      (∀ (u : Nat) (sd : Seed), u < p.header.nodeCount → nodeSeed p snap u = some sd →
        nodes[u]? = some { cost := sd.cost, route := some (sd.exit, sd.hop) }) ∧
      (∀ u : Nat, u < p.header.nodeCount → nodeSeed p snap u = none →
        nodes[u]? = some { cost := unreachable, route := none })) ∧
  (∀ (s : State) (p : Plan) (snap : Snapshot), s.phase = .running → s.ps.active = some p → s.rsv.state = .solving →
    s.rsv.snapshot = some snap → s.rsv.activationPending = false →
    let r := solveResult p snap s.rsv.nodes s.rsv.published
    let epoch := (s.rsv.epoch + 1) % 65536
    let changed := (r.2.records.filter (·.changed)).length
    let nones := (r.2.records.filter fun h => decide (h.choice = .none)).length
    let noticed := raise (.routePublished epoch r.1.passes r.1.limited s.rsv.stale changed nones) s
    ∃ t : State, exec .solveEnd s = exec .solveStart t ∧ (s.rsv.wanted = false → exec .solveEnd s = .next t) ∧
      t.phase = .running ∧ t.rsv = { s.rsv with
        state := .idle, snapshot := none, nodes := r.1.nodes, passes := r.1.passes, published := some r.2
        epoch := epoch
        report := some { passes := r.1.passes, limited := r.1.limited } } ∧
      r.2.records.length = r.1.nodes.length ∧
      t.fc = (fire .headingChange changed
        (if s.rsv.stale then fire .solveStale 1 (fire .solveDone 1 s) else fire .solveDone 1 s)).fc ∧
      t.mp.kinds[NoticeKind.routePublished.idx].flag = true ∧
      (s.zh.evac ≠ .active ∨ signedNone p r.2 = [] → t.mp = noticed.mp) ∧
      (∀ n rest, s.zh.evac = .active → signedNone p r.2 = n :: rest → ∃ address : Nat,
        t.mp = (raise (.noRoute epoch (rest.length + 1) n address) noticed).mp ∧
        ∀ g : SignRec, p.signs.find? (fun x => decide (x.node = n)) = some g → address = g.address) ∧
      (∀ port : PeerPort,
        let x := portGet s.pp port
        let used : Prop := expectedId p.header port ≠ 0 ∧ s.mark (portLine port) = .running
        (¬ used → portGet t.pp port = x) ∧
        (used → x.spacing = none → x.sending = none → portGet t.pp port =
          { x with sending := some { frame := buildAdvert p (some r.2) port x.state, former := false } }) ∧
        (used → x.spacing ≠ none ∨ x.sending ≠ none → portGet t.pp port = { x with sendPending := true })) ∧
      t.pp.portals = s.pp.portals ∧
      t.zh = s.zh ∧ t.ps = s.ps ∧ t.di = s.di ∧ t.tb = s.tb ∧ t.lines = s.lines ∧
      t.fc.record = s.fc.record ∧ t.fc.tallies = s.fc.tallies ∧
      (s.slc.cycle = .dormant → s.mark .sign = .running → s.slc.exchange = none →
        t.slc.adopted = some { set := r.2, epoch := epoch } ∧ t.slc.refresh = refreshSetting s) ∧
      (s.slc.cycle = .dormant → s.mark .sign = .running → s.slc.exchange ≠ none →
        t.slc = { s.slc with cycle := .idle, refresh := refreshSetting s, startWaiting := true }) ∧
      (s.slc.cycle = .dormant → s.mark .sign = .halted → t.slc = { s.slc with cycle := .idle }) ∧
      (s.slc.cycle = .cycling → s.zh.evac = .active → s.mark .sign = .running →
        t.slc = { s.slc with cutPending := true }) ∧
      (s.slc.cycle = .idle ∨ (s.slc.cycle = .cycling ∧ (s.zh.evac ≠ .active ∨ s.mark .sign = .halted)) → t.slc = s.slc)) ∧
  (∀ (s : State) (p q : Plan) (snap : Snapshot), s.phase = .running → s.ps.active = some p →
    s.rsv.state = .solving → s.rsv.snapshot = some snap → s.rsv.activationPending = true →
    stagedPlan s.ps.staging = some q →
    exec .solveEnd s = .next (swapTo q { s with rsv := { s.rsv with state := .idle, snapshot := none } }))

/-! ## The Sign Line Controller -/

/-- R113, R116, R117, R118, R124, R125: the refresh timer's expiry by the table of R113, and what a cycle start does: the
cycle number, the adopted set and groups, the order (every removal first, then the changed signs and then the others,
each in table order, with every placed sign once), the frame of the order's first entry, and, with no plan, the FALLBACK
frame. A start that waits for a frame still on the line is the model's choice (log entry 21). -/
def Obligations.refresh_and_cycle_start : Prop :=
  (∀ s : State, s.phase = .running → s.slc.refresh = some 0 →
    let s1 : State := { s with slc := { s.slc with refresh := refreshSetting s } }
    (s.slc.cycle = .dormant ∨ (s.slc.cycle = .idle ∧ s.mark .sign = .halted) →
      exec .refreshTimerExpiry s = .next s1) ∧
    (s.slc.cycle = .idle → s.mark .sign = .running → s.slc.exchange = none →
      exec .refreshTimerExpiry s = .next (cycleStart s1)) ∧
    (s.slc.cycle = .idle → s.mark .sign = .running → s.slc.exchange ≠ none →
      exec .refreshTimerExpiry s = .next { s1 with slc := { s1.slc with startWaiting := true } }) ∧
    (s.slc.cycle = .cycling →
      exec .refreshTimerExpiry s = .next { s1 with slc := { s1.slc with startPending := true } })) ∧
  (∀ (s : State) (p : Plan) (set : HeadingSet), s.ps.active = some p → s.rsv.published = some set →
    s.slc.exchange = none →
    let t := cycleStart s
    t = { s with slc := t.slc } ∧
    t.slc.number = (s.slc.number + 1) % 8 ∧ t.slc.adopted = some { set := set, epoch := s.rsv.epoch } ∧
    t.slc.adoptedGroups = some s.slc.groups ∧ t.slc.cycleEvac = s.zh.evac ∧
    t.slc.noRouteCount = (signedNone p set).length ∧ t.slc.startPending = false ∧ t.slc.cutPending = false ∧
    t.slc.removal = s.slc.removal ∧ t.slc.groups = s.slc.groups ∧ t.slc.refresh = s.slc.refresh ∧
    t.slc.position = 0 ∧
    (t.slc.order = [] → t.slc.cycle = .idle ∧ t.slc.exchange = none) ∧
    (∀ first rest, t.slc.order = first :: rest → t.slc.cycle = .cycling ∧ ∃ e, t.slc.exchange = some e ∧
      e.phase = .sending ∧ e.epochByte = s.rsv.epoch % 256 ∧ e = entryFrame t.slc first ∧
      (∀ a, first = .blank a →
        e.target = .blank ∧ e.address = a ∧ e.face = { symbol := .blank, flash := .steady, level := 0 }) ∧
      (∀ (i : Nat) (g : SignRun) (f : Face), first = .sign i → t.slc.signs[i]? = some g → g.composed = some f →
        e.target = .sign i ∧ e.address = g.address ∧
        e.face = if g.flashOpen then { f with flash := if g.emphasis = none then .slow else .fast } else f)) ∧
    (let sign (i : Nat) (test : SignRun → Prop) [DecidablePred test] : Bool := match t.slc.signs[i]? with
        | some g => decide ((g.state ≠ .lost ∨ t.slc.number = 0) ∧ test g)
        | none => false
      let changed := (List.range t.slc.signs.length).filter fun i =>
        sign i fun g => g.lastFace = none ∨ g.lastFace ≠ g.composed
      let others := (List.range t.slc.signs.length).filter fun i =>
        sign i fun g => g.lastFace ≠ none ∧ g.lastFace = g.composed
      t.slc.order =
        s.slc.removal.map OrderEntry.blank ++ changed.map OrderEntry.sign ++ others.map OrderEntry.sign) ∧
    (∀ i : Nat, t.slc.order.count (.sign i) =
      match s.slc.signs[i]? with
      | some g => if g.state = .lost ∧ t.slc.number ≠ 0 then 0 else 1
      | none => 0) ∧
    (∀ (i : Nat) (g : SignRun) (x : SignRec), s.slc.signs[i]? = some g → p.signs[i]? = some x →
      t.slc.signs[i]? = some (composeSign p.header s.slc.groups s.zh.evac (timingTicks p.header.emphasis) set x g))) ∧
  (∀ s : State, s.ps.active = none →
    cycleStart s = { s with slc := { s.slc with
      cycle := .cycling, number := (s.slc.number + 1) % 8, startPending := false, startWaiting := false
      order := [], position := 0
      exchange := some { target := .fallback, address := 255, face := blankFace, epochByte := 0,
                         phase := .sending } } })

/-- R118 to R127: what a SHOW frame carries: the sign's address, its composed face with the flash an ARROW in ACTIVE
settles from the emphasis timer (R101), and the epoch byte; and a BLANK frame. A frame sent opens the reply window; a
taken reply and a miss act on the sign's record, with the fault and the notice of entering FAULTY and LOST; a differing
echo byte and a character error decide their outcomes, and a stray frame does nothing; the close of a BLANK frame's
window decides nothing, and whatever is received in it is stray (R124); an exchange that a swap outlives acts in the
same way on the record it began with, under the miss limit of its plan, and leaves the new plan's signs as they are
(R128, log entry 19); a window that closes over a frame still being received lets that frame end first; the end of an
exchange is a cut, the next entry, an overrun start (R115), the next cycle of the back-to-back mode (R126) or the end of
the cycle, and it starts a cycle that waited for it in IDLE (R128, log entry 21); the end of a FALLBACK frame ends its
cycle; and an emphasis timer's expiry makes it idle. The exchange on the line after a LINE HALT, the settling of a
character error at its character, the wait for a frame still being received as the window closes, and that
FAULT_CAPTURED rises before SIGN_TROUBLE in one step are the model's choices (log entries 20, 22, 32, 11). -/
def Obligations.sign_exchange : Prop :=
  (∀ (c : SignLine) (now : Adopted), c.adopted = some now →
    (∀ a : Nat, entryFrame c (.blank a) =
      { target := .blank, address := a, face := { symbol := .blank, flash := .steady, level := 0 }
        epochByte := now.epoch % 256, phase := .sending }) ∧
    (∀ (i : Nat) (g : SignRun) (f : Face), c.signs[i]? = some g → g.composed = some f →
      entryFrame c (.sign i) =
        { target := .sign i, address := g.address
          face := if g.flashOpen then { f with flash := if g.emphasis = none then .slow else .fast } else f
          epochByte := now.epoch % 256, phase := .sending })) ∧
  (∀ (s : State) (e : Exchange), s.slc.exchange = some e → e.phase = .window none →
    let decided (o : SignOutcome) : State :=
      { s with slc := { s.slc with exchange := some { e with phase := .window (some o) } } }
    let withSign : Prop := (∃ i, e.target = .sign i) ∨ ∃ i g limit, e.target = .former i g limit
    (e.target = .blank → ∀ ev : RxEvent, signEvent s ev = s) ∧
    (∀ c : RxChar, s.phase = .running → e.target = .blank → exec (.signFrameReceived [c]) s =
      .next (s.onLine .sign fun x => { x with rx := (receiveChar s.lines.sign.inUse s.lines.sign.rx c).2 })) ∧
    (∀ (a echo l : Byte), withSign →
      let answer := signEvent s (.frame [0x21, a, echo, l] false)
      (a.toNat = e.address → l.toNat ≤ 2 → echo.toNat ≠ e.epochByte → answer = decided .echoMismatch) ∧
      (a.toNat ≠ e.address ∨ 2 < l.toNat → answer = s)) ∧
    (∀ body : List Byte, body.length ≠ 4 ∨ body[0]? ≠ some 0x21 → signEvent s (.frame body false) = s) ∧
    (∀ c : RxChar, s.phase = .running → withSign →
      let line := s.lines.sign
      charError line.inUse c = true → line.rx ≠ [] →
      (line.rx.length = 1 → 1 ≤ c.data.toNat ∧ c.data.toNat ≤ 250) →
      exec (.signFrameReceived [c]) s =
        .next ((capture .signReplyError e.address (decided .charError)).onLine .sign fun x =>
          { x with rx := (receiveChar line.inUse line.rx c).2 }))) ∧
  (∀ s : State,
    (∀ body : List Byte, signEvent s (.frame body true) = s) ∧ (∀ err : Bool, signEvent s (.badCheck err) = s) ∧
    ((∀ e : Exchange, s.slc.exchange = some e → e.phase ≠ .window none) → ∀ ev : RxEvent, signEvent s ev = s)) ∧
  (∀ (s : State) (e : Exchange), s.phase = .running → s.slc.exchange = some e → e.phase = .sending →
    (∀ (i : Nat) (g : SignRun), e.target = .sign i → s.slc.signs[i]? = some g →
      let shown : SignRun := { g with lastFace := some e.face }
      exec .showFrameSent s = .next (fire .showSent 1
        { s with slc := { s.slc with
            signs := s.slc.signs.set i shown, exchange := some { e with phase := .window none } } })) ∧
    (e.target = .blank →
      exec .showFrameSent s = .next (fire .showSent 1
        { s with slc := { s.slc with
            removal := s.slc.removal.filter (fun a => decide (a ≠ e.address))
            exchange := some { e with phase := .window none } } })) ∧
    (∀ (i : Nat) (g : SignRun) (limit : Nat), e.target = .former i g limit →
      let shown : SignRun := { g with lastFace := some e.face }
      exec .showFrameSent s = .next (fire .showSent 1
        { s with slc := { s.slc with
            exchange := some { e with target := .former i shown limit, phase := .window none } } })) ∧
    (e.target = .fallback → exec .fallbackFrameSent s = .next (exchangeEnded s))) ∧
  (∀ (s : State) (e : Exchange) (decided : Option SignOutcome), s.phase = .running → s.slc.exchange = some e →
    e.target = .blank → e.phase = .window decided →
    (s.lines.sign.rx = [] → exec .replyWindowClose s = .next (exchangeEnded s)) ∧
    (s.lines.sign.rx ≠ [] → exec .replyWindowClose s =
      .next { s with slc := { s.slc with exchange := some { e with phase := .drain } } })) ∧
  (∀ (s : State) (e : Exchange) (i : Nat) (g : SignRun) (limit : Nat), s.phase = .running →
    s.slc.exchange = some e →
    (e.target = .sign i ∧ s.slc.signs[i]? = some g ∧ ∃ p, s.ps.active = some p ∧ limit = p.header.missLimit) ∨
      e.target = .former i g limit →
    let put (new : SignRun) (u : State) : State :=
      if e.target = .sign i then { u with slc := { u.slc with signs := u.slc.signs.set i new } } else u
    (∀ (lamp : Lamp) (a : Byte), e.phase = .window none → e.address = a.toNat → e.epochByte < 256 →
      let new : SignRun :=
        { g with misses := 0, lamp := some lamp, outcome := .taken,
                 state := if lamp = .failed then .faulty else .online }
      signEvent s (.frame [0x21, a, byte1 e.epochByte, byte1 (lampCode lamp)] false) =
        exchangeEnded
          (if lamp = .failed ∧ g.state ≠ .faulty then
            raise (.signTrouble i g.address .faulty 0 (some .failed)) (capture .signLampFault g.address (put new s))
          else put new s)) ∧
    (∀ decided : Option SignOutcome, e.phase = .window decided →
      let misses := min limit (g.misses + 1)
      let new : SignRun :=
        { g with misses := misses, outcome := decided.getD .noReply,
                 state := if misses < limit then .missing else .lost }
      let s1 := fire .replyMissed 1 s
      let missed :=
        if limit ≤ misses ∧ g.state ≠ .lost then
          raise (.signTrouble i g.address .lost misses g.lamp) (capture .signLost g.address (put new s1))
        else put new s1
      (s.lines.sign.rx = [] → exec .replyWindowClose s = .next (exchangeEnded missed)) ∧
      (s.lines.sign.rx ≠ [] → exec .replyWindowClose s =
        .next { missed with slc := { missed.slc with exchange := some { e with phase := .drain } } }))) ∧
  (∀ (s : State) (e : Exchange) (c : RxChar), s.phase = .running → s.slc.exchange = some e → e.phase = .drain →
    let rest := (receiveChar s.lines.sign.inUse s.lines.sign.rx c).2
    let heard := s.onLine .sign fun x => { x with rx := rest }
    exec (.signFrameReceived [c]) s = .next (if rest = [] then exchangeEnded heard else heard)) ∧
  (∀ s : State,
    let s1 : State := { s with slc := { s.slc with exchange := none } }
    let idle : State := { s with slc := { s.slc with exchange := none, cycle := .idle } }
    (s.slc.cycle = .dormant → exchangeEnded s = s1) ∧
    (s.slc.cycle = .idle →
      (s.slc.startWaiting = true → s.mark .sign = .running → exchangeEnded s = cycleStart s1) ∧
      (s.slc.startWaiting = false ∨ s.mark .sign = .halted → exchangeEnded s = s1)) ∧
    (s.slc.cycle = .cycling → s.slc.cutPending = true → s.mark .sign = .running →
      exchangeEnded s = cycleStart
        (fire .cycleCut 1 { idle with slc := { idle.slc with
          startPending := false, cutPending := false, refresh := refreshSetting s } })) ∧
    (s.slc.cycle = .cycling → s.slc.cutPending = false ∨ s.mark .sign = .halted →
      s.slc.order.length ≤ s.slc.position + 1 →
      (s.mark .sign = .halted → exchangeEnded s = idle) ∧
      (s.mark .sign = .running → s.slc.startPending = true →
        exchangeEnded s = cycleStart
          (fire .cycleOverrun 1 { idle with slc := { idle.slc with startPending := false } })) ∧
      (s.mark .sign = .running → s.slc.startPending = false →
        (backToBack s = true → s.slc.order ≠ [] → exchangeEnded s = cycleStart idle) ∧
        (backToBack s = false ∨ s.slc.order = [] → exchangeEnded s = idle))) ∧
    (∀ entry, s.slc.cycle = .cycling → s.slc.cutPending = false → s.slc.order[s.slc.position + 1]? = some entry →
      exchangeEnded s = { s with slc := { s.slc with
        position := s.slc.position + 1, exchange := some (entryFrame s.slc entry) } })) ∧
  (∀ (s : State) (i : Nat) (g : SignRun), s.phase = .running → s.slc.signs[i]? = some g → g.emphasis = some 0 →
    exec (.emphasisTimerExpiry i) s =
      .next { s with slc := { s.slc with signs := s.slc.signs.set i ({ g with emphasis := none }) } })

/-! ## The Peer Ports -/

/-- R136 to R147: which frames are valid ADVERTs, whatever the reserved bits of their flags bytes, and what a port does
with the others, also with no plan; a valid ADVERT taken by a port in use, by station id; the age timer's expiry; the
solve wanted and the PORTAL_CHANGE of a change of seed data or flags; what an ADVERT carries: UNKNOWN entries (no set,
no route, a MISWIRED port, poisoned reverse) and cost entries with HERE and ALREADY; and the sending of ADVERT frames: a
trigger sends at once or is pending, the spacing timer starts when a frame has been sent, and its expiry sends what is
pending. The frame begun under a replaced plan is marked by the model, one PORTAL_CHANGE rises for one update, and the
order of rises in one step is the model's (log entries 25, 30, 11). -/
def Obligations.adverts : Prop :=
  (∀ a : Advert,
    let fits : Prop := 1 ≤ a.station ∧ a.station ≤ 15 ∧ 1 ≤ a.planId ∧ a.planId ≤ 65535 ∧ a.entries.length ≤ 8 ∧
      (∀ e ∈ a.entries, e.exit ≤ 31 ∧ (e.unknown = false → e.hop ≤ 3)) ∧ (a.entries.map (·.exit)).Pairwise (· < ·)
    (fits → (∀ e ∈ a.entries, e.cost.x ≤ 65535 ∧ e.cost.d ≤ 65535 ∧ e.hop ≤ 255) →
      readAdvert (advertBody a) = some a) ∧
    (∀ body : List Byte, readAdvert body = some a →
      fits ∧ body.length = 5 + 7 * a.entries.length ∧
        body.take 5 = [0x30, byte1 a.station] ++ byte2 a.planId ++ [byte1 a.entries.length])) ∧
  (∀ x y : List Byte, x.length = y.length →
    (∀ i : Nat, x[i]? = y[i]? ∨
      ((∃ k : Nat, i = 11 + 7 * k) ∧ ∃ m n : Byte, x[i]? = some m ∧ y[i]? = some n ∧ m.toNat % 8 = n.toNat % 8)) →
    readAdvert x = readAdvert y) ∧
  (∀ (s : State) (port : PeerPort) (ev : RxEvent), s.ps.active = none → advertEvent port s ev = s) ∧
  (∀ (s : State) (port : PeerPort) (p : Plan), s.ps.active = some p →
    (expectedId p.header port = 0 → ∀ ev : RxEvent, advertEvent port s ev = s) ∧
    (expectedId p.header port ≠ 0 →
      let erred := capture .lineCharError (portNumber port) s
      (∀ body a, readAdvert body = some a →
        advertEvent port s (.frame body false) = advertTaken port (expectedId p.header port) a s) ∧
      (∀ body, readAdvert body = none → advertEvent port s (.frame body false) = s) ∧
      (∀ body, advertEvent port s (.frame body true) = erred) ∧
      (∀ err, advertEvent port s (.badCheck err) = if err then erred else s))) ∧
  (∀ (p : Plan) (published : Option HeadingSet) (port : PeerPort) (st : PortState),
    let f := buildAdvert p published port st
    f.station = p.header.ownId ∧ f.planId = p.header.planId ∧ (f.entries.map (·.exit)).Pairwise (· < ·) ∧
    (∀ i : Nat, (∃ e ∈ f.entries, e.exit = i) ↔ ∃ x, portalOf p i = some x ∧ x.port = port) ∧
    (∀ entry ∈ f.entries, ∀ x : ExitRec, p.exits[entry.exit]? = some x →
      let unknown : AdvertEntry :=
        { exit := entry.exit, cost := { x := 65535, d := 65535 }, hop := 0, isHere := false, already := false
          unknown := true }
      (published = none ∨ st = .miswired → entry = unknown) ∧
      (∀ set : HeadingSet, published = some set →
        let h := headingAt set x.node
        (h.choice = .none → entry = unknown) ∧
        (∀ origin hop, routeOf h.choice = some (origin, hop) →
          ((∃ o, portalOf p origin = some o ∧ o.port = port) → entry = unknown) ∧
          ((∀ o, portalOf p origin = some o → o.port ≠ port) → st ≠ .miswired →
            ∀ n : SeedNote, set.seeds.find? (fun y => decide (y.exit = origin)) = some n →
              entry = { exit := entry.exit, cost := h.cost, hop := hop, isHere := decide (n.cost.x < h.cost.x)
                        already := n.isHere || n.already, unknown := false }))))) ∧
  (∀ (p : Plan) (snap : Snapshot) (nodes : List NodeWork) (prev : Option HeadingSet) (n : SeedNote),
    n ∈ (solveResult p snap nodes prev).2.seeds ↔
      ∃ sd : Seed, exitSeed p snap.exits snap.portals n.exit = some sd ∧ n.cost = sd.cost ∧
        (∀ a, advertisementOf snap.portals n.exit = some a → n.isHere = a.isHere ∧ n.already = a.already) ∧
        (advertisementOf snap.portals n.exit = none → n.isHere = false ∧ n.already = false)) ∧
  (let follows (port : PeerPort) (p : Plan) (s u t : State) : Prop :=
    let seeds (x : State) := x.pp.portals.map fun r => r.advertisement.map fun a => (a.cost, a.hop)
    let old := (portGet s.pp port).state
    let new := (portGet t.pp port).state
    let u1 := if old = new then u else raise (.lineState (portNumber port) (.port new) none) u
    let live := (t.pp.portals.filter fun r => onPort p r.exit port && r.advertisement.isSome).length
    let first := ((s.pp.portals.zip t.pp.portals).find? fun x =>
      decide (x.1.advertisement ≠ x.2.advertisement)).map (·.1.exit)
    (seeds s ≠ seeds t → t.rsv =
      { s.rsv with wanted := true, stale := if s.rsv.state = .solving then true else s.rsv.stale }) ∧
    (seeds s = seeds t → t.rsv = s.rsv) ∧
    ((old = .up ∧ new ≠ .up) ∨ first ≠ none → t.mp = (raise (.portalChange port new live first) u1).mp) ∧
    (¬ (old = .up ∧ new ≠ .up) → first = none → t.mp = u1.mp)
  ∀ (s : State) (port : PeerPort) (p : Plan), s.ps.active = some p →
    (∀ (a : Advert) (expected : Nat),
      follows port p s
        (if a.station ≠ expected ∧ (portGet s.pp port).state ≠ .miswired then
          capture .portMiswired (portNumber port) s else s)
        (advertTaken port expected a s)) ∧
    (s.phase = .running → (portGet s.pp port).age = some 0 → ∀ t : State, exec (.ageTimerExpiry port) s = .next t →
      follows port p s (capture .peerDown (portNumber port) s) t)) ∧
  (∀ (s : State) (port : PeerPort) (p : Plan) (a : Advert), s.ps.active = some p → expectedId p.header port ≠ 0 →
    let t := advertTaken port (expectedId p.header port) a s
    (portGet t.pp port).station = some a.station ∧ (portGet t.pp port).planId = some a.planId ∧
    (portGet t.pp port).age = some (timingTicks p.header.ageLimit) ∧
    (portGet t.pp port).state = (if a.station = expectedId p.header port then .up else .miswired) ∧
    t.pp.portals.map (·.exit) = s.pp.portals.map (·.exit) ∧
    t.pp.portals.map (·.lastSent) = s.pp.portals.map (·.lastSent) ∧
    (∀ other : PeerPort, other ≠ port → portGet t.pp other = portGet s.pp other) ∧
    (∀ (r : PortalRun), r ∈ t.pp.portals →
      (∀ f, portalOf p r.exit = some f → f.port = port →
        (a.station ≠ expectedId p.header port → r.advertisement = none) ∧
        (a.station = expectedId p.header port →
          (∀ entry, a.entries.find? (fun x => decide (x.exit = f.remote)) = some entry → r.advertisement =
            if entry.unknown then none
            else some { cost := entry.cost, hop := entry.hop, isHere := entry.isHere, already := entry.already }) ∧
          ((∀ entry ∈ a.entries, entry.exit ≠ f.remote) → r.advertisement = none))) ∧
      ((∀ f, portalOf p r.exit = some f → f.port ≠ port) → r ∈ s.pp.portals)) ∧
    (a.station ≠ expectedId p.header port → (portGet s.pp port).state ≠ .miswired →
      t.fc = (capture .portMiswired (portNumber port) (fire .advertTaken 1 s)).fc) ∧
    (a.station = expectedId p.header port ∨ (portGet s.pp port).state = .miswired →
      t.fc = (fire .advertTaken 1 s).fc) ∧
    (t.pp.portals = s.pp.portals → t.rsv = s.rsv) ∧
    t.zh = s.zh ∧ t.di = s.di ∧ t.slc = s.slc ∧ t.ps = s.ps ∧ t.tb = s.tb ∧ t.lines = s.lines) ∧
  (∀ (s : State) (port : PeerPort), s.phase = .running → (portGet s.pp port).age = some 0 →
    ∃ t : State, exec (.ageTimerExpiry port) s = .next t ∧
      (portGet t.pp port).state = .down ∧ (portGet t.pp port).age = none ∧
      t.fc = (capture .peerDown (portNumber port) s).fc ∧
      (∀ other : PeerPort, other ≠ port → portGet t.pp other = portGet s.pp other) ∧
      t.pp.portals.map (·.exit) = s.pp.portals.map (·.exit) ∧
      t.pp.portals.map (·.lastSent) = s.pp.portals.map (·.lastSent) ∧
      (∀ (p : Plan) (r : PortalRun), s.ps.active = some p → r ∈ t.pp.portals → onPort p r.exit port = false →
        r ∈ s.pp.portals) ∧
      (∀ (p : Plan) (r : PortalRun), s.ps.active = some p → r ∈ t.pp.portals → onPort p r.exit port = true →
        r.advertisement = none) ∧
      t.zh = s.zh ∧ t.di = s.di ∧ t.slc = s.slc ∧ t.ps = s.ps ∧ t.tb = s.tb ∧ t.lines = s.lines) ∧
  (∀ (s : State) (port : PeerPort) (p : Plan), s.phase = .running → s.ps.active = some p →
    expectedId p.header port ≠ 0 → s.mark (portLine port) = .running →
    let r := portGet s.pp port
    let begun : AdvertSending := { frame := buildAdvert p s.rsv.published port r.state, former := false }
    (r.advertise = some 0 →
      let again : Timer := some (timingTicks p.header.advertise)
      (r.spacing = none → r.sending = none → exec (.advertTimerExpiry port) s =
        .next (s.onPort port fun q => { q with advertise := again, sending := some begun })) ∧
      (r.spacing ≠ none ∨ r.sending ≠ none → exec (.advertTimerExpiry port) s =
        .next (s.onPort port fun q => { q with advertise := again, sendPending := true }))) ∧
    (r.spacing = some 0 →
      (r.sendPending = false → exec (.spacingTimerExpiry port) s =
        .next (s.onPort port fun q => { q with spacing := none })) ∧
      (r.sendPending = true → r.sending = none → exec (.spacingTimerExpiry port) s =
        .next (s.onPort port fun q => { q with spacing := none, sendPending := false, sending := some begun }))) ∧
    (∀ f : AdvertSending, r.sending = some f → ∃ t : State, exec (.advertFrameSent port) s = .next t ∧
      (portGet t.pp port) = { r with sending := none, spacing := some (timingTicks p.header.spacing) } ∧
      t.fc = (fire .advertSent 1 s).fc ∧
      (f.former = true → t.pp.portals = s.pp.portals) ∧
      (f.former = false → t.pp.portals = s.pp.portals.map fun x =>
        match f.frame.entries.find? (fun y => decide (y.exit = x.exit)) with
        | some entry => { x with lastSent := some entry }
        | none => x) ∧
      (∀ other : PeerPort, other ≠ port → portGet t.pp other = portGet s.pp other) ∧
      t.phase = s.phase ∧ t.pending = s.pending ∧
      t.rsv = s.rsv ∧ t.zh = s.zh ∧ t.di = s.di ∧ t.slc = s.slc ∧ t.ps = s.ps ∧ t.mp = s.mp ∧ t.tb = s.tb ∧
      t.lines = s.lines))

/-! ## The Timebase -/

/-- R53, R63 to R65, R126: a tenth tick advances the pattern, the seconds at the end of its tenth step, every running
timer, and the clock in ACTIVE, which holds at 99:59.9; in back-to-back mode, and only there, a cycle starts at it when
the controller is IDLE on a RUNNING line with nothing on it. That a due timer stands at 0 until the command of its
expiry, and that until the end of the start-up load a tick acts on every timer and starts no cycle, are the model's
choices (log entries 10, 6). -/
def Obligations.tenth_tick : Prop :=
  (∀ s : State,
    let down : Timer → Timer := fun t => match t with
      | some (n + 1) => some n
      | other => other
    let port (r : PortRec) : PortRec :=
      { r with age := down r.age, advertise := down r.advertise, spacing := down r.spacing }
    let clock : EvacClock :=
      if s.zh.evac = .active then advanceClock s.zh.clock else s.zh.clock
    let starts : Prop :=
      s.slc.cycle = .idle ∧ s.mark .sign = .running ∧ backToBack s = true ∧ s.slc.exchange = none
    let ticked : State :=
      { s with
        tb := if s.tb.step = 9 then { step := 0, seconds := min 4294967295 (s.tb.seconds + 1) }
              else { s.tb with step := s.tb.step + 1 }
        di := { s.di with silence := down s.di.silence }
        zh := { s.zh with
          zones := s.zh.zones.map (fun z => { z with suspect := down z.suspect, clearHold := down z.clearHold })
          clock := clock }
        slc := { s.slc with
          refresh := down s.slc.refresh
          signs := s.slc.signs.map (fun g => { g with emphasis := down g.emphasis }) }
        pp := { s.pp with a := port s.pp.a, b := port s.pp.b } }
    (s.phase = .running → ¬ starts → exec .tenthTick s = .next ticked) ∧
    (s.phase = .running → starts → exec .tenthTick s = .next (cycleStart ticked)) ∧
    (s.phase = .loading → exec .tenthTick s = .next ticked)) ∧
  (∀ c : EvacClock, c.minutes ≤ 99 → c.seconds ≤ 59 → c.tenths ≤ 9 →
    let n := c.minutes * 600 + c.seconds * 10 + c.tenths
    let d := advanceClock c
    d.seconds ≤ 59 ∧ d.tenths ≤ 9 ∧ d.running = c.running ∧
      d.minutes * 600 + d.seconds * 10 + d.tenths = min 59999 (n + 1))
end

