-- ==== Sys2Proof/Laws/Framing.lean ====
section
/-! SUPPORT. Lemmas about characters and receivers (R183, R184): the levels of a character and what is read from them,
and that a receiver works through the characters it is given in any division. -/

namespace Sys2Proof.Machine

/-! ## Characters -/

/-- A byte's bits make that byte. -/
@[simp] theorem byteOfBits_bits (b : Byte) : byteOfBits ((List.range 8).map b.getLsbD) = b := by
  revert b
  decide

theorem charLevels_length (f : Format) (b : Byte) : (charLevels f b).length = charBits f := by
  unfold charLevels charBits
  split <;> simp <;> omega

/-- A receiver reads from the levels of a character the character that was sent, whatever its number of stop bits. -/
theorem readChar_charLevels (f : Format) (b : Byte) (h : 1 ≤ f.stop) :
    readChar f (charLevels f b) = some (sendChar f b) := by
  obtain ⟨speed, parity, stop⟩ := f
  obtain ⟨n, rfl⟩ : ∃ n, stop = n + 1 := ⟨stop - 1, by dsimp at h; omega⟩
  have hb := byteOfBits_bits b
  cases parity <;>
    simpa [readChar, charLevels, sendChar, List.replicate_succ, List.range_succ] using hb

@[simp] theorem frameChars_data (f : Format) (body : List Byte) :
    (frameChars f body).map (·.data) = frameBytes body := by
  simp [frameChars, sendChar, Function.comp_def]

/-! ## Receiving -/

/-- What the characters after a SYNC amount to does not change as more arrive, once it is settled. -/
theorem tryFrame_append (f : Format) (after more : List RxChar) (h : tryFrame f after ≠ .incomplete) :
    tryFrame f (after ++ more) = tryFrame f after := by
  cases after with
  | nil => simp [tryFrame] at h
  | cons c tail =>
    by_cases h1 : c.data.toNat = 0 ∨ 250 < c.data.toNat
    · simp [tryFrame, h1]
    · by_cases h2 : tail.length < c.data.toNat + 2
      · simp [tryFrame, h1, h2] at h
      · have h3 : ¬ (tail ++ more).length < c.data.toNat + 2 := by simp; omega
        have ht (n : Nat) (hn : n ≤ c.data.toNat + 2) : (tail ++ more).take n = tail.take n :=
          List.take_append_of_le_length (by omega)
        have hd : ((tail ++ more).drop c.data.toNat).take 2 = (tail.drop c.data.toNat).take 2 := by
          rw [List.drop_append_of_le_length (by omega), List.take_append_of_le_length (by simp; omega)]
        simp only [tryFrame, List.cons_append, h1, h2, h3, if_false, ht _ (Nat.le_refl _), ht _ (Nat.le_add_right _ 2), hd]

/-- A whole frame lies within the characters it is found in. -/
theorem tryFrame_complete (f : Format) (after : List RxChar) (body : List Byte) (err : Bool) (k : Nat)
    (h : tryFrame f after = .complete body err k) : k ≤ after.length := by
  cases after with
  | nil => simp [tryFrame] at h
  | cons c tail =>
    simp only [tryFrame] at h
    split_ifs at h
    simp only [FrameTry.complete.injEq] at h
    simp only [List.length_cons]
    omega

/-- A receiver given some characters and then more of them hands on what it would of all of them at once. -/
theorem scan_append (f : Format) (x : List RxChar) : ∀ (k : Nat) (more : List RxChar), k ≤ x.length →
    scan f k (x ++ more) =
      ((scan f k x).1 ++ (scan f 0 ((scan f k x).2 ++ more)).1, (scan f 0 ((scan f k x).2 ++ more)).2) := by
  induction x with
  | nil =>
    intro k more hk
    obtain rfl : k = 0 := by simpa using hk
    simp [scan]
  | cons c rest ih =>
    intro k more hk
    cases k with
    | succ k => simpa only [List.cons_append, scan] using ih k more (by simpa using hk)
    | zero =>
      simp only [List.cons_append, scan]
      split
      · rename_i hc
        cases ht : tryFrame f rest with
        | incomplete => simp [scan, hc]
        | noFrame => simpa [tryFrame_append f rest more (by simp [ht]), ht] using ih 0 more (by simp)
        | wrong err => simp [tryFrame_append f rest more (by simp [ht]), ht, ih 0 more (by simp)]
        | complete body err k =>
          simp [tryFrame_append f rest more (by simp [ht]), ht, ih k more (tryFrame_complete f rest body err k ht)]
      · simpa using ih 0 more (by simp)

end Sys2Proof.Machine
end

