-- ==== Sys2Proof/Laws/State.lean ====
section
/-! SUPPORT. The frames of the operations: one lemma for each part of the state that an operation leaves as it was. -/

namespace Sys2Proof.Machine

variable (s : State)

/-! ### raise -/

@[simp] theorem raise_pending (body : NoticeBody) : (raise body s).pending = s.pending := rfl
@[simp] theorem raise_phase (body : NoticeBody) : (raise body s).phase = s.phase := rfl
@[simp] theorem raise_ps (body : NoticeBody) : (raise body s).ps = s.ps := rfl
@[simp] theorem raise_di (body : NoticeBody) : (raise body s).di = s.di := rfl
@[simp] theorem raise_zh (body : NoticeBody) : (raise body s).zh = s.zh := rfl
@[simp] theorem raise_rsv (body : NoticeBody) : (raise body s).rsv = s.rsv := rfl
@[simp] theorem raise_slc (body : NoticeBody) : (raise body s).slc = s.slc := rfl
@[simp] theorem raise_pp (body : NoticeBody) : (raise body s).pp = s.pp := rfl
@[simp] theorem raise_fc (body : NoticeBody) : (raise body s).fc = s.fc := rfl
@[simp] theorem raise_tb (body : NoticeBody) : (raise body s).tb = s.tb := rfl
@[simp] theorem raise_lines (body : NoticeBody) : (raise body s).lines = s.lines := rfl
@[simp] theorem raise_free (body : NoticeBody) : (raise body s).free = s.free := rfl

/-! ### capture -/

@[simp] theorem capture_pending (k : FaultKind) (n : Nat) : (capture k n s).pending = s.pending := rfl
@[simp] theorem capture_phase (k : FaultKind) (n : Nat) : (capture k n s).phase = s.phase := rfl
@[simp] theorem capture_ps (k : FaultKind) (n : Nat) : (capture k n s).ps = s.ps := rfl
@[simp] theorem capture_di (k : FaultKind) (n : Nat) : (capture k n s).di = s.di := rfl
@[simp] theorem capture_zh (k : FaultKind) (n : Nat) : (capture k n s).zh = s.zh := rfl
@[simp] theorem capture_rsv (k : FaultKind) (n : Nat) : (capture k n s).rsv = s.rsv := rfl
@[simp] theorem capture_slc (k : FaultKind) (n : Nat) : (capture k n s).slc = s.slc := rfl
@[simp] theorem capture_pp (k : FaultKind) (n : Nat) : (capture k n s).pp = s.pp := rfl
@[simp] theorem capture_tb (k : FaultKind) (n : Nat) : (capture k n s).tb = s.tb := rfl
@[simp] theorem capture_lines (k : FaultKind) (n : Nat) : (capture k n s).lines = s.lines := rfl
@[simp] theorem capture_free (k : FaultKind) (n : Nat) : (capture k n s).free = s.free := rfl

/-! ### fire -/

@[simp] theorem fire_pending (i : CounterInput) (n : Nat) : (fire i n s).pending = s.pending := rfl
@[simp] theorem fire_phase (i : CounterInput) (n : Nat) : (fire i n s).phase = s.phase := rfl
@[simp] theorem fire_ps (i : CounterInput) (n : Nat) : (fire i n s).ps = s.ps := rfl
@[simp] theorem fire_di (i : CounterInput) (n : Nat) : (fire i n s).di = s.di := rfl
@[simp] theorem fire_zh (i : CounterInput) (n : Nat) : (fire i n s).zh = s.zh := rfl
@[simp] theorem fire_rsv (i : CounterInput) (n : Nat) : (fire i n s).rsv = s.rsv := rfl
@[simp] theorem fire_slc (i : CounterInput) (n : Nat) : (fire i n s).slc = s.slc := rfl
@[simp] theorem fire_pp (i : CounterInput) (n : Nat) : (fire i n s).pp = s.pp := rfl
@[simp] theorem fire_mp (i : CounterInput) (n : Nat) : (fire i n s).mp = s.mp := rfl
@[simp] theorem fire_tb (i : CounterInput) (n : Nat) : (fire i n s).tb = s.tb := rfl
@[simp] theorem fire_lines (i : CounterInput) (n : Nat) : (fire i n s).lines = s.lines := rfl
@[simp] theorem fire_free (i : CounterInput) (n : Nat) : (fire i n s).free = s.free := rfl

/-! ### onLine -/

@[simp] theorem onLine_pending (id : LineId) (f : LineRec → LineRec) : (s.onLine id f).pending = s.pending := rfl
@[simp] theorem onLine_phase (id : LineId) (f : LineRec → LineRec) : (s.onLine id f).phase = s.phase := rfl
@[simp] theorem onLine_ps (id : LineId) (f : LineRec → LineRec) : (s.onLine id f).ps = s.ps := rfl
@[simp] theorem onLine_di (id : LineId) (f : LineRec → LineRec) : (s.onLine id f).di = s.di := rfl
@[simp] theorem onLine_zh (id : LineId) (f : LineRec → LineRec) : (s.onLine id f).zh = s.zh := rfl
@[simp] theorem onLine_rsv (id : LineId) (f : LineRec → LineRec) : (s.onLine id f).rsv = s.rsv := rfl
@[simp] theorem onLine_slc (id : LineId) (f : LineRec → LineRec) : (s.onLine id f).slc = s.slc := rfl
@[simp] theorem onLine_pp (id : LineId) (f : LineRec → LineRec) : (s.onLine id f).pp = s.pp := rfl
@[simp] theorem onLine_mp (id : LineId) (f : LineRec → LineRec) : (s.onLine id f).mp = s.mp := rfl
@[simp] theorem onLine_fc (id : LineId) (f : LineRec → LineRec) : (s.onLine id f).fc = s.fc := rfl
@[simp] theorem onLine_tb (id : LineId) (f : LineRec → LineRec) : (s.onLine id f).tb = s.tb := rfl
@[simp] theorem onLine_free (id : LineId) (f : LineRec → LineRec) : (s.onLine id f).free = s.free := rfl

/-! ### onMp -/

@[simp] theorem onMp_pending (f : MessagePort → MessagePort) : (s.onMp f).pending = s.pending := rfl
@[simp] theorem onMp_phase (f : MessagePort → MessagePort) : (s.onMp f).phase = s.phase := rfl
@[simp] theorem onMp_ps (f : MessagePort → MessagePort) : (s.onMp f).ps = s.ps := rfl
@[simp] theorem onMp_di (f : MessagePort → MessagePort) : (s.onMp f).di = s.di := rfl
@[simp] theorem onMp_zh (f : MessagePort → MessagePort) : (s.onMp f).zh = s.zh := rfl
@[simp] theorem onMp_rsv (f : MessagePort → MessagePort) : (s.onMp f).rsv = s.rsv := rfl
@[simp] theorem onMp_slc (f : MessagePort → MessagePort) : (s.onMp f).slc = s.slc := rfl
@[simp] theorem onMp_pp (f : MessagePort → MessagePort) : (s.onMp f).pp = s.pp := rfl
@[simp] theorem onMp_fc (f : MessagePort → MessagePort) : (s.onMp f).fc = s.fc := rfl
@[simp] theorem onMp_tb (f : MessagePort → MessagePort) : (s.onMp f).tb = s.tb := rfl
@[simp] theorem onMp_lines (f : MessagePort → MessagePort) : (s.onMp f).lines = s.lines := rfl
@[simp] theorem onMp_free (f : MessagePort → MessagePort) : (s.onMp f).free = s.free := rfl

/-! ### onSlc -/

@[simp] theorem onSlc_pending (f : SignLine → SignLine) : (s.onSlc f).pending = s.pending := rfl
@[simp] theorem onSlc_phase (f : SignLine → SignLine) : (s.onSlc f).phase = s.phase := rfl
@[simp] theorem onSlc_ps (f : SignLine → SignLine) : (s.onSlc f).ps = s.ps := rfl
@[simp] theorem onSlc_di (f : SignLine → SignLine) : (s.onSlc f).di = s.di := rfl
@[simp] theorem onSlc_zh (f : SignLine → SignLine) : (s.onSlc f).zh = s.zh := rfl
@[simp] theorem onSlc_rsv (f : SignLine → SignLine) : (s.onSlc f).rsv = s.rsv := rfl
@[simp] theorem onSlc_pp (f : SignLine → SignLine) : (s.onSlc f).pp = s.pp := rfl
@[simp] theorem onSlc_mp (f : SignLine → SignLine) : (s.onSlc f).mp = s.mp := rfl
@[simp] theorem onSlc_fc (f : SignLine → SignLine) : (s.onSlc f).fc = s.fc := rfl
@[simp] theorem onSlc_tb (f : SignLine → SignLine) : (s.onSlc f).tb = s.tb := rfl
@[simp] theorem onSlc_lines (f : SignLine → SignLine) : (s.onSlc f).lines = s.lines := rfl
@[simp] theorem onSlc_free (f : SignLine → SignLine) : (s.onSlc f).free = s.free := rfl

/-! ### onPort -/

@[simp] theorem onPort_pending (port : PeerPort) (f : PortRec → PortRec) : (s.onPort port f).pending = s.pending := by cases port <;> rfl
@[simp] theorem onPort_phase (port : PeerPort) (f : PortRec → PortRec) : (s.onPort port f).phase = s.phase := by cases port <;> rfl
@[simp] theorem onPort_ps (port : PeerPort) (f : PortRec → PortRec) : (s.onPort port f).ps = s.ps := by cases port <;> rfl
@[simp] theorem onPort_di (port : PeerPort) (f : PortRec → PortRec) : (s.onPort port f).di = s.di := by cases port <;> rfl
@[simp] theorem onPort_zh (port : PeerPort) (f : PortRec → PortRec) : (s.onPort port f).zh = s.zh := by cases port <;> rfl
@[simp] theorem onPort_rsv (port : PeerPort) (f : PortRec → PortRec) : (s.onPort port f).rsv = s.rsv := by cases port <;> rfl
@[simp] theorem onPort_slc (port : PeerPort) (f : PortRec → PortRec) : (s.onPort port f).slc = s.slc := by cases port <;> rfl
@[simp] theorem onPort_mp (port : PeerPort) (f : PortRec → PortRec) : (s.onPort port f).mp = s.mp := by cases port <;> rfl
@[simp] theorem onPort_fc (port : PeerPort) (f : PortRec → PortRec) : (s.onPort port f).fc = s.fc := by cases port <;> rfl
@[simp] theorem onPort_tb (port : PeerPort) (f : PortRec → PortRec) : (s.onPort port f).tb = s.tb := by cases port <;> rfl
@[simp] theorem onPort_lines (port : PeerPort) (f : PortRec → PortRec) : (s.onPort port f).lines = s.lines := by cases port <;> rfl
@[simp] theorem onPort_free (port : PeerPort) (f : PortRec → PortRec) : (s.onPort port f).free = s.free := by cases port <;> rfl

/-! ### wantSolve -/

@[simp] theorem wantSolve_pending : (wantSolve s).pending = s.pending := rfl
@[simp] theorem wantSolve_phase : (wantSolve s).phase = s.phase := rfl
@[simp] theorem wantSolve_ps : (wantSolve s).ps = s.ps := rfl
@[simp] theorem wantSolve_di : (wantSolve s).di = s.di := rfl
@[simp] theorem wantSolve_zh : (wantSolve s).zh = s.zh := rfl
@[simp] theorem wantSolve_slc : (wantSolve s).slc = s.slc := rfl
@[simp] theorem wantSolve_pp : (wantSolve s).pp = s.pp := rfl
@[simp] theorem wantSolve_mp : (wantSolve s).mp = s.mp := rfl
@[simp] theorem wantSolve_fc : (wantSolve s).fc = s.fc := rfl
@[simp] theorem wantSolve_tb : (wantSolve s).tb = s.tb := rfl
@[simp] theorem wantSolve_lines : (wantSolve s).lines = s.lines := rfl
@[simp] theorem wantSolve_free : (wantSolve s).free = s.free := rfl

/-! ### setZone -/

@[simp] theorem setZone_pending (zone : Nat) (z : ZoneRun) : (setZone zone z s).pending = s.pending := rfl
@[simp] theorem setZone_phase (zone : Nat) (z : ZoneRun) : (setZone zone z s).phase = s.phase := rfl
@[simp] theorem setZone_ps (zone : Nat) (z : ZoneRun) : (setZone zone z s).ps = s.ps := rfl
@[simp] theorem setZone_di (zone : Nat) (z : ZoneRun) : (setZone zone z s).di = s.di := rfl
@[simp] theorem setZone_rsv (zone : Nat) (z : ZoneRun) : (setZone zone z s).rsv = s.rsv := rfl
@[simp] theorem setZone_slc (zone : Nat) (z : ZoneRun) : (setZone zone z s).slc = s.slc := rfl
@[simp] theorem setZone_pp (zone : Nat) (z : ZoneRun) : (setZone zone z s).pp = s.pp := rfl
@[simp] theorem setZone_mp (zone : Nat) (z : ZoneRun) : (setZone zone z s).mp = s.mp := rfl
@[simp] theorem setZone_fc (zone : Nat) (z : ZoneRun) : (setZone zone z s).fc = s.fc := rfl
@[simp] theorem setZone_tb (zone : Nat) (z : ZoneRun) : (setZone zone z s).tb = s.tb := rfl
@[simp] theorem setZone_lines (zone : Nat) (z : ZoneRun) : (setZone zone z s).lines = s.lines := rfl
@[simp] theorem setZone_free (zone : Nat) (z : ZoneRun) : (setZone zone z s).free = s.free := rfl

/-! ### setChannel -/

@[simp] theorem setChannel_pending (n : Fin 8) (c : Channel) : (setChannel n c s).pending = s.pending := rfl
@[simp] theorem setChannel_phase (n : Fin 8) (c : Channel) : (setChannel n c s).phase = s.phase := rfl
@[simp] theorem setChannel_ps (n : Fin 8) (c : Channel) : (setChannel n c s).ps = s.ps := rfl
@[simp] theorem setChannel_zh (n : Fin 8) (c : Channel) : (setChannel n c s).zh = s.zh := rfl
@[simp] theorem setChannel_rsv (n : Fin 8) (c : Channel) : (setChannel n c s).rsv = s.rsv := rfl
@[simp] theorem setChannel_slc (n : Fin 8) (c : Channel) : (setChannel n c s).slc = s.slc := rfl
@[simp] theorem setChannel_pp (n : Fin 8) (c : Channel) : (setChannel n c s).pp = s.pp := rfl
@[simp] theorem setChannel_mp (n : Fin 8) (c : Channel) : (setChannel n c s).mp = s.mp := rfl
@[simp] theorem setChannel_fc (n : Fin 8) (c : Channel) : (setChannel n c s).fc = s.fc := rfl
@[simp] theorem setChannel_tb (n : Fin 8) (c : Channel) : (setChannel n c s).tb = s.tb := rfl
@[simp] theorem setChannel_lines (n : Fin 8) (c : Channel) : (setChannel n c s).lines = s.lines := rfl
@[simp] theorem setChannel_free (n : Fin 8) (c : Channel) : (setChannel n c s).free = s.free := rfl

/-! ### setStaging -/

@[simp] theorem setStaging_pending (g : Staging) : (setStaging g s).pending = s.pending := rfl
@[simp] theorem setStaging_phase (g : Staging) : (setStaging g s).phase = s.phase := rfl
@[simp] theorem setStaging_di (g : Staging) : (setStaging g s).di = s.di := rfl
@[simp] theorem setStaging_zh (g : Staging) : (setStaging g s).zh = s.zh := rfl
@[simp] theorem setStaging_rsv (g : Staging) : (setStaging g s).rsv = s.rsv := rfl
@[simp] theorem setStaging_slc (g : Staging) : (setStaging g s).slc = s.slc := rfl
@[simp] theorem setStaging_pp (g : Staging) : (setStaging g s).pp = s.pp := rfl
@[simp] theorem setStaging_mp (g : Staging) : (setStaging g s).mp = s.mp := rfl
@[simp] theorem setStaging_fc (g : Staging) : (setStaging g s).fc = s.fc := rfl
@[simp] theorem setStaging_tb (g : Staging) : (setStaging g s).tb = s.tb := rfl
@[simp] theorem setStaging_lines (g : Staging) : (setStaging g s).lines = s.lines := rfl
@[simp] theorem setStaging_free (g : Staging) : (setStaging g s).free = s.free := rfl

/-! ### restartRefresh -/

@[simp] theorem restartRefresh_pending : (restartRefresh s).pending = s.pending := rfl
@[simp] theorem restartRefresh_phase : (restartRefresh s).phase = s.phase := rfl
@[simp] theorem restartRefresh_ps : (restartRefresh s).ps = s.ps := rfl
@[simp] theorem restartRefresh_di : (restartRefresh s).di = s.di := rfl
@[simp] theorem restartRefresh_zh : (restartRefresh s).zh = s.zh := rfl
@[simp] theorem restartRefresh_rsv : (restartRefresh s).rsv = s.rsv := rfl
@[simp] theorem restartRefresh_pp : (restartRefresh s).pp = s.pp := rfl
@[simp] theorem restartRefresh_mp : (restartRefresh s).mp = s.mp := rfl
@[simp] theorem restartRefresh_fc : (restartRefresh s).fc = s.fc := rfl
@[simp] theorem restartRefresh_tb : (restartRefresh s).tb = s.tb := rfl
@[simp] theorem restartRefresh_lines : (restartRefresh s).lines = s.lines := rfl
@[simp] theorem restartRefresh_free : (restartRefresh s).free = s.free := rfl

/-! ### setPhase -/

@[simp] theorem setPhase_pending (ph : ExchangePhase) : (setPhase ph s).pending = s.pending := rfl
@[simp] theorem setPhase_phase (ph : ExchangePhase) : (setPhase ph s).phase = s.phase := rfl
@[simp] theorem setPhase_ps (ph : ExchangePhase) : (setPhase ph s).ps = s.ps := rfl
@[simp] theorem setPhase_di (ph : ExchangePhase) : (setPhase ph s).di = s.di := rfl
@[simp] theorem setPhase_zh (ph : ExchangePhase) : (setPhase ph s).zh = s.zh := rfl
@[simp] theorem setPhase_rsv (ph : ExchangePhase) : (setPhase ph s).rsv = s.rsv := rfl
@[simp] theorem setPhase_pp (ph : ExchangePhase) : (setPhase ph s).pp = s.pp := rfl
@[simp] theorem setPhase_mp (ph : ExchangePhase) : (setPhase ph s).mp = s.mp := rfl
@[simp] theorem setPhase_fc (ph : ExchangePhase) : (setPhase ph s).fc = s.fc := rfl
@[simp] theorem setPhase_tb (ph : ExchangePhase) : (setPhase ph s).tb = s.tb := rfl
@[simp] theorem setPhase_lines (ph : ExchangePhase) : (setPhase ph s).lines = s.lines := rfl
@[simp] theorem setPhase_free (ph : ExchangePhase) : (setPhase ph s).free = s.free := rfl

/-! ### putSign -/

@[simp] theorem putSign_pending (t : Target) (g : SignRun) : (putSign t g s).pending = s.pending := by cases t <;> rfl
@[simp] theorem putSign_phase (t : Target) (g : SignRun) : (putSign t g s).phase = s.phase := by cases t <;> rfl
@[simp] theorem putSign_ps (t : Target) (g : SignRun) : (putSign t g s).ps = s.ps := by cases t <;> rfl
@[simp] theorem putSign_di (t : Target) (g : SignRun) : (putSign t g s).di = s.di := by cases t <;> rfl
@[simp] theorem putSign_zh (t : Target) (g : SignRun) : (putSign t g s).zh = s.zh := by cases t <;> rfl
@[simp] theorem putSign_rsv (t : Target) (g : SignRun) : (putSign t g s).rsv = s.rsv := by cases t <;> rfl
@[simp] theorem putSign_pp (t : Target) (g : SignRun) : (putSign t g s).pp = s.pp := by cases t <;> rfl
@[simp] theorem putSign_mp (t : Target) (g : SignRun) : (putSign t g s).mp = s.mp := by cases t <;> rfl
@[simp] theorem putSign_fc (t : Target) (g : SignRun) : (putSign t g s).fc = s.fc := by cases t <;> rfl
@[simp] theorem putSign_tb (t : Target) (g : SignRun) : (putSign t g s).tb = s.tb := by cases t <;> rfl
@[simp] theorem putSign_lines (t : Target) (g : SignRun) : (putSign t g s).lines = s.lines := by cases t <;> rfl
@[simp] theorem putSign_free (t : Target) (g : SignRun) : (putSign t g s).free = s.free := by cases t <;> rfl

/-! ### setGroup -/

@[simp] theorem setGroup_pending (n : Fin 16) (g : GroupRec) : (setGroup n g s).pending = s.pending := rfl
@[simp] theorem setGroup_phase (n : Fin 16) (g : GroupRec) : (setGroup n g s).phase = s.phase := rfl
@[simp] theorem setGroup_ps (n : Fin 16) (g : GroupRec) : (setGroup n g s).ps = s.ps := rfl
@[simp] theorem setGroup_di (n : Fin 16) (g : GroupRec) : (setGroup n g s).di = s.di := rfl
@[simp] theorem setGroup_zh (n : Fin 16) (g : GroupRec) : (setGroup n g s).zh = s.zh := rfl
@[simp] theorem setGroup_rsv (n : Fin 16) (g : GroupRec) : (setGroup n g s).rsv = s.rsv := rfl
@[simp] theorem setGroup_pp (n : Fin 16) (g : GroupRec) : (setGroup n g s).pp = s.pp := rfl
@[simp] theorem setGroup_mp (n : Fin 16) (g : GroupRec) : (setGroup n g s).mp = s.mp := rfl
@[simp] theorem setGroup_fc (n : Fin 16) (g : GroupRec) : (setGroup n g s).fc = s.fc := rfl
@[simp] theorem setGroup_tb (n : Fin 16) (g : GroupRec) : (setGroup n g s).tb = s.tb := rfl
@[simp] theorem setGroup_lines (n : Fin 16) (g : GroupRec) : (setGroup n g s).lines = s.lines := rfl
@[simp] theorem setGroup_free (n : Fin 16) (g : GroupRec) : (setGroup n g s).free = s.free := rfl

/-! ### setNotice -/

@[simp] theorem setNotice_pending (k : NoticeKind) (e : Bool) (p t : Nat) : (setNotice k e p t s).pending = s.pending := rfl
@[simp] theorem setNotice_phase (k : NoticeKind) (e : Bool) (p t : Nat) : (setNotice k e p t s).phase = s.phase := rfl
@[simp] theorem setNotice_ps (k : NoticeKind) (e : Bool) (p t : Nat) : (setNotice k e p t s).ps = s.ps := rfl
@[simp] theorem setNotice_di (k : NoticeKind) (e : Bool) (p t : Nat) : (setNotice k e p t s).di = s.di := rfl
@[simp] theorem setNotice_zh (k : NoticeKind) (e : Bool) (p t : Nat) : (setNotice k e p t s).zh = s.zh := rfl
@[simp] theorem setNotice_rsv (k : NoticeKind) (e : Bool) (p t : Nat) : (setNotice k e p t s).rsv = s.rsv := rfl
@[simp] theorem setNotice_slc (k : NoticeKind) (e : Bool) (p t : Nat) : (setNotice k e p t s).slc = s.slc := rfl
@[simp] theorem setNotice_pp (k : NoticeKind) (e : Bool) (p t : Nat) : (setNotice k e p t s).pp = s.pp := rfl
@[simp] theorem setNotice_fc (k : NoticeKind) (e : Bool) (p t : Nat) : (setNotice k e p t s).fc = s.fc := rfl
@[simp] theorem setNotice_tb (k : NoticeKind) (e : Bool) (p t : Nat) : (setNotice k e p t s).tb = s.tb := rfl
@[simp] theorem setNotice_lines (k : NoticeKind) (e : Bool) (p t : Nat) : (setNotice k e p t s).lines = s.lines := rfl
@[simp] theorem setNotice_free (k : NoticeKind) (e : Bool) (p t : Nat) : (setNotice k e p t s).free = s.free := rfl

/-! ### clearFaults -/

@[simp] theorem clearFaults_pending (zero ignore : Bool) : (clearFaults zero ignore s).pending = s.pending := rfl
@[simp] theorem clearFaults_phase (zero ignore : Bool) : (clearFaults zero ignore s).phase = s.phase := rfl
@[simp] theorem clearFaults_ps (zero ignore : Bool) : (clearFaults zero ignore s).ps = s.ps := rfl
@[simp] theorem clearFaults_di (zero ignore : Bool) : (clearFaults zero ignore s).di = s.di := rfl
@[simp] theorem clearFaults_zh (zero ignore : Bool) : (clearFaults zero ignore s).zh = s.zh := rfl
@[simp] theorem clearFaults_rsv (zero ignore : Bool) : (clearFaults zero ignore s).rsv = s.rsv := rfl
@[simp] theorem clearFaults_slc (zero ignore : Bool) : (clearFaults zero ignore s).slc = s.slc := rfl
@[simp] theorem clearFaults_pp (zero ignore : Bool) : (clearFaults zero ignore s).pp = s.pp := rfl
@[simp] theorem clearFaults_mp (zero ignore : Bool) : (clearFaults zero ignore s).mp = s.mp := rfl
@[simp] theorem clearFaults_tb (zero ignore : Bool) : (clearFaults zero ignore s).tb = s.tb := rfl
@[simp] theorem clearFaults_lines (zero ignore : Bool) : (clearFaults zero ignore s).lines = s.lines := rfl
@[simp] theorem clearFaults_free (zero ignore : Bool) : (clearFaults zero ignore s).free = s.free := rfl

/-! ### setCounter -/

@[simp] theorem setCounter_pending (n : Fin 2) (i : CounterInput) : (setCounter n i s).pending = s.pending := rfl
@[simp] theorem setCounter_phase (n : Fin 2) (i : CounterInput) : (setCounter n i s).phase = s.phase := rfl
@[simp] theorem setCounter_ps (n : Fin 2) (i : CounterInput) : (setCounter n i s).ps = s.ps := rfl
@[simp] theorem setCounter_di (n : Fin 2) (i : CounterInput) : (setCounter n i s).di = s.di := rfl
@[simp] theorem setCounter_zh (n : Fin 2) (i : CounterInput) : (setCounter n i s).zh = s.zh := rfl
@[simp] theorem setCounter_rsv (n : Fin 2) (i : CounterInput) : (setCounter n i s).rsv = s.rsv := rfl
@[simp] theorem setCounter_slc (n : Fin 2) (i : CounterInput) : (setCounter n i s).slc = s.slc := rfl
@[simp] theorem setCounter_pp (n : Fin 2) (i : CounterInput) : (setCounter n i s).pp = s.pp := rfl
@[simp] theorem setCounter_mp (n : Fin 2) (i : CounterInput) : (setCounter n i s).mp = s.mp := rfl
@[simp] theorem setCounter_tb (n : Fin 2) (i : CounterInput) : (setCounter n i s).tb = s.tb := rfl
@[simp] theorem setCounter_lines (n : Fin 2) (i : CounterInput) : (setCounter n i s).lines = s.lines := rfl
@[simp] theorem setCounter_free (n : Fin 2) (i : CounterInput) : (setCounter n i s).free = s.free := rfl

/-! ### setOutput -/

@[simp] theorem setOutput_pending (n : Fin 4) (g : Signal) (m : Option (Vector Bool 13)) : (setOutput n g m s).pending = s.pending := rfl
@[simp] theorem setOutput_phase (n : Fin 4) (g : Signal) (m : Option (Vector Bool 13)) : (setOutput n g m s).phase = s.phase := rfl
@[simp] theorem setOutput_ps (n : Fin 4) (g : Signal) (m : Option (Vector Bool 13)) : (setOutput n g m s).ps = s.ps := rfl
@[simp] theorem setOutput_di (n : Fin 4) (g : Signal) (m : Option (Vector Bool 13)) : (setOutput n g m s).di = s.di := rfl
@[simp] theorem setOutput_zh (n : Fin 4) (g : Signal) (m : Option (Vector Bool 13)) : (setOutput n g m s).zh = s.zh := rfl
@[simp] theorem setOutput_rsv (n : Fin 4) (g : Signal) (m : Option (Vector Bool 13)) : (setOutput n g m s).rsv = s.rsv := rfl
@[simp] theorem setOutput_slc (n : Fin 4) (g : Signal) (m : Option (Vector Bool 13)) : (setOutput n g m s).slc = s.slc := rfl
@[simp] theorem setOutput_pp (n : Fin 4) (g : Signal) (m : Option (Vector Bool 13)) : (setOutput n g m s).pp = s.pp := rfl
@[simp] theorem setOutput_mp (n : Fin 4) (g : Signal) (m : Option (Vector Bool 13)) : (setOutput n g m s).mp = s.mp := rfl
@[simp] theorem setOutput_tb (n : Fin 4) (g : Signal) (m : Option (Vector Bool 13)) : (setOutput n g m s).tb = s.tb := rfl
@[simp] theorem setOutput_lines (n : Fin 4) (g : Signal) (m : Option (Vector Bool 13)) : (setOutput n g m s).lines = s.lines := rfl
@[simp] theorem setOutput_free (n : Fin 4) (g : Signal) (m : Option (Vector Bool 13)) : (setOutput n g m s).free = s.free := rfl

/-! ### setExit -/

@[simp] theorem setExit_pending (e : Nat) (st : ExitState) : (setExit e st s).pending = s.pending := rfl
@[simp] theorem setExit_phase (e : Nat) (st : ExitState) : (setExit e st s).phase = s.phase := rfl
@[simp] theorem setExit_ps (e : Nat) (st : ExitState) : (setExit e st s).ps = s.ps := rfl
@[simp] theorem setExit_di (e : Nat) (st : ExitState) : (setExit e st s).di = s.di := rfl
@[simp] theorem setExit_zh (e : Nat) (st : ExitState) : (setExit e st s).zh = s.zh := rfl
@[simp] theorem setExit_slc (e : Nat) (st : ExitState) : (setExit e st s).slc = s.slc := rfl
@[simp] theorem setExit_pp (e : Nat) (st : ExitState) : (setExit e st s).pp = s.pp := rfl
@[simp] theorem setExit_mp (e : Nat) (st : ExitState) : (setExit e st s).mp = s.mp := rfl
@[simp] theorem setExit_fc (e : Nat) (st : ExitState) : (setExit e st s).fc = s.fc := rfl
@[simp] theorem setExit_tb (e : Nat) (st : ExitState) : (setExit e st s).tb = s.tb := rfl
@[simp] theorem setExit_lines (e : Nat) (st : ExitState) : (setExit e st s).lines = s.lines := rfl
@[simp] theorem setExit_free (e : Nat) (st : ExitState) : (setExit e st s).free = s.free := rfl

/-! ### setEvac -/

@[simp] theorem setEvac_pending (new : EvacState) (c : EvacCause) : (setEvac new c s).pending = s.pending := by unfold setEvac; split <;> rfl
@[simp] theorem setEvac_phase (new : EvacState) (c : EvacCause) : (setEvac new c s).phase = s.phase := by unfold setEvac; split <;> rfl
@[simp] theorem setEvac_ps (new : EvacState) (c : EvacCause) : (setEvac new c s).ps = s.ps := by unfold setEvac; split <;> rfl
@[simp] theorem setEvac_di (new : EvacState) (c : EvacCause) : (setEvac new c s).di = s.di := by unfold setEvac; split <;> rfl
@[simp] theorem setEvac_rsv (new : EvacState) (c : EvacCause) : (setEvac new c s).rsv = s.rsv := by unfold setEvac; split <;> rfl
@[simp] theorem setEvac_slc (new : EvacState) (c : EvacCause) : (setEvac new c s).slc = s.slc := by unfold setEvac; split <;> rfl
@[simp] theorem setEvac_pp (new : EvacState) (c : EvacCause) : (setEvac new c s).pp = s.pp := by unfold setEvac; split <;> rfl
@[simp] theorem setEvac_fc (new : EvacState) (c : EvacCause) : (setEvac new c s).fc = s.fc := by unfold setEvac; split <;> rfl
@[simp] theorem setEvac_tb (new : EvacState) (c : EvacCause) : (setEvac new c s).tb = s.tb := by unfold setEvac; split <;> rfl
@[simp] theorem setEvac_lines (new : EvacState) (c : EvacCause) : (setEvac new c s).lines = s.lines := by unfold setEvac; split <;> rfl
@[simp] theorem setEvac_free (new : EvacState) (c : EvacCause) : (setEvac new c s).free = s.free := by unfold setEvac; split <;> rfl

/-! ### checkNoRoute -/

@[simp] theorem checkNoRoute_pending : (checkNoRoute s).pending = s.pending := by unfold checkNoRoute; split <;> [(split <;> rfl); rfl]
@[simp] theorem checkNoRoute_phase : (checkNoRoute s).phase = s.phase := by unfold checkNoRoute; split <;> [(split <;> rfl); rfl]
@[simp] theorem checkNoRoute_ps : (checkNoRoute s).ps = s.ps := by unfold checkNoRoute; split <;> [(split <;> rfl); rfl]
@[simp] theorem checkNoRoute_di : (checkNoRoute s).di = s.di := by unfold checkNoRoute; split <;> [(split <;> rfl); rfl]
@[simp] theorem checkNoRoute_zh : (checkNoRoute s).zh = s.zh := by unfold checkNoRoute; split <;> [(split <;> rfl); rfl]
@[simp] theorem checkNoRoute_rsv : (checkNoRoute s).rsv = s.rsv := by unfold checkNoRoute; split <;> [(split <;> rfl); rfl]
@[simp] theorem checkNoRoute_slc : (checkNoRoute s).slc = s.slc := by unfold checkNoRoute; split <;> [(split <;> rfl); rfl]
@[simp] theorem checkNoRoute_pp : (checkNoRoute s).pp = s.pp := by unfold checkNoRoute; split <;> [(split <;> rfl); rfl]
@[simp] theorem checkNoRoute_fc : (checkNoRoute s).fc = s.fc := by unfold checkNoRoute; split <;> [(split <;> rfl); rfl]
@[simp] theorem checkNoRoute_tb : (checkNoRoute s).tb = s.tb := by unfold checkNoRoute; split <;> [(split <;> rfl); rfl]
@[simp] theorem checkNoRoute_lines : (checkNoRoute s).lines = s.lines := by unfold checkNoRoute; split <;> [(split <;> rfl); rfl]
@[simp] theorem checkNoRoute_free : (checkNoRoute s).free = s.free := by unfold checkNoRoute; split <;> [(split <;> rfl); rfl]

/-! ### enterActive -/

@[simp] theorem enterActive_pending (c : EvacCause) : (enterActive c s).pending = s.pending := by simp [enterActive]
@[simp] theorem enterActive_phase (c : EvacCause) : (enterActive c s).phase = s.phase := by simp [enterActive]
@[simp] theorem enterActive_ps (c : EvacCause) : (enterActive c s).ps = s.ps := by simp [enterActive]
@[simp] theorem enterActive_di (c : EvacCause) : (enterActive c s).di = s.di := by simp [enterActive]
@[simp] theorem enterActive_rsv (c : EvacCause) : (enterActive c s).rsv = s.rsv := by simp [enterActive]
@[simp] theorem enterActive_slc (c : EvacCause) : (enterActive c s).slc = s.slc := by simp [enterActive]
@[simp] theorem enterActive_pp (c : EvacCause) : (enterActive c s).pp = s.pp := by simp [enterActive]
@[simp] theorem enterActive_fc (c : EvacCause) : (enterActive c s).fc = s.fc := by simp [enterActive]
@[simp] theorem enterActive_tb (c : EvacCause) : (enterActive c s).tb = s.tb := by simp [enterActive]
@[simp] theorem enterActive_lines (c : EvacCause) : (enterActive c s).lines = s.lines := by simp [enterActive]
@[simp] theorem enterActive_free (c : EvacCause) : (enterActive c s).free = s.free := by simp [enterActive]

/-! ### leaveActive -/

@[simp] theorem leaveActive_pending (c : EvacCause) : (leaveActive c s).pending = s.pending := by simp [leaveActive]
@[simp] theorem leaveActive_phase (c : EvacCause) : (leaveActive c s).phase = s.phase := by simp [leaveActive]
@[simp] theorem leaveActive_ps (c : EvacCause) : (leaveActive c s).ps = s.ps := by simp [leaveActive]
@[simp] theorem leaveActive_di (c : EvacCause) : (leaveActive c s).di = s.di := by simp [leaveActive]
@[simp] theorem leaveActive_rsv (c : EvacCause) : (leaveActive c s).rsv = s.rsv := by simp [leaveActive]
@[simp] theorem leaveActive_pp (c : EvacCause) : (leaveActive c s).pp = s.pp := by simp [leaveActive]
@[simp] theorem leaveActive_fc (c : EvacCause) : (leaveActive c s).fc = s.fc := by simp [leaveActive]
@[simp] theorem leaveActive_tb (c : EvacCause) : (leaveActive c s).tb = s.tb := by simp [leaveActive]
@[simp] theorem leaveActive_lines (c : EvacCause) : (leaveActive c s).lines = s.lines := by simp [leaveActive]
@[simp] theorem leaveActive_free (c : EvacCause) : (leaveActive c s).free = s.free := by simp [leaveActive]

/-! ### evacAfterZone -/

@[simp] theorem evacAfterZone_pending (zone : Nat) (st : ZoneState) : (evacAfterZone zone st s).pending = s.pending := by unfold evacAfterZone; split <;> [rfl; (split <;> simp)]
@[simp] theorem evacAfterZone_phase (zone : Nat) (st : ZoneState) : (evacAfterZone zone st s).phase = s.phase := by unfold evacAfterZone; split <;> [rfl; (split <;> simp)]
@[simp] theorem evacAfterZone_ps (zone : Nat) (st : ZoneState) : (evacAfterZone zone st s).ps = s.ps := by unfold evacAfterZone; split <;> [rfl; (split <;> simp)]
@[simp] theorem evacAfterZone_di (zone : Nat) (st : ZoneState) : (evacAfterZone zone st s).di = s.di := by unfold evacAfterZone; split <;> [rfl; (split <;> simp)]
@[simp] theorem evacAfterZone_rsv (zone : Nat) (st : ZoneState) : (evacAfterZone zone st s).rsv = s.rsv := by unfold evacAfterZone; split <;> [rfl; (split <;> simp)]
@[simp] theorem evacAfterZone_slc (zone : Nat) (st : ZoneState) : (evacAfterZone zone st s).slc = s.slc := by unfold evacAfterZone; split <;> [rfl; (split <;> simp)]
@[simp] theorem evacAfterZone_pp (zone : Nat) (st : ZoneState) : (evacAfterZone zone st s).pp = s.pp := by unfold evacAfterZone; split <;> [rfl; (split <;> simp)]
@[simp] theorem evacAfterZone_fc (zone : Nat) (st : ZoneState) : (evacAfterZone zone st s).fc = s.fc := by unfold evacAfterZone; split <;> [rfl; (split <;> simp)]
@[simp] theorem evacAfterZone_tb (zone : Nat) (st : ZoneState) : (evacAfterZone zone st s).tb = s.tb := by unfold evacAfterZone; split <;> [rfl; (split <;> simp)]
@[simp] theorem evacAfterZone_lines (zone : Nat) (st : ZoneState) : (evacAfterZone zone st s).lines = s.lines := by unfold evacAfterZone; split <;> [rfl; (split <;> simp)]
@[simp] theorem evacAfterZone_free (zone : Nat) (st : ZoneState) : (evacAfterZone zone st s).free = s.free := by unfold evacAfterZone; split <;> [rfl; (split <;> simp)]

/-! ### zoneChanged -/

@[simp] theorem zoneChanged_pending (zone : Nat) (a b : ZoneState) : (zoneChanged zone a b s).pending = s.pending := by simp [zoneChanged]
@[simp] theorem zoneChanged_phase (zone : Nat) (a b : ZoneState) : (zoneChanged zone a b s).phase = s.phase := by simp [zoneChanged]
@[simp] theorem zoneChanged_ps (zone : Nat) (a b : ZoneState) : (zoneChanged zone a b s).ps = s.ps := by simp [zoneChanged]
@[simp] theorem zoneChanged_di (zone : Nat) (a b : ZoneState) : (zoneChanged zone a b s).di = s.di := by simp [zoneChanged]
@[simp] theorem zoneChanged_slc (zone : Nat) (a b : ZoneState) : (zoneChanged zone a b s).slc = s.slc := by simp [zoneChanged]
@[simp] theorem zoneChanged_pp (zone : Nat) (a b : ZoneState) : (zoneChanged zone a b s).pp = s.pp := by simp [zoneChanged]
@[simp] theorem zoneChanged_fc (zone : Nat) (a b : ZoneState) : (zoneChanged zone a b s).fc = s.fc := by simp [zoneChanged]
@[simp] theorem zoneChanged_tb (zone : Nat) (a b : ZoneState) : (zoneChanged zone a b s).tb = s.tb := by simp [zoneChanged]
@[simp] theorem zoneChanged_lines (zone : Nat) (a b : ZoneState) : (zoneChanged zone a b s).lines = s.lines := by simp [zoneChanged]
@[simp] theorem zoneChanged_free (zone : Nat) (a b : ZoneState) : (zoneChanged zone a b s).free = s.free := by simp [zoneChanged]

/-! ### updateZone -/

@[simp] theorem updateZone_pending (zone : Nat) (a b : ZoneRun) : (updateZone zone a b s).pending = s.pending := by unfold updateZone; split <;> simp
@[simp] theorem updateZone_phase (zone : Nat) (a b : ZoneRun) : (updateZone zone a b s).phase = s.phase := by unfold updateZone; split <;> simp
@[simp] theorem updateZone_ps (zone : Nat) (a b : ZoneRun) : (updateZone zone a b s).ps = s.ps := by unfold updateZone; split <;> simp
@[simp] theorem updateZone_di (zone : Nat) (a b : ZoneRun) : (updateZone zone a b s).di = s.di := by unfold updateZone; split <;> simp
@[simp] theorem updateZone_slc (zone : Nat) (a b : ZoneRun) : (updateZone zone a b s).slc = s.slc := by unfold updateZone; split <;> simp
@[simp] theorem updateZone_pp (zone : Nat) (a b : ZoneRun) : (updateZone zone a b s).pp = s.pp := by unfold updateZone; split <;> simp
@[simp] theorem updateZone_fc (zone : Nat) (a b : ZoneRun) : (updateZone zone a b s).fc = s.fc := by unfold updateZone; split <;> simp
@[simp] theorem updateZone_tb (zone : Nat) (a b : ZoneRun) : (updateZone zone a b s).tb = s.tb := by unfold updateZone; split <;> simp
@[simp] theorem updateZone_lines (zone : Nat) (a b : ZoneRun) : (updateZone zone a b s).lines = s.lines := by unfold updateZone; split <;> simp
@[simp] theorem updateZone_free (zone : Nat) (a b : ZoneRun) : (updateZone zone a b s).free = s.free := by unfold updateZone; split <;> simp

/-! ### wantSolveIf -/

@[simp] theorem wantSolveIf_pending (c : Bool) : (wantSolveIf c s).pending = s.pending := by unfold wantSolveIf; split <;> rfl
@[simp] theorem wantSolveIf_phase (c : Bool) : (wantSolveIf c s).phase = s.phase := by unfold wantSolveIf; split <;> rfl
@[simp] theorem wantSolveIf_ps (c : Bool) : (wantSolveIf c s).ps = s.ps := by unfold wantSolveIf; split <;> rfl
@[simp] theorem wantSolveIf_di (c : Bool) : (wantSolveIf c s).di = s.di := by unfold wantSolveIf; split <;> rfl
@[simp] theorem wantSolveIf_zh (c : Bool) : (wantSolveIf c s).zh = s.zh := by unfold wantSolveIf; split <;> rfl
@[simp] theorem wantSolveIf_slc (c : Bool) : (wantSolveIf c s).slc = s.slc := by unfold wantSolveIf; split <;> rfl
@[simp] theorem wantSolveIf_pp (c : Bool) : (wantSolveIf c s).pp = s.pp := by unfold wantSolveIf; split <;> rfl
@[simp] theorem wantSolveIf_mp (c : Bool) : (wantSolveIf c s).mp = s.mp := by unfold wantSolveIf; split <;> rfl
@[simp] theorem wantSolveIf_fc (c : Bool) : (wantSolveIf c s).fc = s.fc := by unfold wantSolveIf; split <;> rfl
@[simp] theorem wantSolveIf_tb (c : Bool) : (wantSolveIf c s).tb = s.tb := by unfold wantSolveIf; split <;> rfl
@[simp] theorem wantSolveIf_lines (c : Bool) : (wantSolveIf c s).lines = s.lines := by unfold wantSolveIf; split <;> rfl
@[simp] theorem wantSolveIf_free (c : Bool) : (wantSolveIf c s).free = s.free := by unfold wantSolveIf; split <;> rfl

/-! ### raiseIf -/

@[simp] theorem raiseIf_pending (c : Bool) (body : NoticeBody) : (raiseIf c body s).pending = s.pending := by unfold raiseIf; split <;> rfl
@[simp] theorem raiseIf_phase (c : Bool) (body : NoticeBody) : (raiseIf c body s).phase = s.phase := by unfold raiseIf; split <;> rfl
@[simp] theorem raiseIf_ps (c : Bool) (body : NoticeBody) : (raiseIf c body s).ps = s.ps := by unfold raiseIf; split <;> rfl
@[simp] theorem raiseIf_di (c : Bool) (body : NoticeBody) : (raiseIf c body s).di = s.di := by unfold raiseIf; split <;> rfl
@[simp] theorem raiseIf_zh (c : Bool) (body : NoticeBody) : (raiseIf c body s).zh = s.zh := by unfold raiseIf; split <;> rfl
@[simp] theorem raiseIf_rsv (c : Bool) (body : NoticeBody) : (raiseIf c body s).rsv = s.rsv := by unfold raiseIf; split <;> rfl
@[simp] theorem raiseIf_slc (c : Bool) (body : NoticeBody) : (raiseIf c body s).slc = s.slc := by unfold raiseIf; split <;> rfl
@[simp] theorem raiseIf_pp (c : Bool) (body : NoticeBody) : (raiseIf c body s).pp = s.pp := by unfold raiseIf; split <;> rfl
@[simp] theorem raiseIf_fc (c : Bool) (body : NoticeBody) : (raiseIf c body s).fc = s.fc := by unfold raiseIf; split <;> rfl
@[simp] theorem raiseIf_tb (c : Bool) (body : NoticeBody) : (raiseIf c body s).tb = s.tb := by unfold raiseIf; split <;> rfl
@[simp] theorem raiseIf_lines (c : Bool) (body : NoticeBody) : (raiseIf c body s).lines = s.lines := by unfold raiseIf; split <;> rfl
@[simp] theorem raiseIf_free (c : Bool) (body : NoticeBody) : (raiseIf c body s).free = s.free := by unfold raiseIf; split <;> rfl

/-! ### setPort -/

@[simp] theorem setPort_pending (port : PeerPort) (st : PortState) (adv : Nat → Option Advertisement) : (setPort port st adv s).pending = s.pending := by simp [setPort]
@[simp] theorem setPort_phase (port : PeerPort) (st : PortState) (adv : Nat → Option Advertisement) : (setPort port st adv s).phase = s.phase := by simp [setPort]
@[simp] theorem setPort_ps (port : PeerPort) (st : PortState) (adv : Nat → Option Advertisement) : (setPort port st adv s).ps = s.ps := by simp [setPort]
@[simp] theorem setPort_di (port : PeerPort) (st : PortState) (adv : Nat → Option Advertisement) : (setPort port st adv s).di = s.di := by simp [setPort]
@[simp] theorem setPort_zh (port : PeerPort) (st : PortState) (adv : Nat → Option Advertisement) : (setPort port st adv s).zh = s.zh := by simp [setPort]
@[simp] theorem setPort_slc (port : PeerPort) (st : PortState) (adv : Nat → Option Advertisement) : (setPort port st adv s).slc = s.slc := by simp [setPort]
@[simp] theorem setPort_fc (port : PeerPort) (st : PortState) (adv : Nat → Option Advertisement) : (setPort port st adv s).fc = s.fc := by simp [setPort]
@[simp] theorem setPort_tb (port : PeerPort) (st : PortState) (adv : Nat → Option Advertisement) : (setPort port st adv s).tb = s.tb := by simp [setPort]
@[simp] theorem setPort_lines (port : PeerPort) (st : PortState) (adv : Nat → Option Advertisement) : (setPort port st adv s).lines = s.lines := by simp [setPort]
@[simp] theorem setPort_free (port : PeerPort) (st : PortState) (adv : Nat → Option Advertisement) : (setPort port st adv s).free = s.free := by simp [setPort]

/-! ### signTroubled -/

@[simp] theorem signTroubled_pending (k : FaultKind) (i : Nat) (g : SignRun) : (signTroubled k i g s).pending = s.pending := rfl
@[simp] theorem signTroubled_phase (k : FaultKind) (i : Nat) (g : SignRun) : (signTroubled k i g s).phase = s.phase := rfl
@[simp] theorem signTroubled_ps (k : FaultKind) (i : Nat) (g : SignRun) : (signTroubled k i g s).ps = s.ps := rfl
@[simp] theorem signTroubled_di (k : FaultKind) (i : Nat) (g : SignRun) : (signTroubled k i g s).di = s.di := rfl
@[simp] theorem signTroubled_zh (k : FaultKind) (i : Nat) (g : SignRun) : (signTroubled k i g s).zh = s.zh := rfl
@[simp] theorem signTroubled_rsv (k : FaultKind) (i : Nat) (g : SignRun) : (signTroubled k i g s).rsv = s.rsv := rfl
@[simp] theorem signTroubled_slc (k : FaultKind) (i : Nat) (g : SignRun) : (signTroubled k i g s).slc = s.slc := rfl
@[simp] theorem signTroubled_pp (k : FaultKind) (i : Nat) (g : SignRun) : (signTroubled k i g s).pp = s.pp := rfl
@[simp] theorem signTroubled_tb (k : FaultKind) (i : Nat) (g : SignRun) : (signTroubled k i g s).tb = s.tb := rfl
@[simp] theorem signTroubled_lines (k : FaultKind) (i : Nat) (g : SignRun) : (signTroubled k i g s).lines = s.lines := rfl
@[simp] theorem signTroubled_free (k : FaultKind) (i : Nat) (g : SignRun) : (signTroubled k i g s).free = s.free := rfl

/-! ### setLock -/

@[simp] theorem setLock_pending (n : LockState × Nat × Nat) (t : Timer) (p : Option Nat) : (setLock n t p s).pending = s.pending := by unfold setLock; simp only []; (repeat' split) <;> rfl
@[simp] theorem setLock_phase (n : LockState × Nat × Nat) (t : Timer) (p : Option Nat) : (setLock n t p s).phase = s.phase := by unfold setLock; simp only []; (repeat' split) <;> rfl
@[simp] theorem setLock_ps (n : LockState × Nat × Nat) (t : Timer) (p : Option Nat) : (setLock n t p s).ps = s.ps := by unfold setLock; simp only []; (repeat' split) <;> rfl
@[simp] theorem setLock_zh (n : LockState × Nat × Nat) (t : Timer) (p : Option Nat) : (setLock n t p s).zh = s.zh := by unfold setLock; simp only []; (repeat' split) <;> rfl
@[simp] theorem setLock_rsv (n : LockState × Nat × Nat) (t : Timer) (p : Option Nat) : (setLock n t p s).rsv = s.rsv := by unfold setLock; simp only []; (repeat' split) <;> rfl
@[simp] theorem setLock_slc (n : LockState × Nat × Nat) (t : Timer) (p : Option Nat) : (setLock n t p s).slc = s.slc := by unfold setLock; simp only []; (repeat' split) <;> rfl
@[simp] theorem setLock_pp (n : LockState × Nat × Nat) (t : Timer) (p : Option Nat) : (setLock n t p s).pp = s.pp := by unfold setLock; simp only []; (repeat' split) <;> rfl
@[simp] theorem setLock_tb (n : LockState × Nat × Nat) (t : Timer) (p : Option Nat) : (setLock n t p s).tb = s.tb := by unfold setLock; simp only []; (repeat' split) <;> rfl
@[simp] theorem setLock_lines (n : LockState × Nat × Nat) (t : Timer) (p : Option Nat) : (setLock n t p s).lines = s.lines := by unfold setLock; simp only []; (repeat' split) <;> rfl
@[simp] theorem setLock_free (n : LockState × Nat × Nat) (t : Timer) (p : Option Nat) : (setLock n t p s).free = s.free := by unfold setLock; simp only []; (repeat' split) <;> rfl

/-! ### evaluateZone -/

@[simp] theorem evaluateZone_pending (zone : Nat) (peak : Level) : (evaluateZone zone peak s).pending = s.pending := by unfold evaluateZone; split <;> simp
@[simp] theorem evaluateZone_phase (zone : Nat) (peak : Level) : (evaluateZone zone peak s).phase = s.phase := by unfold evaluateZone; split <;> simp
@[simp] theorem evaluateZone_ps (zone : Nat) (peak : Level) : (evaluateZone zone peak s).ps = s.ps := by unfold evaluateZone; split <;> simp
@[simp] theorem evaluateZone_di (zone : Nat) (peak : Level) : (evaluateZone zone peak s).di = s.di := by unfold evaluateZone; split <;> simp
@[simp] theorem evaluateZone_slc (zone : Nat) (peak : Level) : (evaluateZone zone peak s).slc = s.slc := by unfold evaluateZone; split <;> simp
@[simp] theorem evaluateZone_pp (zone : Nat) (peak : Level) : (evaluateZone zone peak s).pp = s.pp := by unfold evaluateZone; split <;> simp
@[simp] theorem evaluateZone_fc (zone : Nat) (peak : Level) : (evaluateZone zone peak s).fc = s.fc := by unfold evaluateZone; split <;> simp
@[simp] theorem evaluateZone_tb (zone : Nat) (peak : Level) : (evaluateZone zone peak s).tb = s.tb := by unfold evaluateZone; split <;> simp
@[simp] theorem evaluateZone_lines (zone : Nat) (peak : Level) : (evaluateZone zone peak s).lines = s.lines := by unfold evaluateZone; split <;> simp
@[simp] theorem evaluateZone_free (zone : Nat) (peak : Level) : (evaluateZone zone peak s).free = s.free := by unfold evaluateZone; split <;> simp

/-! ### tableReport -/

@[simp] theorem tableReport_pending (a z : Nat) (l : Level) (q : Option Nat) (src : Source) : (tableReport a z l q src s).pending = s.pending := by unfold tableReport; (repeat' split) <;> simp
@[simp] theorem tableReport_phase (a z : Nat) (l : Level) (q : Option Nat) (src : Source) : (tableReport a z l q src s).phase = s.phase := by unfold tableReport; (repeat' split) <;> simp
@[simp] theorem tableReport_ps (a z : Nat) (l : Level) (q : Option Nat) (src : Source) : (tableReport a z l q src s).ps = s.ps := by unfold tableReport; (repeat' split) <;> simp
@[simp] theorem tableReport_zh (a z : Nat) (l : Level) (q : Option Nat) (src : Source) : (tableReport a z l q src s).zh = s.zh := by unfold tableReport; (repeat' split) <;> simp
@[simp] theorem tableReport_rsv (a z : Nat) (l : Level) (q : Option Nat) (src : Source) : (tableReport a z l q src s).rsv = s.rsv := by unfold tableReport; (repeat' split) <;> simp
@[simp] theorem tableReport_slc (a z : Nat) (l : Level) (q : Option Nat) (src : Source) : (tableReport a z l q src s).slc = s.slc := by unfold tableReport; (repeat' split) <;> simp
@[simp] theorem tableReport_pp (a z : Nat) (l : Level) (q : Option Nat) (src : Source) : (tableReport a z l q src s).pp = s.pp := by unfold tableReport; (repeat' split) <;> simp
@[simp] theorem tableReport_tb (a z : Nat) (l : Level) (q : Option Nat) (src : Source) : (tableReport a z l q src s).tb = s.tb := by unfold tableReport; (repeat' split) <;> simp
@[simp] theorem tableReport_lines (a z : Nat) (l : Level) (q : Option Nat) (src : Source) : (tableReport a z l q src s).lines = s.lines := by unfold tableReport; (repeat' split) <;> simp
@[simp] theorem tableReport_free (a z : Nat) (l : Level) (q : Option Nat) (src : Source) : (tableReport a z l q src s).free = s.free := by unfold tableReport; (repeat' split) <;> simp

/-! ### makeReport -/

@[simp] theorem makeReport_pending (a : Nat) (l : Level) (q : Option Nat) (src : Source) : (makeReport a l q src s).pending = s.pending := by unfold makeReport; (repeat' split) <;> simp
@[simp] theorem makeReport_phase (a : Nat) (l : Level) (q : Option Nat) (src : Source) : (makeReport a l q src s).phase = s.phase := by unfold makeReport; (repeat' split) <;> simp
@[simp] theorem makeReport_ps (a : Nat) (l : Level) (q : Option Nat) (src : Source) : (makeReport a l q src s).ps = s.ps := by unfold makeReport; (repeat' split) <;> simp
@[simp] theorem makeReport_zh (a : Nat) (l : Level) (q : Option Nat) (src : Source) : (makeReport a l q src s).zh = s.zh := by unfold makeReport; (repeat' split) <;> simp
@[simp] theorem makeReport_rsv (a : Nat) (l : Level) (q : Option Nat) (src : Source) : (makeReport a l q src s).rsv = s.rsv := by unfold makeReport; (repeat' split) <;> simp
@[simp] theorem makeReport_slc (a : Nat) (l : Level) (q : Option Nat) (src : Source) : (makeReport a l q src s).slc = s.slc := by unfold makeReport; (repeat' split) <;> simp
@[simp] theorem makeReport_pp (a : Nat) (l : Level) (q : Option Nat) (src : Source) : (makeReport a l q src s).pp = s.pp := by unfold makeReport; (repeat' split) <;> simp
@[simp] theorem makeReport_tb (a : Nat) (l : Level) (q : Option Nat) (src : Source) : (makeReport a l q src s).tb = s.tb := by unfold makeReport; (repeat' split) <;> simp
@[simp] theorem makeReport_lines (a : Nat) (l : Level) (q : Option Nat) (src : Source) : (makeReport a l q src s).lines = s.lines := by unfold makeReport; (repeat' split) <;> simp
@[simp] theorem makeReport_free (a : Nat) (l : Level) (q : Option Nat) (src : Source) : (makeReport a l q src s).free = s.free := by unfold makeReport; (repeat' split) <;> simp

/-! ### sendTrigger -/

@[simp] theorem sendTrigger_pending (port : PeerPort) : (sendTrigger port s).pending = s.pending := by unfold sendTrigger; simp only []; (repeat' split) <;> simp
@[simp] theorem sendTrigger_phase (port : PeerPort) : (sendTrigger port s).phase = s.phase := by unfold sendTrigger; simp only []; (repeat' split) <;> simp
@[simp] theorem sendTrigger_ps (port : PeerPort) : (sendTrigger port s).ps = s.ps := by unfold sendTrigger; simp only []; (repeat' split) <;> simp
@[simp] theorem sendTrigger_di (port : PeerPort) : (sendTrigger port s).di = s.di := by unfold sendTrigger; simp only []; (repeat' split) <;> simp
@[simp] theorem sendTrigger_zh (port : PeerPort) : (sendTrigger port s).zh = s.zh := by unfold sendTrigger; simp only []; (repeat' split) <;> simp
@[simp] theorem sendTrigger_rsv (port : PeerPort) : (sendTrigger port s).rsv = s.rsv := by unfold sendTrigger; simp only []; (repeat' split) <;> simp
@[simp] theorem sendTrigger_slc (port : PeerPort) : (sendTrigger port s).slc = s.slc := by unfold sendTrigger; simp only []; (repeat' split) <;> simp
@[simp] theorem sendTrigger_mp (port : PeerPort) : (sendTrigger port s).mp = s.mp := by unfold sendTrigger; simp only []; (repeat' split) <;> simp
@[simp] theorem sendTrigger_fc (port : PeerPort) : (sendTrigger port s).fc = s.fc := by unfold sendTrigger; simp only []; (repeat' split) <;> simp
@[simp] theorem sendTrigger_tb (port : PeerPort) : (sendTrigger port s).tb = s.tb := by unfold sendTrigger; simp only []; (repeat' split) <;> simp
@[simp] theorem sendTrigger_lines (port : PeerPort) : (sendTrigger port s).lines = s.lines := by unfold sendTrigger; simp only []; (repeat' split) <;> simp
@[simp] theorem sendTrigger_free (port : PeerPort) : (sendTrigger port s).free = s.free := by unfold sendTrigger; simp only []; (repeat' split) <;> simp

/-! ### cycleStart -/

@[simp] theorem cycleStart_pending : (cycleStart s).pending = s.pending := by unfold cycleStart; (repeat' split) <;> rfl
@[simp] theorem cycleStart_phase : (cycleStart s).phase = s.phase := by unfold cycleStart; (repeat' split) <;> rfl
@[simp] theorem cycleStart_ps : (cycleStart s).ps = s.ps := by unfold cycleStart; (repeat' split) <;> rfl
@[simp] theorem cycleStart_di : (cycleStart s).di = s.di := by unfold cycleStart; (repeat' split) <;> rfl
@[simp] theorem cycleStart_zh : (cycleStart s).zh = s.zh := by unfold cycleStart; (repeat' split) <;> rfl
@[simp] theorem cycleStart_rsv : (cycleStart s).rsv = s.rsv := by unfold cycleStart; (repeat' split) <;> rfl
@[simp] theorem cycleStart_pp : (cycleStart s).pp = s.pp := by unfold cycleStart; (repeat' split) <;> rfl
@[simp] theorem cycleStart_mp : (cycleStart s).mp = s.mp := by unfold cycleStart; (repeat' split) <;> rfl
@[simp] theorem cycleStart_fc : (cycleStart s).fc = s.fc := by unfold cycleStart; (repeat' split) <;> rfl
@[simp] theorem cycleStart_tb : (cycleStart s).tb = s.tb := by unfold cycleStart; (repeat' split) <;> rfl
@[simp] theorem cycleStart_lines : (cycleStart s).lines = s.lines := by unfold cycleStart; (repeat' split) <;> rfl
@[simp] theorem cycleStart_free : (cycleStart s).free = s.free := by unfold cycleStart; (repeat' split) <;> rfl

/-! ### requestStart -/

@[simp] theorem requestStart_pending : (requestStart s).pending = s.pending := by unfold requestStart; split <;> simp
@[simp] theorem requestStart_phase : (requestStart s).phase = s.phase := by unfold requestStart; split <;> simp
@[simp] theorem requestStart_ps : (requestStart s).ps = s.ps := by unfold requestStart; split <;> simp
@[simp] theorem requestStart_di : (requestStart s).di = s.di := by unfold requestStart; split <;> simp
@[simp] theorem requestStart_zh : (requestStart s).zh = s.zh := by unfold requestStart; split <;> simp
@[simp] theorem requestStart_rsv : (requestStart s).rsv = s.rsv := by unfold requestStart; split <;> simp
@[simp] theorem requestStart_pp : (requestStart s).pp = s.pp := by unfold requestStart; split <;> simp
@[simp] theorem requestStart_mp : (requestStart s).mp = s.mp := by unfold requestStart; split <;> simp
@[simp] theorem requestStart_fc : (requestStart s).fc = s.fc := by unfold requestStart; split <;> simp
@[simp] theorem requestStart_tb : (requestStart s).tb = s.tb := by unfold requestStart; split <;> simp
@[simp] theorem requestStart_lines : (requestStart s).lines = s.lines := by unfold requestStart; split <;> simp
@[simp] theorem requestStart_free : (requestStart s).free = s.free := by unfold requestStart; split <;> simp

/-! ### exchangeEnded -/

@[simp] theorem exchangeEnded_pending : (exchangeEnded s).pending = s.pending := by unfold exchangeEnded cycleCut cycleEnd; simp only []; (repeat' split) <;> simp
@[simp] theorem exchangeEnded_phase : (exchangeEnded s).phase = s.phase := by unfold exchangeEnded cycleCut cycleEnd; simp only []; (repeat' split) <;> simp
@[simp] theorem exchangeEnded_ps : (exchangeEnded s).ps = s.ps := by unfold exchangeEnded cycleCut cycleEnd; simp only []; (repeat' split) <;> simp
@[simp] theorem exchangeEnded_di : (exchangeEnded s).di = s.di := by unfold exchangeEnded cycleCut cycleEnd; simp only []; (repeat' split) <;> simp
@[simp] theorem exchangeEnded_zh : (exchangeEnded s).zh = s.zh := by unfold exchangeEnded cycleCut cycleEnd; simp only []; (repeat' split) <;> simp
@[simp] theorem exchangeEnded_rsv : (exchangeEnded s).rsv = s.rsv := by unfold exchangeEnded cycleCut cycleEnd; simp only []; (repeat' split) <;> simp
@[simp] theorem exchangeEnded_pp : (exchangeEnded s).pp = s.pp := by unfold exchangeEnded cycleCut cycleEnd; simp only []; (repeat' split) <;> simp
@[simp] theorem exchangeEnded_mp : (exchangeEnded s).mp = s.mp := by unfold exchangeEnded cycleCut cycleEnd; simp only []; (repeat' split) <;> simp
@[simp] theorem exchangeEnded_tb : (exchangeEnded s).tb = s.tb := by unfold exchangeEnded cycleCut cycleEnd; simp only []; (repeat' split) <;> simp
@[simp] theorem exchangeEnded_lines : (exchangeEnded s).lines = s.lines := by unfold exchangeEnded cycleCut cycleEnd; simp only []; (repeat' split) <;> simp
@[simp] theorem exchangeEnded_free : (exchangeEnded s).free = s.free := by unfold exchangeEnded cycleCut cycleEnd; simp only []; (repeat' split) <;> simp

/-! ### replyTaken -/

@[simp] theorem replyTaken_pending (t : Target) (l : Lamp) : (replyTaken t l s).pending = s.pending := by unfold replyTaken; simp only []; (repeat' split) <;> simp
@[simp] theorem replyTaken_phase (t : Target) (l : Lamp) : (replyTaken t l s).phase = s.phase := by unfold replyTaken; simp only []; (repeat' split) <;> simp
@[simp] theorem replyTaken_ps (t : Target) (l : Lamp) : (replyTaken t l s).ps = s.ps := by unfold replyTaken; simp only []; (repeat' split) <;> simp
@[simp] theorem replyTaken_di (t : Target) (l : Lamp) : (replyTaken t l s).di = s.di := by unfold replyTaken; simp only []; (repeat' split) <;> simp
@[simp] theorem replyTaken_zh (t : Target) (l : Lamp) : (replyTaken t l s).zh = s.zh := by unfold replyTaken; simp only []; (repeat' split) <;> simp
@[simp] theorem replyTaken_rsv (t : Target) (l : Lamp) : (replyTaken t l s).rsv = s.rsv := by unfold replyTaken; simp only []; (repeat' split) <;> simp
@[simp] theorem replyTaken_pp (t : Target) (l : Lamp) : (replyTaken t l s).pp = s.pp := by unfold replyTaken; simp only []; (repeat' split) <;> simp
@[simp] theorem replyTaken_tb (t : Target) (l : Lamp) : (replyTaken t l s).tb = s.tb := by unfold replyTaken; simp only []; (repeat' split) <;> simp
@[simp] theorem replyTaken_lines (t : Target) (l : Lamp) : (replyTaken t l s).lines = s.lines := by unfold replyTaken; simp only []; (repeat' split) <;> simp
@[simp] theorem replyTaken_free (t : Target) (l : Lamp) : (replyTaken t l s).free = s.free := by unfold replyTaken; simp only []; (repeat' split) <;> simp

/-! ### signMissed -/

@[simp] theorem signMissed_pending (t : Target) (o : SignOutcome) : (signMissed t o s).pending = s.pending := by unfold signMissed; simp only []; (repeat' split) <;> simp
@[simp] theorem signMissed_phase (t : Target) (o : SignOutcome) : (signMissed t o s).phase = s.phase := by unfold signMissed; simp only []; (repeat' split) <;> simp
@[simp] theorem signMissed_ps (t : Target) (o : SignOutcome) : (signMissed t o s).ps = s.ps := by unfold signMissed; simp only []; (repeat' split) <;> simp
@[simp] theorem signMissed_di (t : Target) (o : SignOutcome) : (signMissed t o s).di = s.di := by unfold signMissed; simp only []; (repeat' split) <;> simp
@[simp] theorem signMissed_zh (t : Target) (o : SignOutcome) : (signMissed t o s).zh = s.zh := by unfold signMissed; simp only []; (repeat' split) <;> simp
@[simp] theorem signMissed_rsv (t : Target) (o : SignOutcome) : (signMissed t o s).rsv = s.rsv := by unfold signMissed; simp only []; (repeat' split) <;> simp
@[simp] theorem signMissed_pp (t : Target) (o : SignOutcome) : (signMissed t o s).pp = s.pp := by unfold signMissed; simp only []; (repeat' split) <;> simp
@[simp] theorem signMissed_tb (t : Target) (o : SignOutcome) : (signMissed t o s).tb = s.tb := by unfold signMissed; simp only []; (repeat' split) <;> simp
@[simp] theorem signMissed_lines (t : Target) (o : SignOutcome) : (signMissed t o s).lines = s.lines := by unfold signMissed; simp only []; (repeat' split) <;> simp
@[simp] theorem signMissed_free (t : Target) (o : SignOutcome) : (signMissed t o s).free = s.free := by unfold signMissed; simp only []; (repeat' split) <;> simp

/-! ### noticeStart -/

@[simp] theorem noticeStart_pending : (noticeStart s).pending = s.pending := by unfold noticeStart; (repeat' split) <;> rfl
@[simp] theorem noticeStart_phase : (noticeStart s).phase = s.phase := by unfold noticeStart; (repeat' split) <;> rfl
@[simp] theorem noticeStart_ps : (noticeStart s).ps = s.ps := by unfold noticeStart; (repeat' split) <;> rfl
@[simp] theorem noticeStart_di : (noticeStart s).di = s.di := by unfold noticeStart; (repeat' split) <;> rfl
@[simp] theorem noticeStart_zh : (noticeStart s).zh = s.zh := by unfold noticeStart; (repeat' split) <;> rfl
@[simp] theorem noticeStart_rsv : (noticeStart s).rsv = s.rsv := by unfold noticeStart; (repeat' split) <;> rfl
@[simp] theorem noticeStart_slc : (noticeStart s).slc = s.slc := by unfold noticeStart; (repeat' split) <;> rfl
@[simp] theorem noticeStart_pp : (noticeStart s).pp = s.pp := by unfold noticeStart; (repeat' split) <;> rfl
@[simp] theorem noticeStart_fc : (noticeStart s).fc = s.fc := by unfold noticeStart; (repeat' split) <;> rfl
@[simp] theorem noticeStart_tb : (noticeStart s).tb = s.tb := by unfold noticeStart; (repeat' split) <;> rfl
@[simp] theorem noticeStart_lines : (noticeStart s).lines = s.lines := by unfold noticeStart; (repeat' split) <;> rfl

/-! ### solveStart -/

@[simp] theorem solveStart_pending : (solveStart s).pending = s.pending := by unfold solveStart; (repeat' split) <;> rfl
@[simp] theorem solveStart_phase : (solveStart s).phase = s.phase := by unfold solveStart; (repeat' split) <;> rfl
@[simp] theorem solveStart_ps : (solveStart s).ps = s.ps := by unfold solveStart; (repeat' split) <;> rfl
@[simp] theorem solveStart_di : (solveStart s).di = s.di := by unfold solveStart; (repeat' split) <;> rfl
@[simp] theorem solveStart_zh : (solveStart s).zh = s.zh := by unfold solveStart; (repeat' split) <;> rfl
@[simp] theorem solveStart_slc : (solveStart s).slc = s.slc := by unfold solveStart; (repeat' split) <;> rfl
@[simp] theorem solveStart_pp : (solveStart s).pp = s.pp := by unfold solveStart; (repeat' split) <;> rfl
@[simp] theorem solveStart_mp : (solveStart s).mp = s.mp := by unfold solveStart; (repeat' split) <;> rfl
@[simp] theorem solveStart_fc : (solveStart s).fc = s.fc := by unfold solveStart; (repeat' split) <;> rfl
@[simp] theorem solveStart_tb : (solveStart s).tb = s.tb := by unfold solveStart; (repeat' split) <;> rfl
@[simp] theorem solveStart_lines : (solveStart s).lines = s.lines := by unfold solveStart; (repeat' split) <;> rfl
@[simp] theorem solveStart_free : (solveStart s).free = s.free := by unfold solveStart; (repeat' split) <;> rfl

/-! ### signPublication -/

@[simp] theorem signPublication_pending : (signPublication s).pending = s.pending := by unfold signPublication; (repeat' split) <;> simp
@[simp] theorem signPublication_phase : (signPublication s).phase = s.phase := by unfold signPublication; (repeat' split) <;> simp
@[simp] theorem signPublication_ps : (signPublication s).ps = s.ps := by unfold signPublication; (repeat' split) <;> simp
@[simp] theorem signPublication_di : (signPublication s).di = s.di := by unfold signPublication; (repeat' split) <;> simp
@[simp] theorem signPublication_zh : (signPublication s).zh = s.zh := by unfold signPublication; (repeat' split) <;> simp
@[simp] theorem signPublication_rsv : (signPublication s).rsv = s.rsv := by unfold signPublication; (repeat' split) <;> simp
@[simp] theorem signPublication_pp : (signPublication s).pp = s.pp := by unfold signPublication; (repeat' split) <;> simp
@[simp] theorem signPublication_mp : (signPublication s).mp = s.mp := by unfold signPublication; (repeat' split) <;> simp
@[simp] theorem signPublication_fc : (signPublication s).fc = s.fc := by unfold signPublication; (repeat' split) <;> simp
@[simp] theorem signPublication_tb : (signPublication s).tb = s.tb := by unfold signPublication; (repeat' split) <;> simp
@[simp] theorem signPublication_lines : (signPublication s).lines = s.lines := by unfold signPublication; (repeat' split) <;> simp
@[simp] theorem signPublication_free : (signPublication s).free = s.free := by unfold signPublication; (repeat' split) <;> simp

/-! ### announce -/

@[simp] theorem announce_pending (c : Converged) (set : HeadingSet) (b : Bool) : (announce c set b s).pending = s.pending := by unfold announce; simp only []; (repeat' split) <;> simp
@[simp] theorem announce_phase (c : Converged) (set : HeadingSet) (b : Bool) : (announce c set b s).phase = s.phase := by unfold announce; simp only []; (repeat' split) <;> simp
@[simp] theorem announce_ps (c : Converged) (set : HeadingSet) (b : Bool) : (announce c set b s).ps = s.ps := by unfold announce; simp only []; (repeat' split) <;> simp
@[simp] theorem announce_di (c : Converged) (set : HeadingSet) (b : Bool) : (announce c set b s).di = s.di := by unfold announce; simp only []; (repeat' split) <;> simp
@[simp] theorem announce_zh (c : Converged) (set : HeadingSet) (b : Bool) : (announce c set b s).zh = s.zh := by unfold announce; simp only []; (repeat' split) <;> simp
@[simp] theorem announce_rsv (c : Converged) (set : HeadingSet) (b : Bool) : (announce c set b s).rsv = s.rsv := by unfold announce; simp only []; (repeat' split) <;> simp
@[simp] theorem announce_slc (c : Converged) (set : HeadingSet) (b : Bool) : (announce c set b s).slc = s.slc := by unfold announce; simp only []; (repeat' split) <;> simp
@[simp] theorem announce_pp (c : Converged) (set : HeadingSet) (b : Bool) : (announce c set b s).pp = s.pp := by unfold announce; simp only []; (repeat' split) <;> simp
@[simp] theorem announce_tb (c : Converged) (set : HeadingSet) (b : Bool) : (announce c set b s).tb = s.tb := by unfold announce; simp only []; (repeat' split) <;> simp
@[simp] theorem announce_lines (c : Converged) (set : HeadingSet) (b : Bool) : (announce c set b s).lines = s.lines := by unfold announce; simp only []; (repeat' split) <;> simp
@[simp] theorem announce_free (c : Converged) (set : HeadingSet) (b : Bool) : (announce c set b s).free = s.free := by unfold announce; simp only []; (repeat' split) <;> simp

/-! ### publication -/

@[simp] theorem publication_pending (p : Plan) (snap : Snapshot) : (publication p snap s).pending = s.pending := by unfold publication publicationAdverts; simp; rfl
@[simp] theorem publication_phase (p : Plan) (snap : Snapshot) : (publication p snap s).phase = s.phase := by unfold publication publicationAdverts; simp; rfl
@[simp] theorem publication_ps (p : Plan) (snap : Snapshot) : (publication p snap s).ps = s.ps := by unfold publication publicationAdverts; simp; rfl
@[simp] theorem publication_di (p : Plan) (snap : Snapshot) : (publication p snap s).di = s.di := by unfold publication publicationAdverts; simp; rfl
@[simp] theorem publication_zh (p : Plan) (snap : Snapshot) : (publication p snap s).zh = s.zh := by unfold publication publicationAdverts; simp; rfl
@[simp] theorem publication_tb (p : Plan) (snap : Snapshot) : (publication p snap s).tb = s.tb := by unfold publication publicationAdverts; simp; rfl
@[simp] theorem publication_lines (p : Plan) (snap : Snapshot) : (publication p snap s).lines = s.lines := by unfold publication publicationAdverts; simp; rfl
@[simp] theorem publication_free (p : Plan) (snap : Snapshot) : (publication p snap s).free = s.free := by unfold publication publicationAdverts; simp; rfl

end Sys2Proof.Machine
end

