-- ==== Sys2Proof/Laws/Ops.lean ====
section
/-! SUPPORT. What the shared operations do: slots, notice flags, captures, event counters, zones and the evacuation
state, the transmitter, plan memory and the end of a solve. -/

namespace Sys2Proof.Machine

/-! ## Slots -/

/-- A slot read after a write: the record written at its index, what was there elsewhere. -/
theorem slotGet_slotPut {α : Type} (slots : Slots α) (i j : Nat) (x : α) :
    slotGet (slotPut slots i x) j = if j = i then some x else slotGet slots j := by
  have hne : ∀ k : Nat, ¬ j = k → ¬ k = j := fun k h e => h e.symm
  induction slots with
  | nil =>
    by_cases h : j = i
    · simp [slotPut, slotGet, h]
    · simp [slotPut, slotGet, h, hne]
  | cons p rest ih =>
    obtain ⟨k, r⟩ := p
    simp only [slotPut]
    split
    · by_cases h : j = i
      · simp [slotGet, h]
      · simp [slotGet, h, hne]
    · split
      · rename_i h1 h2
        subst h2
        by_cases h : j = i
        · simp [slotGet, h]
        · simp [slotGet, h, hne]
      · rename_i h1 h2
        simp only [slotGet, ih]
        by_cases h : j = i
        · have : k ≠ i := fun e => h2 e.symm
          simp [h, this]
        · simp [h]

/-- Every index of a list after a write is the written one or was there before. -/
theorem mem_slotPut {α : Type} (slots : Slots α) (i : Nat) (x : α) (p : Nat × α) (h : p ∈ slotPut slots i x) :
    p = (i, x) ∨ p ∈ slots := by
  induction slots with
  | nil => simpa [slotPut] using h
  | cons q rest ih =>
    obtain ⟨k, r⟩ := q
    simp only [slotPut] at h
    split at h
    · simpa using h
    · split at h
      · rcases List.mem_cons.1 h with h | h
        · exact .inl h
        · exact .inr (List.mem_cons_of_mem _ h)
      · rcases List.mem_cons.1 h with h | h
        · exact .inr (h ▸ List.mem_cons_self)
        · rcases ih h with h | h
          · exact .inl h
          · exact .inr (List.mem_cons_of_mem _ h)

/-- Writing a slot keeps the indices strictly rising. -/
theorem slotsWf_slotPut {α : Type} (slots : Slots α) (i : Nat) (x : α) (h : slotsWf slots = true) :
    slotsWf (slotPut slots i x) = true := by
  induction slots with
  | nil => simp [slotPut, slotsWf]
  | cons q rest ih =>
    obtain ⟨k, r⟩ := q
    simp only [slotsWf, Bool.and_eq_true, List.all_eq_true, decide_eq_true_eq] at h
    simp only [slotPut]
    split
    · rename_i hk
      simp only [slotsWf, Bool.and_eq_true, List.all_eq_true, decide_eq_true_eq]
      refine ⟨fun p hp => ?_, h.1, h.2⟩
      rcases List.mem_cons.1 hp with rfl | hp
      · exact hk
      · exact Nat.lt_trans hk (h.1 p hp)
    · split
      · rename_i h1 h2
        subst h2
        simpa [slotsWf] using h
      · simp only [slotsWf, Bool.and_eq_true, List.all_eq_true, decide_eq_true_eq]
        refine ⟨fun p hp => ?_, ih h.2⟩
        rcases mem_slotPut _ _ _ _ hp with rfl | hp
        · simp only; omega
        · exact h.1 p hp

/-- Dropping records keeps the indices strictly rising. -/
theorem slotsWf_filter {α : Type} (slots : Slots α) (f : Nat × α → Bool) (h : slotsWf slots = true) :
    slotsWf (slots.filter f) = true := by
  induction slots with
  | nil => rfl
  | cons q rest ih =>
    obtain ⟨k, r⟩ := q
    simp only [slotsWf, Bool.and_eq_true, List.all_eq_true, decide_eq_true_eq] at h
    rw [List.filter_cons]
    split
    · simp only [slotsWf, Bool.and_eq_true, List.all_eq_true, decide_eq_true_eq]
      exact ⟨fun p hp => h.1 p (List.mem_filter.1 hp).1, ih h.2⟩
    · exact ih h.2

/-- Removing a slot keeps the indices strictly rising. -/
theorem slotsWf_slotErase {α : Type} (slots : Slots α) (i : Nat) (h : slotsWf slots = true) :
    slotsWf (slotErase slots i) = true :=
  slotsWf_filter _ _ h

/-! ## Notice flags (R170) -/

/-- Two kinds at one place are one kind. -/
theorem noticeKind_idx_inj (k j : NoticeKind) (h : k.idx.val = j.idx.val) : k = j := by
  revert h
  cases k <;> cases j <;> simp [NoticeKind.idx]

/-- Two fault kinds at one place are one kind. -/
theorem faultKind_idx_inj (k j : FaultKind) (h : k.idx.val = j.idx.val) : k = j := by
  revert h
  cases k <;> cases j <;> simp [FaultKind.idx]

/-- A rise of a flag that is set does nothing. -/
theorem raise_set (b : NoticeBody) (s : State) (h : s.mp.kinds[b.kind.idx].flag = true) : raise b s = s := by
  have : raiseIn s.mp b s.zh.clock s.tb.seconds = s.mp := if_pos h
  simp [raise, this]

/-- A rise of a flag that is clear sets it with its event, and queues its notice by enable and threshold. -/
theorem raise_clear (b : NoticeBody) (s : State) (h : s.mp.kinds[b.kind.idx].flag = false) :
    raise b s =
      { s with mp := { s.mp with
          kinds := s.mp.kinds.set b.kind.idx
            ({ s.mp.kinds[b.kind.idx] with flag := true, event := some ⟨b, s.zh.clock, s.tb.seconds⟩ })
          notices :=
            if s.mp.kinds[b.kind.idx].enable && decide (s.mp.threshold ≤ s.mp.kinds[b.kind.idx].priority) then
              insertNotice ⟨b.kind, s.mp.kinds[b.kind.idx].priority, ⟨b, s.zh.clock, s.tb.seconds⟩⟩ s.mp.notices
            else s.mp.notices } } := by
  have h' : ¬ s.mp.kinds[b.kind.idx].flag = true := by simp only [h]; simp
  have : raiseIn s.mp b s.zh.clock s.tb.seconds = _ := if_neg h'
  simp only [raise, this]

/-- A kind's record after a rise. -/
theorem raise_kinds (b : NoticeBody) (s : State) (k : NoticeKind) :
    (raise b s).mp.kinds[k.idx] =
      if k = b.kind ∧ s.mp.kinds[k.idx].flag = false then
        { s.mp.kinds[k.idx] with flag := true, event := some ⟨b, s.zh.clock, s.tb.seconds⟩ }
      else s.mp.kinds[k.idx] := by
  by_cases hf : s.mp.kinds[b.kind.idx].flag = true
  · rw [raise_set _ _ hf]
    split
    · rename_i h
      obtain ⟨rfl, h2⟩ := h
      rw [hf] at h2
      cases h2
    · rfl
  · rw [raise_clear _ _ (by simpa using hf)]
    by_cases hk : k = b.kind
    · subst hk
      have hf' : s.mp.kinds[b.kind.idx.val].flag = false := by simpa using hf
      simp [hf']
    · have : b.kind.idx.val ≠ k.idx.val := fun h => hk (noticeKind_idx_inj _ _ h).symm
      simp [Vector.getElem_set_ne _ _ this, hk]

/-- After a rise the flag is set. -/
theorem raise_flag (b : NoticeBody) (s : State) : (raise b s).mp.kinds[b.kind.idx].flag = true := by
  rw [raise_kinds]
  split
  · rfl
  · rename_i h
    simpa using h

/-- After a rise from clear the event recorded is that rise's. -/
theorem raise_event (b : NoticeBody) (s : State) (h : s.mp.kinds[b.kind.idx].flag = false) :
    (raise b s).mp.kinds[b.kind.idx].event = some ⟨b, s.zh.clock, s.tb.seconds⟩ := by
  rw [raise_kinds, if_pos ⟨rfl, h⟩]

/-- A rise leaves the other kinds as they were. -/
theorem raise_other (b : NoticeBody) (s : State) (k : NoticeKind) (h : k ≠ b.kind) :
    (raise b s).mp.kinds[k.idx] = s.mp.kinds[k.idx] := by
  rw [raise_kinds, if_neg]
  intro ⟨h1, _⟩
  exact h h1

/-- What a rise leaves of the Message Port besides its kinds and its list. -/
theorem raiseIn_rest (mp : MessagePort) (b : NoticeBody) (c : EvacClock) (n : Nat) :
    raiseIn mp b c n = { mp with kinds := (raiseIn mp b c n).kinds, notices := (raiseIn mp b c n).notices } := by
  unfold raiseIn
  dsimp
  split <;> rfl

/-- NO_ROUTE is the one flag that a look for signed NONE nodes may raise. -/
theorem checkNoRoute_cases (s : State) :
    checkNoRoute s = s ∨ ∃ e c n a, checkNoRoute s = raise (.noRoute e c n a) s := by
  unfold checkNoRoute noRouteBody
  repeat' split
  all_goals first
    | exact .inl rfl
    | (rename_i h
       revert h
       split <;> intro h <;> simp at h
       subst h
       exact .inr ⟨_, _, _, _, rfl⟩)

/-! ## Captures and counters (R175, R176, R178) -/

/-- What a capture does to the fault record and its multiple flags, by the table of R176. -/
theorem recordIn_cases (fc : FaultCapture) (k : FaultKind) (subject seconds : Nat) :
    recordIn fc k subject seconds =
      match faultClassOf k, fc.record with
      | .minor, none =>
        if fc.ignoreMinor then (fc, false) else ({ fc with record := some ⟨k, subject, seconds⟩ }, true)
      | .minor, some _ => if fc.ignoreMinor then (fc, false) else ({ fc with multipleMinor := true }, false)
      | .major, none => ({ fc with record := some ⟨k, subject, seconds⟩ }, true)
      | .major, some r =>
        match faultClassOf r.kind with
        | .minor => ({ fc with record := some ⟨k, subject, seconds⟩, multipleMinor := true }, true)
        | .major => ({ fc with multipleMajor := true }, false) := by
  unfold recordIn
  cases faultClassOf k <;> cases fc.record <;> rfl

/-- The tally of a captured kind, and the other tallies. -/
theorem tallyIn_tallies (fc : FaultCapture) (k j : FaultKind) :
    (tallyIn fc k).tallies[j.idx] = if j = k then min 255 (fc.tallies[k.idx] + 1) else fc.tallies[j.idx] := by
  by_cases h : j = k
  · subst h
    simp [tallyIn]
  · have : k.idx.val ≠ j.idx.val := fun e => h (faultKind_idx_inj _ _ e).symm
    simp [tallyIn, h, Vector.getElem_set_ne _ _ this]

/-- A counter after firings of an input. -/
theorem fire_counter (input : CounterInput) (n : Nat) (s : State) (i : Fin 2) :
    (fire input n s).fc.counters[i] = countIn s.fc.counters[i] input n := by
  simp [fire, vecMap]

/-! ## Zones and the evacuation state -/

/-- The evacuation state set to what it is. -/
theorem setEvac_same (n : EvacState) (c : EvacCause) (s : State) (h : s.zh.evac = n) : setEvac n c s = s := if_pos h

/-- The evacuation state set to another value. -/
theorem setEvac_diff (n : EvacState) (c : EvacCause) (s : State) (h : s.zh.evac ≠ n) :
    setEvac n c s =
      raise (.evacState s.zh.evac n s.zh.declaration c) { s with zh := { s.zh with evac := n } } :=
  if_neg h

/-- A zone's record replaced by one of the same state. -/
theorem updateZone_same (n : Nat) (a b : ZoneRun) (s : State) (h : a.state = b.state) :
    updateZone n a b s = setZone n b s := if_pos h

/-- A zone's record replaced by one of another state. -/
theorem updateZone_diff (n : Nat) (a b : ZoneRun) (s : State) (h : a.state ≠ b.state) :
    updateZone n a b s = zoneChanged n a.state b.state (setZone n b s) := if_neg h

/-- Outside ACTIVE the derived state is never ACTIVE. -/
theorem derivedEvac_ne_active (zones : List ZoneRun) : derivedEvac zones ≠ .active := by
  unfold derivedEvac
  split <;> simp

/-- Alarm is present exactly with a record of the zone at ALARM or with the untracked-alarm flag (R47). -/
theorem conditions_alarm (dets : Slots DetectorRec) (n : Nat) (z : ZoneRun) :
    (conditions dets n z).alarm = true ↔
      (∃ d ∈ dets, d.2.zone = n ∧ d.2.level = .alarm) ∨ z.untracked = true := by
  have : (conditions dets n z).alarm = (decide (1 ≤ levelCount dets n .alarm) || z.untracked) := rfl
  rw [this, Bool.or_eq_true, decide_eq_true_iff]
  unfold levelCount
  have e : ∀ m : Nat, 1 ≤ m ↔ 0 < m := fun m => Iff.rfl
  rw [e, List.length_pos_iff_exists_mem]
  simp

/-! ## Timers (R65) -/

/-- A tick keeps an idle timer idle and a running one running. -/
@[simp] theorem tickTimer_none_iff (t : Timer) : tickTimer t = none ↔ t = none := by
  cases t with
  | none => simp [tickTimer]
  | some n => cases n <;> simp [tickTimer]

/-! ## The transmitter and what it sends first (R157, R172) -/

/-- A notice frame begins: the head of the list leaves it, with the transmitter free, no reply held and no format due. -/
theorem noticeStart_begins (s : State) (n : Notice) (rest : List Notice) (ht : s.mp.transmitter = .idle)
    (hr : s.mp.reply = none) (hn : s.mp.notices = n :: rest) (hd : formatIsDue s.mp.deferred = false) :
    noticeStart s =
      { s with
        mp := { s.mp with notices := rest, transmitter := .notice (noticeFrame s.free n) }
        free := s.free + Config.freeBlock } := by
  simp [noticeStart, ht, hr, hn, hd, State.onMp]

/-- With an empty list no notice frame begins. -/
theorem noticeStart_empty (s : State) (h : s.mp.notices = []) : noticeStart s = s := by
  unfold noticeStart
  split
  · simp_all
  · rfl

/-- The transmitter chooses after the taking: the next request is taken at once. -/
@[simp] theorem takeOrNotice_false (s : State) : takeOrNotice false s = takeNext s := rfl

/-- The transmitter chooses before the taking: a listed notice goes first. -/
@[simp] theorem takeOrNotice_true (s : State) : takeOrNotice true s = takeNext (noticeStart s) := rfl

/-! ## Plan memory (R20, R21) -/

/-- The stored check value matches the image exactly when it is the image's CRC-16. -/
theorem memoryMatches_iff (m : PlanMemory) : memoryMatches m = true ↔ m.check = some (crc16 m.image) := by
  simp [memoryMatches]

/-- A load finds exactly a plan that a written, matching image holds. -/
theorem loadedPlan_iff (m : PlanMemory) (p : Plan) :
    loadedPlan m = some p ↔ m.mark = .written ∧ memoryMatches m = true ∧ planOfImage m.image = some p := by
  unfold loadedPlan
  split <;> simp_all

/-! ## The end of a solve (R83) -/

/-- A publication leaves the solver IDLE with the next epoch, and its solve-wanted flag as it was. -/
theorem publication_rsv (p : Plan) (snap : Snapshot) (s : State) :
    (publication p snap s).rsv =
      (publishSet (solveResult p snap s.rsv.nodes s.rsv.published).1
        (solveResult p snap s.rsv.nodes s.rsv.published).2 s).rsv := by
  simp [publication, publicationAdverts]

/-- A solve that no activation waits for is published, and the next one starts in the same act. -/
theorem solveEnd_publishes (s : State) (p : Plan) (snap : Snapshot) (hs : s.rsv.state = .solving)
    (hp : s.ps.active = some p) (hn : s.rsv.snapshot = some snap) (ha : s.rsv.activationPending = false) :
    solveEnd s = solveStart (publication p snap s) := by
  simp [solveEnd, hs, hp, hn, ha]

/-- No solve starts unless one is wanted. -/
theorem solveStart_unwanted (s : State) (h : s.rsv.wanted = false) : solveStart s = s := by
  unfold solveStart
  split
  · rfl
  · simp [h]

end Sys2Proof.Machine
end

