-- ==== Sys2Proof/Laws/Requests.lean ====
section
/-! SUPPORT. How a request command reaches its answer: what a request does and answers does not depend on its own place
in the slot in hand. -/

namespace Sys2Proof.Machine

/-- The state in which a request is performed: it stands in the slot in hand. -/
def inHand (r : Request) (s : State) : State := { s with mp := { s.mp with hand := some r } }

/-- A request command receives its request frame. -/
theorem exec_request (c : Instr) (r : Request) (s : State) (hr : requestOf c = some r) :
    exec c s = .next (whenRunning (receiveRequest r) s) := by
  cases c <;> simp [requestOf] at hr <;> subst hr <;> rfl

/-- A request command on a part that can take it takes it. -/
theorem exec_ready (c : Instr) (r : Request) (s : State) (hr : requestOf c = some r) (h : Ready s) :
    exec c s = .next (takeRequest r (inHand r s)) := by
  obtain ⟨h1, h2, h3, h4, h5⟩ := h
  rw [exec_request c r s hr]
  simp [whenRunning, receiveRequest, takeNext, h1, h2, h4, h5, State.onMp, inHand]

/-- A request command is answered as its request's meaning says. -/
theorem answers_of (c : Instr) (r : Request) (s t : State) (st : ReplyStatus) (f : List Byte)
    (hr : requestOf c = some r) (h : Ready s) (hw : t.mp.waiting = none)
    (hp : performKind r.kind.toNat r.fields (inHand r s) = { state := inHand r t, status := st, fields := f }) :
    Answers c s st f t := by
  simp only [Answers, hr]
  rw [exec_ready c r s hr h]
  simp only [takeRequest, perform]
  rw [hp]
  simp [replied, inHand, State.onMp, hw]

section
variable (r : Request) (s : State)

theorem raiseIn_hand (mp : MessagePort) (b : NoticeBody) (c : EvacClock) (n : Nat) :
    raiseIn { mp with hand := some r } b c n = { raiseIn mp b c n with hand := some r } := by
  unfold raiseIn
  dsimp
  split <;> rfl

theorem raise_inHand (b : NoticeBody) : raise b (inHand r s) = inHand r (raise b s) := by
  simp only [raise, inHand, raiseIn_hand]

theorem raise_waiting (b : NoticeBody) : (raise b s).mp.waiting = s.mp.waiting := by
  show (raiseIn _ _ _ _).waiting = _
  rw [raiseIn_rest]

theorem capture_inHand (k : FaultKind) (n : Nat) : capture k n (inHand r s) = inHand r (capture k n s) := by
  simp only [capture, inHand, raiseIn_hand]
  split <;> rfl

theorem capture_waiting (k : FaultKind) (n : Nat) : (capture k n s).mp.waiting = s.mp.waiting := by
  simp only [capture]
  split
  · rw [raiseIn_rest]
  · rfl

theorem checkNoRoute_waiting : (checkNoRoute s).mp.waiting = s.mp.waiting := by
  rcases checkNoRoute_cases s with h | ⟨e, c, n, a, h⟩ <;> rw [h]
  exact raise_waiting _ _

theorem checkNoRoute_inHand : checkNoRoute (inHand r s) = inHand r (checkNoRoute s) := by
  have e : ∀ x, checkNoRoute x =
      (match x.ps.active, x.rsv.published with
        | some p, some set =>
          match noRouteBody p set x.rsv.epoch with
          | some body => raise body x
          | none => x
        | _, _ => x) := fun x => rfl
  rw [e, e]
  show (match s.ps.active, s.rsv.published with
    | some p, some set =>
      match noRouteBody p set s.rsv.epoch with
      | some body => raise body (inHand r s)
      | none => inHand r s
    | _, _ => inHand r s) = _
  repeat' split
  all_goals first
    | rfl
    | rw [raise_inHand]

theorem setEvac_inHand (n : EvacState) (c : EvacCause) : setEvac n c (inHand r s) = inHand r (setEvac n c s) := by
  by_cases hh : s.zh.evac = n
  · rw [setEvac_same _ _ _ hh, setEvac_same _ _ _ (by exact hh)]
  · rw [setEvac_diff _ _ _ hh, setEvac_diff _ _ _ (by exact hh), ← raise_inHand]
    rfl

theorem enterActive_inHand (c : EvacCause) : enterActive c (inHand r s) = inHand r (enterActive c s) := by
  unfold enterActive
  rw [← checkNoRoute_inHand, ← raise_inHand]
  rfl

theorem zoneChanged_inHand (z : Nat) (p n : ZoneState) :
    zoneChanged z p n (inHand r s) = inHand r (zoneChanged z p n s) := by
  unfold zoneChanged evacAfterZone
  have : wantSolve (inHand r s) = inHand r (wantSolve s) := rfl
  rw [this, raise_inHand]
  show (if (raise (.zoneChange z p n) (wantSolve s)).zh.evac = .active then _ else _) = _
  split
  · rfl
  · split
    · rw [enterActive_inHand]
    · rw [← setEvac_inHand]
      rfl

theorem setEvac_waiting (n : EvacState) (c : EvacCause) : (setEvac n c s).mp.waiting = s.mp.waiting := by
  unfold setEvac
  split
  · rfl
  · exact raise_waiting _ _

theorem zoneChanged_waiting (z : Nat) (p n : ZoneState) : (zoneChanged z p n s).mp.waiting = s.mp.waiting := by
  unfold zoneChanged evacAfterZone
  split
  · exact raise_waiting _ _
  · split
    · unfold enterActive
      rw [checkNoRoute_waiting, raise_waiting]
      exact raise_waiting _ _
    · rw [setEvac_waiting]
      exact raise_waiting _ _

theorem updateZone_inHand (z : Nat) (a b : ZoneRun) :
    updateZone z a b (inHand r s) = inHand r (updateZone z a b s) := by
  unfold updateZone
  split
  · rfl
  · rw [← zoneChanged_inHand]
    rfl

end

end Sys2Proof.Machine
end

