-- ==== Sys2Proof/WellFormed.lean ====
section
/-! DEFINITION. Which commands the part can meet at all. A command that fails a check still has a meaning (its operands
are treated as any others); the checks say which terms stand for something that can come about. -/

namespace Sys2Proof

/-- A request body is kind, tag and at most 248 bytes more, since LENGTH is at most 250 (R182). -/
def fieldsFit (fields : List Byte) : Bool :=
  decide (fields.length ≤ 248)

/-- The request catalogue's kinds are 0x01 to 0x1E (R188). -/
def kindIsCatalogued (kind : Byte) : Bool :=
  decide (1 ≤ kind.toNat ∧ kind.toNat ≤ 30)

/-- The well-formed commands. -/
def Instr.wellFormed : Instr → Bool
  | .unknownKind kind _ fields => !kindIsCatalogued kind && fieldsFit fields
  | .identify _ f | .status _ f | .planBegin _ f | .planPut _ f | .planCheck _ f | .planActivate _ f
  | .planDiscard _ f | .planRead _ f | .exitSet _ f | .zoneForce _ f | .zoneReset _ f | .evacuate _ f
  | .standDown _ f | .groupSet _ f | .nodeQuery _ f | .signQuery _ f | .zoneQuery _ f | .detectorQuery _ f
  | .portalQuery _ f | .noticeSetup _ f | .clearFlags _ f | .faultRead _ f | .faultClear _ f
  | .counterSetup _ f | .counterRead _ f | .outputSetup _ f | .lineSetup _ f | .lineHalt _ f
  | .lineRun _ f | .restart _ f => fieldsFit f
  | .messageFrameReceived chars => !chars.isEmpty
  | .detectorFrameReceived chars => !chars.isEmpty
  | .signFrameReceived chars => !chars.isEmpty
  | .advertReceived _ chars => !chars.isEmpty
  | .suspectTimerExpiry z => decide (z < Config.maxZones)
  | .clearHoldTimerExpiry z => decide (z < Config.maxZones)
  | .emphasisTimerExpiry i => decide (i < Config.maxSigns)
  | .planStoreEnd readBack => decide (readBack.length ≤ Config.maxImage)
  | .powerOn | .resetLine | .replySent _ | .messagePortFormatChange _ | .restartBegin | .noticeFrameStart
  | .frameGapAbort _ | .silenceTimerExpiry | .contactChangeAccepted _ | .pulseWidthLimit _ | .takeBegin
  | .takeComplete | .tenthTick | .planCheckEnd | .solveStart | .solveEnd
  | .refreshTimerExpiry | .showFrameSent | .replyWindowClose | .fallbackFrameSent | .ageTimerExpiry _
  | .advertTimerExpiry _ | .spacingTimerExpiry _ | .advertFrameSent _ | .contactSample _
  | .noticeFrameSent | .resetLineAsserted | .powerLoss | .startUpLoadEnd => true

end Sys2Proof
end

