-- ==== Sys2Proof/Tests/Slice0.lean ====
section
/-! SUPPORT. Tests: what each check refuses, worked examples of the manual and hand calculations from it, one step each,
and for every statement with hypotheses a state and operands that meet them. -/

namespace Sys2Proof.Tests

open Sys2Proof Sys2Proof.Machine

/-! ## What the well-formedness checks refuse -/

theorem test_refuses_catalogued_unknown_kind : (Instr.unknownKind 0x1E 0 []).wellFormed = false := by decide
theorem test_accepts_unknown_kind : (Instr.unknownKind 0x1F 0 []).wellFormed = true := by decide
theorem test_refuses_long_body : (Instr.planPut 0 (List.replicate 249 0)).wellFormed = false := by decide +kernel
theorem test_accepts_longest_body : (Instr.planPut 0 (List.replicate 248 0)).wellFormed = true := by decide +kernel
theorem test_refuses_empty_message_frame : (Instr.messageFrameReceived []).wellFormed = false := by decide
theorem test_refuses_empty_detector_frame : (Instr.detectorFrameReceived []).wellFormed = false := by decide
theorem test_refuses_empty_sign_frame : (Instr.signFrameReceived []).wellFormed = false := by decide
theorem test_refuses_empty_advert : (Instr.advertReceived .a []).wellFormed = false := by decide
theorem test_refuses_suspect_zone_64 : (Instr.suspectTimerExpiry 64).wellFormed = false := by decide
theorem test_refuses_clear_hold_zone_64 : (Instr.clearHoldTimerExpiry 64).wellFormed = false := by decide
theorem test_refuses_sign_250 : (Instr.emphasisTimerExpiry 250).wellFormed = false := by decide
theorem test_refuses_long_read_back :
    (Instr.planStoreEnd (List.replicate (Config.maxImage + 1) 0)).wellFormed = false := by
  simp only [Instr.wellFormed, List.length_replicate]; decide
theorem test_accepts_zone_63 : (Instr.suspectTimerExpiry 63).wellFormed = true := by decide

/-! ## A small plan and the states the tests start from -/

/-- A header whose timings, levels and limits are the defaults of R2. -/
def header : Header :=
  { planId := 7, nodeCount := 2, linkCount := 1, zoneCount := 1, windowCount := 1, exitCount := 2, signCount := 1
    suspect := ⟨60, .second⟩, clearHold := ⟨120, .second⟩, emphasis := ⟨10, .second⟩, refresh := ⟨5, .tenth⟩
    advertise := ⟨1, .second⟩, ageLimit := ⟨5, .second⟩, silence := ⟨3, .second⟩, spacing := ⟨2, .tenth⟩
    quietLevel := 8, alertLevel := 12, activeLevel := 15, margin := 100, surcharge := 600, replyWindow := 10
    missLimit := 3, ownId := 1, expectedA := 2, expectedB := 0 }

/-- Two nodes joined by a link; a DOOR at node 0, a PORTAL on port A at node 1, and a sign at node 1. -/
def plan : Plan :=
  { header := header
    nodes := [⟨some 5⟩, ⟨none⟩]
    links := [{ a := 0, b := 1, len := 100, width := 1, zone := 0, passage := .both }]
    zones := [{ latch := false, suspectWeight := 1, smokeWeight := 8, confirmCount := 3 }]
    windows := [{ base := 64, size := 32, zone := 0 }]
    exits := [{ node := 0, bias := 5, initial := .opened, portal := none },
              { node := 1, bias := 0, initial := .opened,
                portal := some { port := .a, remote := 4, crossing := 10 } }]
    signs := [{ address := 10, node := 1, map := [(0, 6)], groups := [3] }] }

/-- Plan memory as a store of a plan that matched leaves it. -/
def memoryOf (p : Plan) : PlanMemory :=
  { mark := .written, image := imageBytes p, check := some (crc16 (imageBytes p)) }

/-- The part running on that plan, as a reset that found it leaves it. -/
def planned : State :=
  blocksAfter .powerOn .running (some plan) .good (memoryOf plan) powerOnSettings State.reset

/-- The state after a command. -/
def after (c : Instr) (s : State) : State :=
  match exec c s with
  | .next t => t
  | _ => s

/-- The status of the reply in the reply slot. -/
def statusOf (s : State) : Option ReplyStatus := s.mp.reply.map (·.status)

/-- The bytes of the reply in the reply slot after the leading four. -/
def fieldsOf (s : State) : Option (List Byte) := s.mp.reply.map (·.fields)

/-- The plan's one zone in a state with its timers. -/
def zoned (st : ZoneState) (suspect clearHold : Timer) (s : State) : State :=
  { s with zh := { s.zh with zones :=
      [{ state := st, suspect := suspect, clearHold := clearHold, untracked := false
         setting := { latch := false, suspectWeight := 1, smokeWeight := 8, confirmCount := 3 } }] } }

/-- The staging bank at a stage, holding that plan. -/
def staged (st : Stage) (s : State) : State :=
  { s with ps := { s.ps with staging :=
      { stage := st, failure := none, header := [(0, header)], nodes := [(0, ⟨some 5⟩), (1, ⟨none⟩)]
        links := plan.links.zipIdx.map fun x => (x.2, x.1)
        zones := plan.zones.zipIdx.map fun x => (x.2, x.1)
        windows := plan.windows.zipIdx.map fun x => (x.2, x.1)
        exits := plan.exits.zipIdx.map fun x => (x.2, x.1)
        signs := plan.signs.zipIdx.map fun x => (x.2, x.1) } } }

/-- A set for that plan: node 0 SEED by the door, node 1 by the link. -/
def someSet : HeadingSet :=
  { records := [{ cost := { x := 0, d := 5 }, choice := .seed 0 0, changed := true },
                { cost := { x := 0, d := 130 }, choice := .link 0 0 0, changed := true }]
    seeds := [{ exit := 0, cost := { x := 0, d := 5 }, isHere := false, already := false }] }

/-- That set published and adopted, the controller IDLE. -/
def published : State :=
  { planned with
    rsv := { planned.rsv with published := some someSet, epoch := 1, wanted := false }
    slc := { planned.slc with cycle := .idle } }

/-- The plan's sign being sent its frame. -/
def showing : State := after .refreshTimerExpiry { published with slc := { published.slc with refresh := some 0 } }

/-- A pending report of a detector of the window. -/
def entry : PendingEntry :=
  { address := 70, zone := 0, unmapped := false, level := .alarm, sequence := some 5, merged := 1, peak := .alarm
    tail := 1, source := .line }

/-- A take of that report under way. -/
def taking : State := { planned with zh := { planned.zh with take := some entry } }

/-! ## Frames (R182 to R184) -/

/-- The check value of the ASCII digits 1 to 9 (10_line_framing_and_frame_layouts.md). -/
theorem test_check_value :
    crc16 [0x31, 0x32, 0x33, 0x34, 0x35, 0x36, 0x37, 0x38, 0x39] = 0x29B1 := by decide +kernel

theorem test_frame_is_read_back :
    scan ⟨9600, .even, 1⟩ 0 (frameChars ⟨9600, .even, 1⟩ [0x11, 7]) = ([.frame [0x11, 7] false], []) := by decide

/-- 0x53 with even parity and two stop bits: start bit, data least significant first, parity 0, stop bits (R184). -/
theorem test_character_levels :
    charLevels ⟨38400, .even, 2⟩ 0x53 =
      [false, true, true, false, false, true, false, true, false, false, true, true] := by decide

/-- The receiver takes the parity bit as it stands and looks at the first stop bit only (R184). -/
theorem test_character_read :
    readChar ⟨38400, .odd, 2⟩ [false, true, true, false, false, true, false, true, false, false, false, true] =
      some ⟨0x53, false, false⟩ := by decide

/-- Bits per character of the table of R184, and ten character times of the message port in cycles of the crystal. -/
theorem test_character_times :
    [linesReset.message, linesReset.detector, linesReset.sign, linesReset.peerA].map (fun l => charBits l.inUse) =
        [11, 11, 10, 11] ∧
      gapAborts linesReset.message.inUse 42240 = false ∧ gapAborts linesReset.message.inUse 42241 = true := by decide

/-- A frame of an unknown kind, and a REPORT of level 4, count as invalid on the detector line (R25). -/
theorem test_invalid_detector_frames :
    let s : State := { planned with di := { planned.di with lock := .locked, silence := some 9 } }
    (detectorEvent s (.frame [0x12, 7] false)).di.invalidRun = 1 ∧
      (detectorEvent s (.frame [0x10, 0, 70, 4, 0] false)).di.invalidRun = 1 ∧
      (detectorEvent s (.frame [0x11, 7] true)).fc.tallies[FaultKind.lineCharError.idx] = 1 := by decide

/-- A frame that begins inside a discarded one is found, because hunting resumes after the SYNC; and so is one after a
LENGTH of 0 (R183). -/
theorem test_hunting_resumes :
    let f : Format := ⟨9600, .even, 1⟩
    let sent (bytes : List Byte) : List RxChar := bytes.map (sendChar f)
    scan f 0 (sent [0xA5, 3] ++ frameChars f [0x11, 7]) = ([.badCheck false, .frame [0x11, 7] false], []) ∧
      scan f 0 (sent [0xA5, 0] ++ frameChars f [0x11, 7]) = ([.frame [0x11, 7] false], []) := by decide +kernel

theorem test_message_frame_runs_identify :
    statusOf (after (.messageFrameReceived (frameChars ⟨38400, .even, 1⟩ [0x01, 9])) State.reset) = some .ok := by
  decide

theorem test_message_char_error_makes_no_request :
    let bad := (frameChars ⟨38400, .even, 1⟩ [0x01, 9]).set 3 ⟨9, true, true⟩
    statusOf (after (.messageFrameReceived bad) State.reset) = none ∧
      (after (.messageFrameReceived bad) State.reset).fc.tallies[10] = 1 := by decide

theorem test_gap_abort_message :
    (after (.frameGapAbort .message)
      (after (.messageFrameReceived [⟨0xA5, false, true⟩]) State.reset)).lines.message.rx = [] := by decide

/-- An aborted frame of the message port captures nothing, a character error among its characters or not (log entry
49). -/
theorem test_gap_abort_captures_nothing :
    (after (.frameGapAbort .message)
      (after (.messageFrameReceived [⟨0xA5, false, true⟩, ⟨4, true, false⟩]) State.reset)).fc = State.reset.fc := by
  decide

/-! ## Requests that set and read -/

theorem test_unknown_kind : statusOf (after (.unknownKind 0x40 1 []) State.reset) = some .unknownKind := by decide

theorem test_identify_part_number :
    (fieldsOf (after (.identify 1 []) State.reset)).map (·.take 3) = some [0x0C, 0x44, 1] := by decide

theorem test_plan_begin_opens : (after (.planBegin 1 []) State.reset).ps.staging.stage = .opened := by decide

theorem test_plan_put_zone :
    (after (.planPut 1 [3, 0, 2, 1, 0xFF, 0xFF, 20, 0xFF]) (staged .opened State.reset)).ps.staging.zones.getLast? =
      some (2, { latch := false, suspectWeight := 1, smokeWeight := 15, confirmCount := 3 }) ∧
    statusOf (after (.planPut 1 [3, 0, 2, 1, 0xFF, 0xFF, 20, 0xFF]) (staged .opened State.reset)) =
      some .clamped := by decide

theorem test_plan_put_beyond_section :
    statusOf (after (.planPut 1 [3, 0, 64, 1, 0, 1, 8, 3]) (staged .opened State.reset)) = some .badValue := by decide

theorem test_plan_check_begins : (after (.planCheck 1 []) (staged .opened State.reset)).ps.staging.stage = .checking := by
  decide

theorem test_plan_check_passes : (after .planCheckEnd (staged .checking State.reset)).ps.staging.stage = .passed := by
  decide

theorem test_plan_check_needs_an_exit :
    let s := staged .checking State.reset
    let g := { s.ps.staging with header := [(0, { header with exitCount := 0 })] }
    (after .planCheckEnd { s with ps := { s.ps with staging := g } }).ps.staging.failure =
      some { reason := .noExit, sect := .header, index := 0 } := by decide

theorem test_plan_activate_swaps :
    (after (.planActivate 1 []) (staged .passed State.reset)).ps.active = some plan ∧
      (after (.planActivate 1 []) (staged .passed State.reset)).rsv.wanted = true := by decide

theorem test_plan_discard : (after (.planDiscard 1 []) (staged .failed State.reset)).ps.staging.stage = .empty := by
  decide

theorem test_plan_read_bad_codes :
    statusOf (after (.planRead 1 [2, 0, 0, 0, 1]) State.reset) = some .badValue ∧
      statusOf (after (.planRead 1 [1, 7, 0, 0, 1]) State.reset) = some .badValue := by decide

theorem test_plan_read_active_zone :
    fieldsOf (after (.planRead 1 [0, 3, 0, 0, 1]) planned) = some [0, 3, 0, 0, 1, 1, 0, 1, 8, 3] := by decide

/-- A store of the plan in flight. -/
def storing : State := { planned with ps := { planned.ps with storing := true, memory := (swapStore plan planned.ps).memory } }

theorem test_plan_store_end_reads_back :
    (after (.planStoreEnd (imageBytes plan)) storing).ps.condition = .good ∧
      (after (.planStoreEnd (imageBytes plan)) storing).ps.memory = memoryOf plan := by decide +kernel

theorem test_plan_store_end_wrong_byte :
    (after (.planStoreEnd ((imageBytes plan).set 0 1)) storing).ps.condition = .bad ∧
      (after (.planStoreEnd ((imageBytes plan).set 0 1)) storing).fc.tallies[0] = 1 := by decide +kernel

theorem test_image_holds_the_plan : planOfImage (imageBytes plan) = some plan := by decide +kernel

theorem test_exit_set :
    (after (.exitSet 1 [0, 2]) planned).rsv.exits = [.closed, .opened] ∧
      fieldsOf (after (.exitSet 1 [0, 2]) planned) = some [0] := by decide

theorem test_zone_force_smoke_is_active : (after (.zoneForce 1 [0, 0]) planned).zh.evac = .active := by decide

theorem test_zone_force_clear_keeps_active :
    (after (.zoneForce 1 [0, 1]) (zoned .smoke none none
      { planned with zh := { planned.zh with evac := .active } })).zh.evac = .active := by decide

theorem test_zone_reset :
    ((after (.zoneReset 1 [0]) (zoned .smoke none none planned)).zh.zones.map (·.clearHold)) = [some 1200] := by decide

theorem test_evacuate_starts_clock :
    (after (.evacuate 1 []) State.reset).zh.clock = ⟨0, 0, 0, true⟩ ∧
      (after (.evacuate 1 []) State.reset).mp.notices.map (·.kind) = [.evacState] := by decide

theorem test_stand_down_refused :
    statusOf (after (.standDown 1 []) (zoned .smoke none none
      { planned with zh := { planned.zh with evac := .active } })) = some .refused := by decide

theorem test_group_set_clamps :
    (after (.groupSet 1 [3, 1, 1, 1, 0, 0, 4, 9, 0, 16]) State.reset).slc.groups[3].face = ⟨.test, .steady, 15⟩ ∧
      statusOf (after (.groupSet 1 [3, 1, 1, 1, 0, 0, 4, 9, 0, 16]) State.reset) = some .clamped := by decide

theorem test_node_query_bad : statusOf (after (.nodeQuery 1 [0, 2]) planned) = some .badValue := by decide

theorem test_node_query :
    fieldsOf (after (.nodeQuery 1 [0, 0]) published) =
      some [0, 0, 1, 0, 5, 1, 0, 1, 0, 0, 0, 5, 0, 255, 255, 0, 0, 1, 0] := by decide

theorem test_sign_query_timer_idle :
    (fieldsOf (after (.signQuery 1 [0]) planned)).map (fun f => (f.drop 16).take 3) = some [255, 255, 255] := by
  decide

theorem test_zone_query :
    (fieldsOf (after (.zoneQuery 1 [0]) (zoned .suspect (some 600) none planned))).map (·.take 5) =
      some [0, 1, 0, 2, 88] := by decide

theorem test_detector_query_unmapped :
    (fieldsOf (after (.detectorQuery 1 [0, 96]) planned)).map (·.take 3) = some [0, 96, 255] := by decide

theorem test_portal_query_needs_portal : statusOf (after (.portalQuery 1 [0]) planned) = some .badValue := by decide

theorem test_portal_query :
    (fieldsOf (after (.portalQuery 1 [1]) planned)).map (·.take 6) = some [1, 0, 4, 0, 10, 0] := by decide

theorem test_notice_setup_clamps :
    (after (.noticeSetup 1 [3, 1, 9, 0]) State.reset).mp.kinds[2].priority = 3 ∧
      fieldsOf (after (.noticeSetup 1 [3, 1, 9, 0]) State.reset) = some [3, 1, 3, 1] := by decide

theorem test_clear_flags :
    let s := raise (.overrun .messagePort) State.reset
    (after (.clearFlags 1 [1, 10]) s).mp.kinds[9].flag = false ∧ (after (.clearFlags 1 [1, 10]) s).mp.notices = [] := by
  decide

theorem test_fault_clear_keeps_tallies :
    let s := capture .signLost 10 State.reset
    (after (.faultClear 1 [0, 1]) s).fc.record = none ∧ (after (.faultClear 1 [0, 1]) s).fc.tallies[4] = 1 ∧
      (after (.faultClear 1 [0, 1]) s).fc.ignoreMinor = true := by decide

theorem test_fault_read :
    (fieldsOf (after (.faultRead 1 []) (capture .signLost 10 State.reset))).map (·.take 5) = some [1, 4, 1, 0, 10] := by
  decide

theorem test_counter_setup :
    (after (.counterSetup 1 [1, 11]) State.reset).fc.counters[1] = ⟨.advertTaken, 0⟩ := by decide

theorem test_counter_read :
    fieldsOf (after (.counterRead 1 []) State.reset) = some [0, 0, 0, 0, 0, 1, 4, 0, 0, 0] := by decide

theorem test_output_setup :
    outputDriven (after (.outputSetup 1 ([0, 9, 0] ++ List.replicate 13 0)) State.reset) 0 = true := by decide

theorem test_line_setup_busy : statusOf (after (.lineSetup 1 [1, 0, 0x12, 0xC0, 0, 1]) State.reset) = some .busy := by
  decide

theorem test_line_setup_contact :
    (after (.lineSetup 1 [5, 3, 0, 70]) State.reset).di.channels[0] = ⟨.pulse, 70, some .opened, .absent, none⟩ := by
  decide

theorem test_line_halt_detector : (after (.lineHalt 1 [1]) State.reset).lines.detector.mark = .halted := by decide

theorem test_line_run_sign_starts_cycle :
    (after (.lineRun 1 [2]) (published.onLine .sign fun l => { l with mark := .halted })).slc.cycle = .cycling := by
  decide

theorem test_restart_refused :
    statusOf (after (.restart 1 []) { State.reset with zh := { State.reset.zh with evac := .active } }) =
      some .refused := by decide

theorem test_status_length : (fieldsOf (after (.status 1 []) planned)).map (·.length) = some 133 := by decide +kernel

/-! ## Resets, replies and notices -/

theorem test_power_on_loads : (after .powerOn planned).ps.condition = .good ∧ (after .powerOn planned).phase = .loading := by
  decide +kernel

theorem test_reset_line_abandons_store :
    (after .resetLine { planned with ps := { planned.ps with storing := true } }).fc.tallies[0] = 1 := by decide

theorem test_held_outputs : outputDriven (after .resetLineAsserted planned) 3 = true := by decide

theorem test_power_loss : (after .powerLoss planned).phase = .off := by decide

theorem test_load_end : (after .startUpLoadEnd (after .powerOn planned)).phase = .running := by decide +kernel

theorem test_restart_keeps_counter :
    let s := { published with mp := { published.mp with deferred := .restartDue } }
    (after .restartBegin s).rsv.published = none ∧ (after .restartBegin s).mp.lastReset = .restart := by decide +kernel

theorem test_reply_sent_frees_slot : (after .replySent (after (.identify 1 []) State.reset)).mp.reply = none := by decide

/-- A reply on the line, a request in hand and a notice listed. -/
def busyPort : State := raise (.overrun .messagePort) (after (.identify 2 []) (after (.identify 1 []) State.reset))

/-- The notice goes out before reply 2, which waits for it, or after it (08_message_port_and_requests.md, the sequence of requests
sent back to back). -/
theorem test_notice_before_reply :
    (after (.replySent true) busyPort).mp.transmitter = .notice [0x81, 10, 0, 0, 0, 0, 0, 0, 0, 1, 255, 255] ∧
      (after .noticeFrameSent (after (.replySent true) busyPort)).mp.transmitter = .reply := by decide

theorem test_notice_after_reply :
    (after .replySent busyPort).mp.transmitter = .reply ∧ (after .replySent busyPort).mp.notices.length = 1 := by decide

theorem test_format_change :
    let s := after .replySent (after (.lineSetup 1 [0, 0, 0x25, 0x80, 0, 2]) State.reset)
    (after .messagePortFormatChange s).lines.message.inUse = ⟨9600, .none, 2⟩ := by decide

theorem test_notice_frame :
    (after .noticeFrameStart (raise (.zoneChange 2 .clear .suspect) State.reset)).mp.transmitter =
      .notice [0x81, 2, 0, 0, 0, 0, 0, 0, 0, 2, 0, 1] := by decide

theorem test_notice_frame_sent :
    (after .noticeFrameSent (after .noticeFrameStart (raise (.zoneChange 2 .clear .suspect) State.reset))).mp.transmitter =
      .idle := by decide

/-! ## Detectors and zones -/

theorem test_supervise_seeks :
    (after (.detectorFrameReceived (frameChars ⟨9600, .even, 1⟩ [0x11, 7])) State.reset).di.lock = .seeking ∧
      (after (.detectorFrameReceived (frameChars ⟨9600, .even, 1⟩ [0x11, 7])) State.reset).di.silence = some 30 := by
  decide

theorem test_silence_expiry :
    let s := { State.reset with di := { State.reset.di with lock := .locked, silence := some 0 } }
    (after .silenceTimerExpiry s).di.lock = .silent ∧ (after .silenceTimerExpiry s).fc.tallies[1] = 1 := by decide

/-- A PULSE channel with a closure of a width, its OPEN about to be accepted. -/
def pulse (width : Nat) : State :=
  setChannel 0 { mode := .pulse, address := 70, accepted := some .closed, candidate := .accepting, width := some width }
    planned

theorem test_pulse_of_64_is_alarm :
    (after (.contactChangeAccepted 0) (pulse 64)).di.reports.map (·.level) = [.alarm] := by decide
theorem test_pulse_of_12_is_nothing : (after (.contactChangeAccepted 0) (pulse 12)).di.reports = [] := by decide

theorem test_pulse_limit :
    (after (.pulseWidthLimit 0) (setChannel 0
      { mode := .pulse, address := 70, accepted := some .closed, candidate := .absent, width := some 320 }
      planned)).di.reports.map (·.level) = [.fault] := by decide

theorem test_contact_sample :
    (after (.contactSample 1) (setChannel 0 (startChannel .pulse 70) planned)).di.channels[0].candidate = .present := by
  decide

theorem test_take_begin :
    (after .takeBegin { planned with di := { planned.di with reports := [entry] } }).zh.take = some entry := by decide

theorem test_take_complete_suspects :
    (after .takeComplete taking).zh.zones.map (·.suspect) = [some 600] ∧
      (after .takeComplete taking).zh.evac = .alert := by decide

theorem test_suspect_expiry_clears :
    (after (.suspectTimerExpiry 0) (zoned .suspect (some 0) none planned)).zh.zones.map (·.state) = [.clear] := by decide

theorem test_clear_hold_expiry :
    (after (.clearHoldTimerExpiry 0) (zoned .clearing none (some 0) planned)).zh.zones.map (·.state) = [.clear] := by
  decide

theorem test_clock_holds : advanceClock ⟨99, 59, 9, true⟩ = ⟨99, 59, 9, true⟩ := by decide

theorem test_tenth_tick :
    (after .tenthTick { planned with tb := ⟨9, 3⟩ }).tb = ⟨0, 4⟩ ∧ (after .tenthTick planned).slc.refresh = some 4 := by
  decide

/-! ## Routes, signs and peers -/

/-- Length 100 in width class 1 is 125 (R68). -/
theorem test_arc_distance : arcDistance { a := 0, b := 1, len := 100, width := 1, zone := 0, passage := .both } = 125 := by
  decide

theorem test_solve_start : (after .solveStart planned).rsv.state = .solving := by decide

theorem test_solve_end :
    (after .solveEnd (after .solveStart planned)).rsv.published = some someSet ∧
      (after .solveEnd (after .solveStart planned)).slc.cycle = .cycling := by decide

/-- A change during the solve has wanted another (R78): the next solve starts in the act that publishes (R83). -/
theorem test_solve_end_starts_next :
    let s := after (.exitSet 1 [0, 1]) (after .solveStart planned)
    (after .solveEnd s).rsv.state = .solving ∧ (after .solveEnd s).rsv.epoch = 1 ∧ (after .solveEnd s).rsv.wanted = false := by
  decide

theorem test_refresh_starts_cycle :
    showing.slc.exchange.map (·.face) = some ⟨.arrow 6, .steady, 8⟩ ∧ showing.slc.refresh = some 5 := by decide

theorem test_show_sent :
    (after .showFrameSent showing).slc.exchange.map (·.phase) = some (.window none) := by decide

theorem test_sign_reply_taken :
    (after (.signFrameReceived (frameChars ⟨57600, .none, 1⟩ [0x21, 10, 1, 2]))
      (after .showFrameSent showing)).slc.signs.map (·.state) = [.faulty] := by decide +kernel

/-- An echo byte that differs decides ECHO_MISMATCH (R119, R120). -/
theorem test_echo_mismatch :
    (after (.signFrameReceived (frameChars ⟨57600, .none, 1⟩ [0x21, 10, 2, 0]))
      (after .showFrameSent showing)).slc.exchange.map (·.phase) = some (.window (some .echoMismatch)) := by
  decide +kernel

theorem test_window_close_misses :
    (after .replyWindowClose (after .showFrameSent showing)).slc.signs.map (·.misses) = [1] := by decide

theorem test_fallback :
    let s := after .refreshTimerExpiry { State.reset with slc := { State.reset.slc with refresh := some 0 } }
    s.slc.exchange.map (·.address) = some 255 ∧ (after .fallbackFrameSent s).slc.cycle = .idle := by decide

/-- The sign with its emphasis timer due. -/
def emphasised : State :=
  { published with slc := { published.slc with signs := published.slc.signs.map fun g => { g with emphasis := some 0 } } }

theorem test_emphasis_expiry : (after (.emphasisTimerExpiry 0) emphasised).slc.signs.map (·.emphasis) = [none] := by
  decide

/-- The characters of an ADVERT of a station with one entry, as port A receives it. -/
def advertOf (station : Byte) : List RxChar :=
  frameChars ⟨38400, .odd, 1⟩ [0x30, station, 0, 9, 1, 4, 0, 0, 0, 50, 0, 0]

theorem test_advert_taken :
    (after (.advertReceived .a (advertOf 2)) planned).pp.a.state = .up ∧
      (after (.advertReceived .a (advertOf 2)) planned).pp.portals.map (·.advertisement) =
        [some ⟨⟨0, 50⟩, 0, false, false⟩] := by decide +kernel

theorem test_advert_miswired : (after (.advertReceived .a (advertOf 3)) planned).pp.a.state = .miswired := by decide +kernel

/-- Port A with its timers due. -/
def portDue (sending : Option AdvertSending) : State :=
  published.onPort .a fun r =>
    { r with state := .up, age := some 0, advertise := some 0, sending := sending }

theorem test_age_expiry :
    (after (.ageTimerExpiry .a) (portDue none)).pp.a.state = .down ∧
      (after (.ageTimerExpiry .a) (portDue none)).fc.tallies[7] = 1 := by decide

theorem test_advert_built :
    (after (.advertTimerExpiry .a) (portDue none)).pp.a.sending.map (·.frame.entries) =
      some [⟨1, ⟨0, 130⟩, 0, false, false, false⟩] := by decide

theorem test_spacing_expiry :
    ((after (.spacingTimerExpiry .a) (published.onPort .a fun r =>
      { r with spacing := some 0, sendPending := true })).pp.a.sending).isSome = true := by decide

theorem test_advert_sent :
    (after (.advertFrameSent .a) (after (.advertTimerExpiry .a) (portDue none))).pp.a.spacing = some 2 := by decide

/-! ## States that meet the hypotheses of the statements -/

/-- A state with one command waiting. -/
def withCommand (c : Instr) (s : State) : State := { s with pending := [c] }

theorem ready_reset : Ready State.reset := by unfold Ready; decide
theorem ready_planned : Ready planned := by unfold Ready; decide
theorem ready_staged (st : Stage) : Ready (staged st State.reset) := ⟨rfl, rfl, rfl, rfl, rfl⟩

theorem witness_step_runs_front_command : (withCommand .takeBegin State.reset).pending = .takeBegin :: [] := rfl

theorem witness_step_keeps_notices_ok :
    let s := withCommand (.evacuate 1 []) (raise (.overrun .messagePort) State.reset)
    NoticesOk s.mp ∧ s.mp.notices ≠ [] ∧ step s = .next (after (.evacuate 1 []) { s with pending := [] }) :=
  ⟨⟨by decide, by decide, by decide⟩, by decide, rfl⟩

theorem witness_step_keeps_zones_ok :
    let s := withCommand .takeComplete (zoned .suspect (some 3) none taking)
    SmokeActive s.zh ∧ ZoneTimersOk s.zh ∧ step s = .next (after .takeComplete { s with pending := [] }) :=
  ⟨by unfold SmokeActive; decide, by unfold ZoneTimersOk; decide, rfl⟩

theorem witness_step_keeps_tables_ok :
    let s := withCommand .takeComplete taking
    ReportsOk s.di ∧ DetectorsOk s.zh ∧ step s = .next (after .takeComplete { s with pending := [] }) :=
  ⟨⟨by decide, by decide⟩, ⟨by decide, by decide⟩, rfl⟩

theorem witness_step_keeps_counts_ok :
    let s := withCommand .tenthTick { planned with tb := ⟨9, 4294967295⟩ }
    FaultsOk s.fc ∧ TimebaseOk s.tb ∧ step s = .next (after .tenthTick { s with pending := [] }) :=
  ⟨⟨by decide, by decide⟩, by unfold TimebaseOk; decide, rfl⟩

theorem witness_step_keeps_clock_ok :
    let s := withCommand .tenthTick
      { planned with zh := { planned.zh with evac := .active, clock := ⟨99, 59, 9, true⟩ } }
    ClockOk s.zh ∧ step s = .next (after .tenthTick { s with pending := [] }) :=
  ⟨⟨by decide, by decide, by decide, by decide⟩, rfl⟩

theorem witness_step_keeps_lock_ok :
    let s := withCommand .silenceTimerExpiry
      { planned with di := { planned.di with lock := .seeking, validRun := 2, silence := some 0 } }
    LockOk s.di ∧ step s = .next (after .silenceTimerExpiry { s with pending := [] }) :=
  ⟨(⟨by decide, rfl, by decide⟩ : 2 ≤ 2 ∧ 0 = 0 ∧ some 0 ≠ none), rfl⟩

theorem witness_step_keeps_no_plan_ok :
    let s := withCommand (.planActivate 1 []) (staged .passed State.reset)
    NoPlanOk s ∧ s.ps.active = none ∧ step s = .next (after (.planActivate 1 []) { s with pending := [] }) :=
  ⟨by unfold NoPlanOk; decide, rfl, rfl⟩

theorem witness_step_keeps_portals_ok :
    let s := withCommand (.ageTimerExpiry .a)
      { planned with pp := { planned.pp with
          a := { planned.pp.a with state := .up, age := some 0 }
          portals := [{ exit := 1, advertisement := some ⟨⟨0, 50⟩, 0, false, false⟩, lastSent := none }] } }
    PortalsOk s ∧ step s = .next (after (.ageTimerExpiry .a) { s with pending := [] }) := by
  refine ⟨?_, rfl⟩
  intro r hr _
  refine ⟨plan, { port := .a, remote := 4, crossing := 10 }, rfl, ?_, rfl⟩
  rcases List.mem_singleton.1 hr with rfl
  rfl

/-- The set of the small plan descends: the link of node 1 leads to node 0. -/
theorem someSet_descends : SetDescends plan someSet := by
  intro u k o hop h
  match u with
  | 0 => cases h
  | 1 =>
    cases h
    exact ⟨{ a := 0, b := 1, len := 100, width := 1, zone := 0, passage := .both }, 0, rfl, rfl, rfl, rfl⟩
  | n + 2 => cases h

theorem witness_step_keeps_published_ok :
    let s := withCommand .solveStart { published with rsv := { published.rsv with wanted := true } }
    PublishedOk s ∧ s.rsv.published = some someSet ∧ step s = .next (after .solveStart { s with pending := [] }) := by
  refine ⟨?_, rfl, rfl⟩
  intro p set hp hs
  cases hp
  cases hs
  exact someSet_descends

theorem witness_reset_without_a_plan :
    State.reset.ps.memory.mark = .blank ∧ State.reset.ps.storing = false ∧ State.reset.phase ≠ .off ∧
      planned.ps.memory.mark = .written ∧ planned.ps.storing = false ∧
      some (crc16 [1, 2]) ≠ some (crc16 planned.ps.memory.image) ∧ planOfImage [1, 2] = none ∧ storing.ps.storing = true := by
  decide +kernel

theorem witness_reset_with_a_plan :
    planned.phase ≠ .off ∧
      planned.ps.memory = { mark := .written, image := imageBytes plan, check := some (crc16 (imageBytes plan)) } ∧
      planOfImage (imageBytes plan) = some plan ∧ planned.ps.storing = false := by decide +kernel

theorem witness_restart_begin :
    let s := { published with mp := { published.mp with deferred := .restartDue } }
    s.phase = .running ∧ s.mp.deferred = .restartDue ∧ s.ps.storing = false ∧ loadCondition s.ps.memory ≠ .bad ∧
      loadedPlan s.ps.memory = some plan ∧ storing.ps.storing = true := by
  decide +kernel

theorem witness_held_and_unpowered : planned.phase ≠ .off ∧ (after .powerOn planned).phase = .loading := by
  decide +kernel

/-- A part whose reply slot is full. -/
def replying : State := after (.identify 1 []) State.reset

theorem witness_request_frame_placed :
    requestOf (.identify 2 []) = some ⟨1, 2, []⟩ ∧ replying.phase = .running ∧ replying.mp.reply ≠ none ∧
      replying.mp.hand = none ∧ (after (.identify 2 []) replying).mp.hand ≠ none ∧
      (after (.identify 2 []) replying).mp.waiting = none ∧
      (after (.identify 3 []) (after (.identify 2 []) replying)).mp.waiting ≠ none := by decide

theorem witness_request_answered_once : requestOf (.evacuate 1 []) = some ⟨0x0C, 1, []⟩ ∧ Ready State.reset :=
  ⟨rfl, ready_reset⟩

theorem witness_turned_away : (perform ⟨0x0B, 1, [0]⟩ State.reset).status = .noPlan := by decide

theorem witness_unknown_kind_and_bad_length :
    (0 : Byte).toNat = 0 ∧ 30 < (31 : Byte).toNat ∧ requestOf (.zoneReset 1 []) = some ⟨0x0B, 1, []⟩ ∧
      fixedFields 0x0B = some 1 ∧ ([] : List Byte).length ≠ 1 := by decide

theorem witness_reply_sent :
    replying.phase = .running ∧ replying.mp.transmitter = .reply ∧ replying.mp.deferred = .none ∧
      replying.mp.hand = none ∧ (after (.identify 2 []) replying).mp.hand = some ⟨1, 2, []⟩ ∧
      (after (.restart 1 []) State.reset).mp.deferred = .restartAfterReply ∧
      (after (.lineSetup 1 [0, 0, 0x25, 0x80, 0, 2]) State.reset).mp.deferred = .formatAfterReply 9600 .none 2 ∧
      (after .replySent (after (.lineSetup 1 [0, 0, 0x25, 0x80, 0, 2]) State.reset)).mp.deferred =
        .formatDue 9600 .none 2 ∧
      (let s := after .replySent (after (.lineSetup 1 [0, 0, 0x25, 0x80, 0, 2]) State.reset)
       s.mp.transmitter = .idle ∧ s.mp.reply = none ∧ s.mp.deferred = .formatDue 9600 .none 2) ∧
      busyPort.mp.transmitter = .reply ∧ busyPort.mp.hand ≠ none ∧ busyPort.mp.notices.length = 1 := by decide

theorem witness_notice_frames :
    let s := raise (.overrun .messagePort) State.reset
    s.mp.transmitter = .idle ∧ s.mp.reply = none ∧ s.mp.deferred = .none ∧ s.mp.notices.length = 1 ∧
      (after .noticeFrameStart s).mp.transmitter = .notice [0x81, 10, 0, 0, 0, 0, 0, 0, 0, 1, 255, 255] := by decide

theorem witness_whole_frame :
    1 ≤ [(7 : Byte)].length ∧ (List.replicate 250 (7 : Byte)).length ≤ 250 ∧ replying.mp.transmitter = .reply ∧
      replying.mp.reply.isSome = true ∧ showing.slc.exchange.map (·.phase) = some .sending ∧
      (after (.advertTimerExpiry .a) (portDue none)).pp.a.sending.isSome = true := by
  exact ⟨by decide, by rw [List.length_replicate], by decide, by decide, by decide, by decide⟩

theorem witness_frame_received :
    planned.lines.message.rx = [] ∧ planned.lines.detector.mark = .running ∧ planned.lines.sign.rx = [] ∧
      planned.slc.exchange = none ∧ (after .showFrameSent showing).slc.exchange.map (·.phase) = some (.window none) ∧
      (∀ port, (lineGet planned.lines (portLine port)).rx = [] ∧ planned.mark (portLine port) = .running) := by
  refine ⟨by decide, by decide, by decide, by decide, by decide, fun port => ?_⟩
  cases port <;> decide

theorem witness_gap_abort :
    let sync (id : LineId) (s : State) : State := s.onLine id fun l => { l with rx := [⟨0xA5, false, true⟩] }
    (∀ id, (lineGet (sync id planned).lines id).rx ≠ []) ∧ (sync .sign planned).slc.exchange = none ∧
      (sync .sign (setPhase .drain showing)).slc.exchange.map (·.phase) = some .drain := by
  refine ⟨fun id => ?_, by decide, by decide⟩
  cases id <;> decide

theorem witness_plan_requests :
    (staged .opened State.reset).ps.staging.stage = .opened ∧
      sectionOf (3 : Byte).toNat = some .zones ∧ (1 : Byte) ≠ 0 ∧
      splitRecords .zones (1 : Byte).toNat [0, 1, 8, 3] = .records [[0, 1, 8, 3]] ∧
      num2 0 63 + 1 - 1 < sectionMax .zones ∧ sectionMax .zones ≤ num2 0 64 + 1 - 1 ∧
      (putRecords (staged .opened State.reset).ps.staging .zones 63 [[0, 1, 8, 3]]).isSome = true ∧
      putRecords (staged .opened State.reset).ps.staging .zones 63 [[2, 1, 8, 3]] = none ∧
      sectionOf 7 = none ∧ splitRecords .zones 2 [0, 1, 8, 3] = .badLength ∧
      splitRecords .signs 1 [10, 0, 1, 9, 0] = .badValue ∧
      splitRecords .signs 1 [10, 0, 1, 1, 0, 0, 6, 5] = .badValue ∧
      splitRecords .signs 1 [10, 0, 1, 1, 0, 0, 6, 1, 3] = .records [[10, 0, 1, 1, 0, 0, 6, 1, 3]] := by decide

/-- A HEADER record of defaults, with an own station id. -/
def headerRecord (own : Byte) : List Byte := [0, 7, 0, 2, 0, 1, 1, 1, 2, 1] ++ List.replicate 25 0xFF ++ [own, 2, 0]

theorem witness_quantities :
    1 ≤ 7 ∧ 7 < 8 ∧ (1 ≤ 1 ∧ 1 ≤ 1024) ∧ (1 ≤ 1024 ∧ 1024 ≤ 1024) ∧ 1024 < 1025 ∧
      readHeader (headerRecord 1) = some (header, false) ∧ readHeader (headerRecord 16) = none ∧
      passageCode .bToA = (2 : Byte).toNat ∧ 2 < (3 : Byte).toNat ∧ exitStateCode .closed = (2 : Byte).toNat ∧
      portCode .b = (1 : Byte).toNat ∧ (31 : Byte).toNat ≤ 31 ∧ 31 < (32 : Byte).toNat ∧
      [((0 : Byte), (0 : Byte), (7 : Byte))].length ≤ 8 ∧ 7 < (8 : Byte).toNat := by decide

/-- The same zone record read whole, clamped, and with a code that names nothing (R5, R190). -/
theorem test_zone_record :
    readZone [1, 16, 0, 8] =
        some ({ latch := true, suspectWeight := 15, smokeWeight := 1, confirmCount := 7 }, true) ∧
      readZone [2, 1, 8, 3] = none := by decide

theorem witness_plan_check :
    (staged .checking State.reset).phase = .running ∧ planCheck (staged .checking State.reset).ps.staging = none ∧
      planCheck stagingEmpty = some { reason := .sectionMissing, sect := .header, index := 0 } := by decide

theorem witness_checked_plan :
    planCheck (staged .passed State.reset).ps.staging = none ∧
      stagedPlan (staged .passed State.reset).ps.staging = some plan := by decide

/-- Two reasons fail, LINK_ZONE at links 1 and 2 and WINDOW_ALIGN at window 0: the earlier reason is reported at its
lowest index (R15). -/
theorem test_first_reason_and_lowest_index :
    let link (z : Nat) : LinkRec := { a := 0, b := 1, len := 100, width := 1, zone := z, passage := .both }
    let g := (staged .opened State.reset).ps.staging
    planCheck { g with header := [(0, { header with linkCount := 3 })]
                       links := [(0, link 0), (1, link 1), (2, link 1)]
                       windows := [(0, { base := 65, size := 32, zone := 0 })] } =
      some { reason := .linkZone, sect := .links, index := 1 } := by decide

/-- The small plan lies in its ranges. -/
theorem plan_fits : PlanFits plan where
  header := by constructor <;> (try unfold TimingFits) <;> decide
  lengths := by decide
  nodes := by decide
  links := by unfold LinkFits; decide
  zones := by unfold ZoneFits; decide
  windows := by unfold WindowFits; decide
  exits := by unfold ExitFits; decide
  signs := by unfold SignFits; decide

theorem witness_plan_activate :
    let s := staged .passed State.reset
    s.ps.staging.stage = .passed ∧ s.rsv.state = .idle ∧ (after .solveStart (staged .passed planned)).rsv.state = .solving := by
  decide

theorem witness_swap :
    (zoned .suspect (some 5) none planned).zh.evac ≠ .active ∧ planned.zh.zones[0]?.isSome = true ∧
      State.reset.zh.zones[0]? = none ∧ expectedId plan.header .a ≠ 0 ∧ expectedId plan.header .b = 0 ∧
      showing.slc.exchange.map (·.target) = some (.sign 0) ∧ decodeZone plan 70 = some 0 ∧ decodeZone plan 63 = none ∧
      taking.zh.take.isSome = true ∧ planned.mp.kinds[NoticeKind.planEvent.idx].flag = false := by decide

/-- Both ports UP on a plan. -/
def bothUp : State :=
  { planned with pp := { planned.pp with a := { planned.pp.a with state := .up }, b := { planned.pp.b with state := .up } } }

/-- A swap that takes both ports out of use: each goes DOWN without PEER_DOWN, and PORTAL_CHANGE holds port A's change
(R19, log entry 47); with port A in use it holds port B's. -/
theorem test_swap_downs_ports :
    let body (s : State) := s.mp.kinds[NoticeKind.portalChange.idx].event.map (·.body)
    let t := swapTo { plan with header := { header with expectedA := 0 } } bothUp
    body t = some (.portalChange .a .down 0 none) ∧ t.pp.a.state = .down ∧ t.pp.b.state = .down ∧ t.fc.record = none ∧
      body (swapTo plan bothUp) = some (.portalChange .b .down 0 none) := by decide

/-- At a swap to a plan without the window, the take under way is marked unmapped and ends as one (R18, R41). -/
theorem test_swap_marks_the_take :
    let t := swapTo { plan with windows := [] } taking
    t.zh.take.map (·.unmapped) = some true ∧ (after .takeComplete t).fc.tallies[FaultKind.unmappedDetector.idx] = 1 ∧
      (after .takeComplete t).zh.take = none := by decide

theorem witness_plan_store_end :
    (after (.planActivate 1 []) (staged .passed State.reset)).ps.storing = true ∧
      (after (.planActivate 1 []) (staged .passed State.reset)).phase = .running ∧ planned.ps.storing = false ∧
      crc16 (imageBytes plan) = crc16 storing.ps.memory.image ∧ crc16 [0] ≠ crc16 storing.ps.memory.image ∧
      PlanFits plan := by
  exact ⟨by decide, by decide, by decide, by decide +kernel, by decide +kernel, plan_fits⟩

theorem witness_reads : requestOf (.portalQuery 1 [1]) = some ⟨0x13, 1, [1]⟩ ∧ Ready planned := ⟨rfl, ready_planned⟩

theorem witness_queries :
    planned.ps.active = some plan ∧ num2 0 1 < plan.nodes.length ∧ plan.nodes.length ≤ num2 0 2 ∧
      planned.slc.signs.length = plan.signs.length ∧ (0 : Byte).toNat < planned.zh.zones.length ∧
      planned.zh.zones.length ≤ (1 : Byte).toNat ∧ num2 3 255 = 1023 ∧ num2 4 0 = 1024 ∧
      portalOf plan 0 = none ∧ (portalOf plan 1).isSome = true ∧ 1 < planned.rsv.exits.length ∧
      planned.pp.portals.map (·.exit) = [1] ∧ bankOf 1 = some .staging ∧ sectionOf 6 = some .signs ∧
      num2 0 249 < sectionMax .signs ∧ sectionMax .signs ≤ num2 0 250 := by decide

theorem witness_reports :
    (∀ w ∈ plan.windows, ¬ (w.base ≤ 63 ∧ 63 < w.base + w.size)) ∧
      (∀ w ∈ plan.windows, w.base ≤ 95 ∧ 95 < w.base + w.size) ∧ planned.di.reports.length < 32 ∧
      32 ≤ (List.replicate 32 entry).length ∧ (∀ e ∈ List.replicate 32 entry, e.address ≠ 71) ∧
      [entry] = [] ++ entry :: [] := by decide

theorem witness_detector_line :
    (∀ q, q < 64 → q ≤ 63) ∧ 63 < 64 ∧ 255 < 256 ∧ 65535 < 65536 ∧
      { planned.di with lock := .locked, silence := some 0 }.silence = some 0 ∧
      { planned.di with lock := .locked, invalidRun := 2 }.invalidRun = 2 := by
  refine ⟨fun q h => by omega, by decide, by decide, by decide, by decide, by decide⟩

/-- The third invalid frame in a row takes a LOCKED line to SEEKING (R27, R30). -/
theorem test_third_invalid_frame :
    let t := detectorInvalid false { planned with di := { planned.di with lock := .locked, invalidRun := 2 } }
    t.di.lock = .seeking ∧ t.mp.kinds[NoticeKind.lineState.idx].flag = true ∧ t.fc.tallies[1] = 1 := by decide

theorem witness_contacts :
    (∀ m : Fin 8, planned.di.channels[m].candidate ≠ .accepting ∧ planned.di.channels[m].width = none) ∧
      (pulse 64).di.channels[0].candidate = .accepting ∧ (pulse 64).di.channels[0].accepted = some .closed := by decide

theorem witness_take_begins :
    planned.zh.take = none ∧ { planned.di with reports := [entry] }.reports = entry :: [] ∧ entry.unmapped = false ∧
      { entry with unmapped := true }.unmapped = true := by decide

/-- The record of the entry's address. -/
def record (last : Nat) : DetectorRec := { zone := 0, level := .normal, lastSequence := some last, alarms := 0, time := 0 }

theorem witness_take_completes :
    taking.zh.take = some entry ∧ slotGet [(70, record 4)] 70 = some (record 4) ∧ 5 = (4 + entry.merged) % 64 ∧
      5 ≠ (3 + entry.merged) % 64 ∧ (record 5).lastSequence = entry.sequence ∧
      slotGet taking.zh.detectors entry.address = none ∧ { entry with unmapped := true }.unmapped = true := by decide

/-- A table of 256 records at one level, at addresses 100 to 355. -/
def fullTable (level : Level) : Slots DetectorRec :=
  (List.range 256).map fun i => (100 + i, { zone := 0, level := level, lastSequence := none, alarms := 0, time := i })

theorem witness_take_with_full_table :
    slotGet (fullTable .normal) 70 = none ∧ 256 ≤ (fullTable .normal).length ∧ slotsWf (fullTable .normal) = true ∧
      oldestNormal (fullTable .normal) = some (0, 100) ∧ oldestNormal (fullTable .alarm) = none := by decide +kernel

/-- A zone entering SMOKE makes the hall ACTIVE, and with no route from the sign's node NO_ROUTE rises (R108). -/
theorem test_smoke_without_route :
    let s : State := { published with rsv := { published.rsv with published := some { someSet with records := [] } } }
    signedNone plan { someSet with records := [] } = [1] ∧
      (after (.zoneForce 1 [0, 0]) s).mp.kinds[NoticeKind.noRoute.idx].event.map (·.body) =
        some (.noRoute 1 1 1 10) := by decide

theorem witness_exit_set_and_zone_force :
    planned.ps.active ≠ none ∧ planned.rsv.exits[(1 : Byte).toNat]? = some .opened ∧ exitStateOf 2 = some .closed ∧
      planned.rsv.exits.length ≤ (2 : Byte).toNat ∧ planned.zh.zones[0]?.isSome = true := by decide

theorem witness_zone_reset :
    let s := zoned .smoke none none { planned with zh := { planned.zh with detectors := [(70, { record 5 with level := .alarm })] } }
    s.ps.active = some plan ∧ s.zh.zones.map (·.state) = [.smoke] ∧
      (∃ d ∈ s.zh.detectors, d.2.zone = 0 ∧ d.2.level = .alarm) ∧
      ¬ ∃ d ∈ (zoned .smoke none none planned).zh.detectors, d.2.zone = 0 ∧ d.2.level = .alarm := by decide

theorem witness_evacuate_and_stand_down :
    (after (.evacuate 1 []) State.reset).zh.evac = .active ∧
      (∀ z ∈ (after (.evacuate 1 []) planned).zh.zones, z.state ≠ .smoke) ∧
      (∃ z ∈ (after (.zoneForce 1 [0, 0]) planned).zh.zones, z.state = .smoke) := by decide

theorem witness_zone_evaluation :
    let s := zoned .suspect (some 0) none { planned with zh := { planned.zh with detectors := [(70, { record 5 with level := .prealarm })] } }
    s.zh.zones[0]?.map (·.suspect) = some (some 0) ∧
      (s.zh.zones[0]?.map fun z => (conditions s.zh.detectors 0 z).warning) = some true ∧
      (zoned .clearing none (some 0) planned).zh.zones[0]?.map (·.clearHold) = some (some 0) := by decide

theorem witness_notice_setup_and_clear_flags :
    noticeKindOf (1 : Byte).toNat = some .evacState ∧ noticeKindOf (10 : Byte).toNat = some .overrun ∧
      noticeKindOf 11 = none ∧ [(1 : Byte), 10].length = (2 : Byte).toNat := by decide

theorem witness_rises_and_captures :
    State.reset.mp.kinds[NoticeKind.evacState.idx].flag = false ∧
      (raise (.overrun .messagePort) State.reset).mp.kinds[NoticeKind.overrun.idx].flag = true ∧
      faultClassOf .signLost = .major ∧ faultClassOf .sequenceGap = .minor ∧ State.reset.fc.record = none := by decide

theorem witness_fault_counter_and_output :
    counterInputOf 11 = some .advertTaken ∧ counterInputOf 12 = none ∧ signalOf 11 = some .noticePending ∧
      (List.replicate 13 (1 : Byte)).length = 13 ∧ (3 : Byte).toNat = (3 : Fin 4).val := by decide

theorem witness_major_fault :
    let s := withCommand .tenthTick (capture .signLost 10 State.reset)
    s.fc.record = some ⟨.signLost, 10, 0⟩ ∧ s.mp.hand = none ∧ requestOf .tenthTick = none ∧
      step s = .next (after .tenthTick { s with pending := [] }) := ⟨by decide, by decide, rfl, rfl⟩

theorem witness_group_set :
    strictFlagOf 1 = some true ∧ groupClassOf 1 = some .service ∧ symbolOf 0 7 = some (.arrow 7) ∧
      symbolOf 0 8 = none ∧ flashOf 2 = some .fast ∧ (15 : Byte).toNat = (15 : Fin 16).val ∧
      mapDirection [(0, 6)] 0 = some 6 := by decide

theorem witness_line_setup :
    num3 0 0x04 0xB0 = 1200 ∧ num3 1 0xC2 0 = 115200 ∧ parityOf 3 = some .zero ∧ contactModeOf 3 = some .pulse ∧
      State.reset.mark .sign = .running ∧ (after (.lineHalt 1 [2]) State.reset).mark .sign = .halted ∧
      (12 : Byte).toNat = 5 + (7 : Fin 8).val ∧ lineNumber .peerB = 4 := by decide

theorem witness_line_halt_and_run :
    (∀ id, planned.mark id = .running) ∧ portNumber .b = 4 ∧ portInUse planned .a = true ∧
      (portDue none).pp.a.state ≠ .down ∧ planned.zh.evac ≠ .active ∧
      (published.onLine .sign fun l => { l with mark := .halted }).mark .sign = .halted ∧
      published.slc.exchange = none := by
  refine ⟨fun id => ?_, by decide, by decide, by decide, by decide, by decide, by decide⟩
  cases id <;> decide

/-- LINE HALT of a port that was UP: LINE_STATE, PORTAL_CHANGE and PEER_DOWN; and of the LOCKED detector line: LINE_STATE
and DETECTOR_LINE_LOST (R30, R140). -/
theorem test_halt_raises :
    let event (k : NoticeKind) (s : State) := s.mp.kinds[k.idx].event.map (·.body)
    let t := after (.lineHalt 1 [3]) bothUp
    let u := after (.lineHalt 1 [1]) { planned with di := { planned.di with lock := .locked, silence := some 9 } }
    event .lineState t = some (.lineState 3 (.port .down) none) ∧
      event .portalChange t = some (.portalChange .a .down 0 none) ∧ t.fc.record.map (·.kind) = some .peerDown ∧
      event .lineState u = some (.lineState 1 (.lock .silent) none) ∧
      u.fc.record.map (·.kind) = some .detectorLineLost := by decide

/-- A table of two nodes, the second of which a link reaches more cheaply. -/
def twoNodes : List NodeWork := [⟨⟨0, 5⟩, some (0, 0)⟩, ⟨⟨0, 200⟩, some (1, 1)⟩]

theorem witness_relaxation :
    1 < twoNodes.length ∧ (extend (workAt twoNodes 0).cost ⟨0, 125⟩).x = (workAt twoNodes 1).cost.x ∧
      (extend (workAt twoNodes 0).cost ⟨0, 125⟩).d < (workAt twoNodes 1).cost.d ∧
      (relax [0] plan.links 2 0 twoNodes).limited = false ∧ (relax [0] plan.links 1 0 twoNodes).limited = true := by
  decide

/-- The heading of node 1 for its arc, and with hysteresis for the previous link at a cost within the margin (R91,
R92). -/
theorem test_hysteresis_holds :
    let slow : LinkRec := { a := 1, b := 0, len := 200, width := 0, zone := 0, passage := .both }
    let p : Plan := { plan with links := plan.links ++ [slow] }
    let snap := { takeSnapshot planned with portals := [] }
    let nodes : List NodeWork := [⟨⟨0, 5⟩, some (0, 0)⟩, ⟨⟨0, 130⟩, some (0, 0)⟩]
    let held : HeadingSet := { someSet with records := someSet.records.set 1 ⟨⟨0, 205⟩, .link 1 0 0, false⟩ }
    (selectHeadings p snap nodes none).map (·.choice) = [.seed 0 0, .link 0 0 0] ∧
      (selectHeadings p snap nodes (some held)).map (·.choice) = [.seed 0 0, .link 1 0 0] := by decide

theorem witness_cost_extension :
    let c : Cost := ⟨65535, 65534⟩
    c.x ≤ 65535 ∧ c.d ≤ 65534 ∧ extend c ⟨0, 1⟩ = c ∧ extend ⟨3, 4⟩ ⟨10, 125⟩ = ⟨13, 129⟩ := by decide

/-- The seeds of a portal: LIVE with hop 2 and distance 65534, with hop 3, with distance 65535, and UNKNOWN; and node 1
has the seed of the portal that stands there (R73, R74). -/
theorem test_portal_seeds :
    let live (d hop : Nat) : Option Advertisement := some ⟨⟨0, d⟩, hop, false, false⟩
    let seed (adv : Option Advertisement) := nodeSeed plan { weights := [0], exits := [.opened, .opened], portals := [(1, adv)] } 1
    seed (live 65534 2) = some ⟨1, ⟨0, 65534⟩, 3⟩ ∧ seed (live 20 0) = some ⟨1, ⟨0, 30⟩, 1⟩ ∧
      seed (live 20 3) = none ∧ seed (live 65535 0) = none ∧ seed none = none ∧
      exitSeed plan [.closed, .opened] [] 0 = none ∧ exitSeed plan [.restricted, .opened] [] 0 = some ⟨0, ⟨0, 605⟩, 0⟩ := by
  decide

theorem witness_solve :
    planned.rsv.wanted = true ∧ planned.rsv.state = .idle ∧
      (after .solveStart planned).rsv.snapshot.isSome = true ∧
      (after .solveStart planned).rsv.activationPending = false ∧
      (after (.planActivate 1 []) (staged .passed (after .solveStart planned))).rsv.activationPending = true ∧
      nodeSeed plan (takeSnapshot planned) 0 = some ⟨0, ⟨0, 5⟩, 0⟩ ∧ nodeSeed plan (takeSnapshot planned) 1 = none ∧
      signedNone plan { someSet with records := [] } = [1] ∧ signedNone plan someSet = [] ∧
      published.pp.a.spacing = none ∧ published.pp.a.sending = none ∧ published.mark .peerA = .running ∧
      planned.slc.cycle = .dormant ∧ planned.slc.exchange = none := by
  decide

theorem witness_refresh :
    (published.slc.cycle = .idle ∧ published.mark .sign = .running ∧ published.slc.exchange = none) ∧
      published.rsv.published = some someSet ∧ planned.slc.cycle = .dormant ∧ showing.slc.cycle = .cycling := by decide

theorem witness_sign_exchange :
    (∃ e, showing.slc.exchange = some e ∧ e.phase = .sending ∧ e.target = .sign 0) ∧
      (∃ e, (after .showFrameSent showing).slc.exchange = some e ∧ e.phase = .window none ∧ e.address = 10 ∧
        e.epochByte = 1) ∧ showing.slc.cutPending = false ∧ showing.slc.order.length ≤ showing.slc.position + 1 ∧
      backToBack showing = false ∧ emphasised.slc.signs.map (·.emphasis) = [some 0] :=
  ⟨⟨_, rfl, rfl, rfl⟩, ⟨_, rfl, rfl, rfl, rfl⟩, rfl, by decide, rfl, rfl⟩

/-- The blanking of a removed address in its window, a start that waits in IDLE for the frame on the line, and the end of
the last exchange in back-to-back mode. -/
def blanking : State :=
  { showing with slc := { showing.slc with
      exchange := some { target := .blank, address := 20, face := blankFace, epochByte := 1, phase := .window none } } }

theorem witness_exchange_ends :
    let waiting : State := { blanking with slc := { blanking.slc with cycle := .idle, startWaiting := true } }
    let back : State :=
      { showing with ps := { showing.ps with active := some { plan with header := { header with refresh := ⟨0, .tenth⟩ } } } }
    blanking.lines.sign.rx = [] ∧ (after .replyWindowClose blanking).slc.signs = blanking.slc.signs ∧
      (after .replyWindowClose waiting).slc.number = waiting.slc.number + 1 ∧ waiting.mark .sign = .running ∧
      backToBack back = true ∧ back.slc.order ≠ [] ∧ back.slc.startPending = false ∧ back.slc.cycle = .cycling ∧
      (exchangeEnded back).slc.number = back.slc.number + 1 := by decide

/-- The close of a sign's window over a frame being received settles the miss and waits for that frame (R120, log
entry 32); the exchange then ends with the frame's last character. -/
theorem test_window_closes_over_a_frame :
    let sync : List RxChar := (frameChars ⟨57600, .none, 1⟩ [0x21, 10, 1, 0]).take 7
    let last : List RxChar := (frameChars ⟨57600, .none, 1⟩ [0x21, 10, 1, 0]).drop 7
    let s := (after .showFrameSent showing).onLine .sign fun l => { l with rx := sync }
    let t := after .replyWindowClose s
    t.slc.exchange.map (·.phase) = some .drain ∧ t.slc.signs.map (·.misses) = [1] ∧
      (after (.signFrameReceived last) t).slc.exchange = none ∧
      (after (.signFrameReceived last) t).slc.signs.map (·.misses) = [1] := by decide +kernel

/-- The exchange with a sign that a swap outlives: sent, and missed for the third time, it raises SIGN_TROUBLE for the
former sign and leaves the new plan's as it is (log entry 19). -/
theorem test_former_exchange :
    let g : SignRun :=
      { address := 10, node := 1, state := .missing, misses := 2, lamp := none, lastFace := none, outcome := .none,
        composed := none, flashOpen := false, emphasis := none, lastBase := none }
    let s : State := { planned with slc := { planned.slc with
      exchange := some { target := .former 0 g 3, address := 10, face := blankFace, epochByte := 1, phase := .sending } } }
    let t := after .replyWindowClose (after .showFrameSent s)
    t.mp.kinds[NoticeKind.signTrouble.idx].event.map (·.body) = some (.signTrouble 0 10 .lost 3 none) ∧
      t.slc.signs = planned.slc.signs ∧ t.slc.exchange = none := by decide

/-- The first frame of a cycle goes to the sign that heads the order (R117, R118). -/
theorem test_first_show :
    showing.slc.order = [.sign 0] ∧ showing.slc.exchange.map (·.address) = some 10 ∧
      showing.slc.exchange.map (·.face) = (showing.slc.signs[0]?.bind (·.composed)) := by decide

/-- A framing error in the LENGTH byte after a SYNC is a character error inside the window (R120, log entry 22). -/
theorem test_char_error_decides :
    let s := (after .showFrameSent showing).onLine .sign fun l => { l with rx := [⟨0xA5, false, true⟩] }
    (after (.signFrameReceived [⟨4, false, false⟩]) s).slc.exchange.map (·.phase) =
        some (.window (some .charError)) ∧
      (after (.signFrameReceived [⟨4, false, false⟩]) s).fc.tallies[FaultKind.signReplyError.idx] = 1 := by decide

theorem witness_adverts :
    planned.ps.active = some plan ∧ expectedId plan.header .a = 2 ∧ (portDue none).pp.a.age = some 0 ∧
      (portDue none).pp.a.advertise = some 0 ∧ (portDue none).pp.a.spacing = none ∧
      (portDue none).mark .peerA = .running ∧
      (after (.advertTimerExpiry .a) (portDue none)).pp.a.sending.isSome = true := by decide

/-- The five high bits of an entry's flags byte are not looked at (R186). -/
theorem test_reserved_flag_bits :
    let body (flags : Byte) : List Byte := [0x30, 2, 0, 7, 1, 4, 0, 1, 0, 2, 1, flags]
    readAdvert (body 0xF9) = readAdvert (body 1) ∧ (readAdvert (body 1)).isSome = true := by decide

/-- The frame of `advertOf`'s kind is a valid ADVERT, and a first entry at UNKNOWN or none wants a solve (R136, R142). -/
theorem witness_advert_frames :
    readAdvert [0x30, 2, 0, 9, 1, 4, 0, 0, 0, 50, 0, 0] = some ⟨2, 9, [⟨4, ⟨0, 50⟩, 0, false, false, false⟩]⟩ ∧
      readAdvert [0x30, 2, 0, 9, 1, 4, 0, 0, 0, 50, 4, 0] = none ∧
      (advertTaken .a 2 ⟨2, 9, [⟨4, ⟨0, 50⟩, 0, false, false, false⟩]⟩ published).rsv.wanted = true ∧
      (advertTaken .a 2 ⟨2, 9, []⟩ published).rsv.wanted = false := by decide

/-- Poisoned reverse: a route out of this port's own portal is UNKNOWN in its frame (R147). -/
theorem test_poisoned_reverse :
    let set : HeadingSet := { someSet with records := [⟨⟨0, 5⟩, .seed 0 0, true⟩, ⟨⟨0, 60⟩, .seed 1 1, true⟩] }
    (buildAdvert plan (some set) .a .up).entries = [unknownEntry 1] := by decide

/-- A part on the plan with refresh count 0, IDLE. -/
def backToBackState : State :=
  { published with ps := { published.ps with
      active := some { plan with header := { header with refresh := ⟨0, .tenth⟩ } } } }

theorem witness_tenth_tick :
    planned.phase = .running ∧ backToBack planned = false ∧
      (backToBackState.slc.cycle = .idle ∧ backToBackState.mark .sign = .running ∧
        backToBack backToBackState = true ∧ backToBackState.slc.exchange = none) ∧
      (let c : EvacClock := ⟨99, 59, 9, true⟩; c.minutes ≤ 99 ∧ c.seconds ≤ 59 ∧ c.tenths ≤ 9) := by decide

end Sys2Proof.Tests
end

section
/-! SUPPORT. The frames of the swap to a plan (R17 to R19): the parts of the state that each of its operations leaves as
it was, and what the swap writes. -/

namespace Sys2Proof.Machine

variable (s : State)

/-! ### swapPort -/

@[simp] theorem swapPort_pending (port : PeerPort) : (swapPort port s).pending = s.pending := by unfold swapPort; (repeat' split) <;> simp
@[simp] theorem swapPort_phase (port : PeerPort) : (swapPort port s).phase = s.phase := by unfold swapPort; (repeat' split) <;> simp
@[simp] theorem swapPort_ps (port : PeerPort) : (swapPort port s).ps = s.ps := by unfold swapPort; (repeat' split) <;> simp
@[simp] theorem swapPort_di (port : PeerPort) : (swapPort port s).di = s.di := by unfold swapPort; (repeat' split) <;> simp
@[simp] theorem swapPort_zh (port : PeerPort) : (swapPort port s).zh = s.zh := by unfold swapPort; (repeat' split) <;> simp
@[simp] theorem swapPort_slc (port : PeerPort) : (swapPort port s).slc = s.slc := by unfold swapPort; (repeat' split) <;> simp
@[simp] theorem swapPort_fc (port : PeerPort) : (swapPort port s).fc = s.fc := by unfold swapPort; (repeat' split) <;> simp
@[simp] theorem swapPort_tb (port : PeerPort) : (swapPort port s).tb = s.tb := by unfold swapPort; (repeat' split) <;> simp
@[simp] theorem swapPort_lines (port : PeerPort) : (swapPort port s).lines = s.lines := by unfold swapPort; (repeat' split) <;> simp
@[simp] theorem swapPort_free (port : PeerPort) : (swapPort port s).free = s.free := by unfold swapPort; (repeat' split) <;> simp

/-! ### swapPeers -/

@[simp] theorem swapPeers_pending (p : Plan) : (swapPeers p s).pending = s.pending := by simp [swapPeers]
@[simp] theorem swapPeers_phase (p : Plan) : (swapPeers p s).phase = s.phase := by simp [swapPeers]
@[simp] theorem swapPeers_ps (p : Plan) : (swapPeers p s).ps = s.ps := by simp [swapPeers]
@[simp] theorem swapPeers_di (p : Plan) : (swapPeers p s).di = s.di := by simp [swapPeers]
@[simp] theorem swapPeers_zh (p : Plan) : (swapPeers p s).zh = s.zh := by simp [swapPeers]
@[simp] theorem swapPeers_slc (p : Plan) : (swapPeers p s).slc = s.slc := by simp [swapPeers]
@[simp] theorem swapPeers_fc (p : Plan) : (swapPeers p s).fc = s.fc := by simp [swapPeers]
@[simp] theorem swapPeers_tb (p : Plan) : (swapPeers p s).tb = s.tb := by simp [swapPeers]
@[simp] theorem swapPeers_lines (p : Plan) : (swapPeers p s).lines = s.lines := by simp [swapPeers]
@[simp] theorem swapPeers_free (p : Plan) : (swapPeers p s).free = s.free := by simp [swapPeers]

/-! ### evacAfterSwap -/

@[simp] theorem evacAfterSwap_pending : (evacAfterSwap s).pending = s.pending := by unfold evacAfterSwap; split <;> simp
@[simp] theorem evacAfterSwap_phase : (evacAfterSwap s).phase = s.phase := by unfold evacAfterSwap; split <;> simp
@[simp] theorem evacAfterSwap_ps : (evacAfterSwap s).ps = s.ps := by unfold evacAfterSwap; split <;> simp
@[simp] theorem evacAfterSwap_di : (evacAfterSwap s).di = s.di := by unfold evacAfterSwap; split <;> simp
@[simp] theorem evacAfterSwap_rsv : (evacAfterSwap s).rsv = s.rsv := by unfold evacAfterSwap; split <;> simp
@[simp] theorem evacAfterSwap_slc : (evacAfterSwap s).slc = s.slc := by unfold evacAfterSwap; split <;> simp
@[simp] theorem evacAfterSwap_pp : (evacAfterSwap s).pp = s.pp := by unfold evacAfterSwap; split <;> simp
@[simp] theorem evacAfterSwap_fc : (evacAfterSwap s).fc = s.fc := by unfold evacAfterSwap; split <;> simp
@[simp] theorem evacAfterSwap_tb : (evacAfterSwap s).tb = s.tb := by unfold evacAfterSwap; split <;> simp
@[simp] theorem evacAfterSwap_lines : (evacAfterSwap s).lines = s.lines := by unfold evacAfterSwap; split <;> simp
@[simp] theorem evacAfterSwap_free : (evacAfterSwap s).free = s.free := by unfold evacAfterSwap; split <;> simp

/-! ### swapTo -/

@[simp] theorem swapTo_pending (p : Plan) : (swapTo p s).pending = s.pending := by simp [swapTo]
@[simp] theorem swapTo_phase (p : Plan) : (swapTo p s).phase = s.phase := by simp [swapTo]
@[simp] theorem swapTo_ps (p : Plan) : (swapTo p s).ps = swapStore p s.ps := by simp [swapTo]
@[simp] theorem swapTo_di (p : Plan) : (swapTo p s).di = carryIntake p s.di := by simp [swapTo]
@[simp] theorem swapTo_slc (p : Plan) : (swapTo p s).slc = swapSigns s.ps.active p s.slc := by simp [swapTo]
@[simp] theorem swapTo_fc (p : Plan) : (swapTo p s).fc = s.fc := by simp [swapTo]
@[simp] theorem swapTo_tb (p : Plan) : (swapTo p s).tb = s.tb := by simp [swapTo]
@[simp] theorem swapTo_lines (p : Plan) : (swapTo p s).lines = s.lines := by simp [swapTo]
@[simp] theorem swapTo_free (p : Plan) : (swapTo p s).free = s.free := by simp [swapTo]

end Sys2Proof.Machine
end

section
/-! SUPPORT. What the forms of an answer leave of the state, and the requests that leave all of it. -/

namespace Sys2Proof.Machine

variable (s : State)

@[simp] theorem turnedAway_state (st : ReplyStatus) : (turnedAway st s).state = s := rfl
@[simp] theorem answered_state (f : List Byte) : (answered f s).state = s := rfl
@[simp] theorem answeredClamped_state (c : Bool) (f : List Byte) : (answeredClamped c f s).state = s := rfl

theorem withoutFields_nil (f : State → Answer) : withoutFields [] s f = f s := rfl

theorem withPlan_none {s : State} (h : s.ps.active = none) (f : Plan → Answer) :
    withPlan s f = turnedAway .noPlan s := by
  simp [withPlan, h]

theorem withPlan_some {s : State} {p : Plan} (h : s.ps.active = some p) (f : Plan → Answer) : withPlan s f = f p := by
  simp [withPlan, h]

theorem withPlan_state {f : Plan → Answer} (hf : ∀ p, (f p).state = s) : (withPlan s f).state = s := by
  unfold withPlan
  split
  · rfl
  · exact hf _

/-! ## The requests that read -/

@[simp] theorem answerIdentify_state (f : List Byte) : (answerIdentify f s).state = s := by
  unfold answerIdentify withoutFields
  split <;> rfl

@[simp] theorem answerStatus_state (f : List Byte) : (answerStatus f s).state = s := by
  unfold answerStatus withoutFields
  split <;> rfl

@[simp] theorem answerPlanRead_state (f : List Byte) : (answerPlanRead f s).state = s := by
  unfold answerPlanRead readBank
  (repeat' split) <;> rfl

@[simp] theorem answerNodeQuery_state (f : List Byte) : (answerNodeQuery f s).state = s := by
  unfold answerNodeQuery
  split
  · refine withPlan_state s fun _ => ?_
    (repeat' split) <;> rfl
  · rfl

@[simp] theorem answerSignQuery_state (f : List Byte) : (answerSignQuery f s).state = s := by
  unfold answerSignQuery
  split
  · refine withPlan_state s fun _ => ?_
    (repeat' split) <;> rfl
  · rfl

@[simp] theorem answerZoneQuery_state (f : List Byte) : (answerZoneQuery f s).state = s := by
  unfold answerZoneQuery
  split
  · refine withPlan_state s fun _ => ?_
    dsimp only
    (repeat' split) <;> rfl
  · rfl

@[simp] theorem answerDetectorQuery_state (f : List Byte) : (answerDetectorQuery f s).state = s := by
  unfold answerDetectorQuery
  split
  · refine withPlan_state s fun _ => ?_
    dsimp only
    (repeat' split) <;> rfl
  · rfl

@[simp] theorem answerPortalQuery_state (f : List Byte) : (answerPortalQuery f s).state = s := by
  unfold answerPortalQuery
  split
  · refine withPlan_state s fun _ => ?_
    (repeat' split) <;> rfl
  · rfl

@[simp] theorem answerFaultRead_state (f : List Byte) : (answerFaultRead f s).state = s := by
  unfold answerFaultRead withoutFields
  split <;> rfl

@[simp] theorem answerCounterRead_state (f : List Byte) : (answerCounterRead f s).state = s := by
  unfold answerCounterRead withoutFields
  split <;> rfl

end Sys2Proof.Machine
end

section
/-! SUPPORT. What R22 leaves with no plan active, kept by every step (O9). -/

namespace Sys2Proof.Machine

/-! ## The parts of a state that a plan fills -/

/-- The parts of a state of which R22 speaks: each is empty, idle or DOWN while no plan is active. -/
def planParts (s : State) :=
  (s.zh.zones, s.rsv.exits, s.slc.signs, s.pp.portals, s.rsv.published, s.rsv.wanted, s.rsv.state, s.slc.adopted,
    s.pp.a.state, s.pp.b.state)

/-- The parts that a plan fills, with no plan. -/
def bareParts :
    List ZoneRun × List ExitState × List SignRun × List PortalRun × Option HeadingSet × Bool × SolverState ×
      Option Adopted × PortState × PortState :=
  ([], [], [], [], none, false, .idle, none, .down, .down)

theorem noPlanOk_iff (s : State) : NoPlanOk s ↔ (s.ps.active = none → planParts s = bareParts) := by
  simp [NoPlanOk, planParts, bareParts]

variable {s t : State}

/-- A state with an active plan has the property. -/
theorem noPlanOk_of_active {p : Plan} (h : t.ps.active = some p) : NoPlanOk t := by
  intro h'
  rw [h] at h'
  cases h'

/-- What leaves the active plan, and with no plan the parts that one fills, keeps the property. -/
theorem NoPlanOk.of_parts (h : NoPlanOk s) (ha : t.ps.active = s.ps.active)
    (hp : s.ps.active = none → planParts s = bareParts → planParts t = bareParts) : NoPlanOk t := by
  rw [noPlanOk_iff] at h ⊢
  intro hn
  rw [ha] at hn
  exact hp hn (h hn)

/-- What leaves the active plan and the parts that one fills keeps the property. -/
theorem NoPlanOk.of_same (h : NoPlanOk s) (ha : t.ps.active = s.ps.active) (hp : planParts t = planParts s) :
    NoPlanOk t :=
  h.of_parts ha fun _ hb => hp.trans hb

/-- What with no plan does nothing, and otherwise leaves the active plan, keeps the property. -/
theorem NoPlanOk.of_idle (h : NoPlanOk s) (ha : t.ps.active = s.ps.active) (hn : s.ps.active = none → t = s) :
    NoPlanOk t :=
  h.of_parts ha fun hs hb => hn hs ▸ hb

/-- What leaves the active plan and keeps the property with none keeps it. -/
theorem noPlanOk_of_planless (ha : t.ps.active = s.ps.active) (hn : s.ps.active = none → NoPlanOk t) : NoPlanOk t :=
  fun ht => hn (ha ▸ ht) ht

/-- A run of steps that each keep the property keeps it. -/
theorem noPlanOk_foldl {α : Type} (f : State → α → State) (hf : ∀ s x, NoPlanOk s → NoPlanOk (f s x)) (xs : List α) :
    ∀ {s : State}, NoPlanOk s → NoPlanOk (xs.foldl f s) := by
  induction xs with
  | nil => exact fun h => h
  | cons x xs ih => exact fun h => ih (hf _ x h)

/-- What happens to a running part keeps the property when it does. -/
theorem noPlanOk_whenRunning {f : State → State} (hf : ∀ s, NoPlanOk s → NoPlanOk (f s)) (h : NoPlanOk s) :
    NoPlanOk (whenRunning f s) := by
  unfold whenRunning
  split
  · exact hf s h
  · exact h

/-! ## Shared operations -/

theorem noPlanOk_raise (b : NoticeBody) (h : NoPlanOk s) : NoPlanOk (raise b s) := h.of_same rfl rfl
theorem noPlanOk_capture (k : FaultKind) (n : Nat) (h : NoPlanOk s) : NoPlanOk (capture k n s) := h.of_same rfl rfl
theorem noPlanOk_fire (i : CounterInput) (n : Nat) (h : NoPlanOk s) : NoPlanOk (fire i n s) := h.of_same rfl rfl
theorem noPlanOk_onMp (f : MessagePort → MessagePort) (h : NoPlanOk s) : NoPlanOk (s.onMp f) := h.of_same rfl rfl

theorem noPlanOk_onLine (id : LineId) (f : LineRec → LineRec) (h : NoPlanOk s) : NoPlanOk (s.onLine id f) :=
  h.of_same rfl rfl

theorem noPlanOk_setChannel (n : Fin 8) (c : Channel) (h : NoPlanOk s) : NoPlanOk (setChannel n c s) :=
  h.of_same rfl rfl

/-- A change of the Sign Line Controller that leaves an empty sign table empty and adopts nothing. -/
theorem noPlanOk_onSlc {f : SignLine → SignLine}
    (hf : s.slc.signs = [] → s.slc.adopted = none → (f s.slc).signs = [] ∧ (f s.slc).adopted = none)
    (h : NoPlanOk s) : NoPlanOk (s.onSlc f) := by
  refine h.of_parts rfl fun _ hb => ?_
  simp only [planParts, bareParts, Prod.mk.injEq, State.onSlc] at hb ⊢
  obtain ⟨_, _, hsigns, _, _, _, _, hadopted, _⟩ := id hb
  simp [hb, hf hsigns hadopted]

/-- A change of a port's record that leaves its state. -/
theorem noPlanOk_onPort (port : PeerPort) {f : PortRec → PortRec} (hf : ∀ r, (f r).state = r.state)
    (h : NoPlanOk s) : NoPlanOk (s.onPort port f) := by
  refine h.of_same (by simp) ?_
  cases port <;> simp [planParts, State.onPort, hf]

/-! ## Zones and the evacuation state: with no zones nothing is evaluated -/

theorem noPlanOk_setEvac (n : EvacState) (c : EvacCause) (h : NoPlanOk s) : NoPlanOk (setEvac n c s) := by
  unfold setEvac
  split
  · exact h
  · exact noPlanOk_raise _ (h.of_same rfl rfl)

theorem noPlanOk_checkNoRoute (h : NoPlanOk s) : NoPlanOk (checkNoRoute s) := by
  rcases checkNoRoute_cases s with e | ⟨_, _, _, _, e⟩ <;> rw [e]
  · exact h
  · exact noPlanOk_raise _ h

theorem noPlanOk_enterActive (c : EvacCause) (h : NoPlanOk s) : NoPlanOk (enterActive c s) :=
  noPlanOk_checkNoRoute (noPlanOk_raise _ (h.of_same rfl rfl))

theorem noPlanOk_leaveActive (c : EvacCause) (h : NoPlanOk s) : NoPlanOk (leaveActive c s) := by
  unfold leaveActive
  refine noPlanOk_setEvac _ _ (h.of_parts rfl fun _ hb => ?_)
  simp only [planParts, bareParts, Prod.mk.injEq] at hb ⊢
  simp [hb]

/-- With no plan no zone has a record. -/
theorem NoPlanOk.no_zone (h : NoPlanOk s) (hn : s.ps.active = none) (n : Nat) : s.zh.zones[n]? = none := by
  rw [(h hn).1]
  rfl

theorem noPlanOk_evaluateZone (n : Nat) (peak : Level) (h : NoPlanOk s) : NoPlanOk (evaluateZone n peak s) :=
  h.of_idle (by simp) fun hn => by simp [evaluateZone, h.no_zone hn]

theorem noPlanOk_setUntracked (n : Nat) (h : NoPlanOk s) : NoPlanOk (setUntracked n s) :=
  h.of_idle (by unfold setUntracked; split <;> simp) fun hn => by simp [setUntracked, h.no_zone hn]

theorem noPlanOk_suspectExpiry (n : Nat) (h : NoPlanOk s) : NoPlanOk (suspectExpiry n s) :=
  h.of_idle (by unfold suspectExpiry; (repeat' split) <;> simp) fun hn => by simp [suspectExpiry, h.no_zone hn]

theorem noPlanOk_clearHoldExpiry (n : Nat) (h : NoPlanOk s) : NoPlanOk (clearHoldExpiry n s) :=
  h.of_idle (by unfold clearHoldExpiry; (repeat' split) <;> simp) fun hn => by simp [clearHoldExpiry, h.no_zone hn]

/-! ## Detector Intake and the takes -/

theorem noPlanOk_makeReport (a : Nat) (l : Level) (q : Option Nat) (src : Source) (h : NoPlanOk s) :
    NoPlanOk (makeReport a l q src s) :=
  h.of_same (by simp) (by simp [planParts])

theorem noPlanOk_setLock (n : LockState × Nat × Nat) (t : Timer) (p : Option Nat) (h : NoPlanOk s) :
    NoPlanOk (setLock n t p s) :=
  h.of_same (by simp) (by simp [planParts])

theorem noPlanOk_detectorValid (f : DetectorFrame) (h : NoPlanOk s) : NoPlanOk (detectorValid f s) := by
  cases f with
  | supervise panel => exact noPlanOk_setLock _ _ _ h
  | report a l q =>
    unfold detectorValid
    dsimp only
    split
    · exact noPlanOk_makeReport _ _ _ _ (noPlanOk_setLock _ _ _ h)
    · exact noPlanOk_setLock _ _ _ h

theorem noPlanOk_detectorInvalid (err : Bool) (h : NoPlanOk s) : NoPlanOk (detectorInvalid err s) := by
  cases err with
  | false => exact noPlanOk_setLock _ _ _ h
  | true => exact noPlanOk_setLock _ _ _ (noPlanOk_capture _ _ h)

theorem noPlanOk_detectorEvent (e : RxEvent) (h : NoPlanOk s) : NoPlanOk (detectorEvent s e) := by
  unfold detectorEvent
  split
  · exact noPlanOk_detectorInvalid _ h
  · split
    · exact noPlanOk_detectorInvalid _ h
    · split
      · exact noPlanOk_detectorValid _ h
      · exact noPlanOk_detectorInvalid _ h

theorem noPlanOk_detectorChar (c : RxChar) (h : NoPlanOk s) : NoPlanOk (detectorChar s c) := by
  unfold detectorChar
  dsimp only
  split
  · exact h
  · exact noPlanOk_foldl _ (fun _ => noPlanOk_detectorEvent) _ (noPlanOk_onLine _ _ h)

theorem noPlanOk_silenceExpiry (h : NoPlanOk s) : NoPlanOk (silenceExpiry s) := by
  unfold silenceExpiry
  split
  · exact noPlanOk_setLock _ _ _ h
  · exact h

theorem noPlanOk_contactReport (n : Fin 8) (a : Nat) (l : Option Level) (h : NoPlanOk s) :
    NoPlanOk (contactReport n a l s) := by
  unfold contactReport
  split
  · exact h
  · split
    · exact h
    · exact noPlanOk_makeReport _ _ _ _ h

theorem noPlanOk_acceptChange (n : Fin 8) (h : NoPlanOk s) : NoPlanOk (acceptChange n s) := by
  unfold acceptChange
  dsimp only
  split
  · exact noPlanOk_contactReport _ _ _ (noPlanOk_setChannel _ _ h)
  · exact h

theorem noPlanOk_widthLimit (n : Fin 8) (h : NoPlanOk s) : NoPlanOk (widthLimit n s) := by
  unfold widthLimit
  dsimp only
  split
  · exact h
  · exact h
  · split
    · exact noPlanOk_contactReport _ _ _ (noPlanOk_setChannel _ _ h)
    · exact h

theorem noPlanOk_sampleContacts (levels : BitVec 8) (h : NoPlanOk s) : NoPlanOk (sampleContacts levels s) :=
  noPlanOk_foldl _ (fun _ n h => noPlanOk_setChannel _ _ (noPlanOk_widthLimit n (noPlanOk_acceptChange n h))) _ h

theorem noPlanOk_takeBegin (h : NoPlanOk s) : NoPlanOk (takeBegin s) := by
  unfold takeBegin
  split
  · split
    · exact h.of_same rfl rfl
    · exact h.of_same rfl rfl
  · exact h

theorem noPlanOk_applyTake (e : PendingEntry) (r : DetectorRec) (h : NoPlanOk s) : NoPlanOk (applyTake e r s) :=
  noPlanOk_evaluateZone _ _ (h.of_same rfl rfl)

theorem noPlanOk_untrackedTake (e : PendingEntry) (h : NoPlanOk s) : NoPlanOk (untrackedTake e s) := by
  refine noPlanOk_evaluateZone _ _ ?_
  split
  · exact noPlanOk_setUntracked _ (noPlanOk_capture _ _ h)
  · exact noPlanOk_capture _ _ h

theorem noPlanOk_tableTake (e : PendingEntry) (h : NoPlanOk s) : NoPlanOk (tableTake e s) := by
  unfold tableTake
  split
  · split
    · exact h
    · exact noPlanOk_applyTake _ _ (noPlanOk_capture _ _ h)
    · exact noPlanOk_applyTake _ _ h
  · split
    · exact noPlanOk_applyTake _ _ h
    · split
      · exact noPlanOk_applyTake _ _ (h.of_same rfl rfl)
      · exact noPlanOk_untrackedTake _ h

theorem noPlanOk_takeComplete (h : NoPlanOk s) : NoPlanOk (takeComplete s) := by
  unfold takeComplete
  split
  · exact h
  · dsimp only
    split
    · exact noPlanOk_capture _ _ (h.of_same rfl rfl)
    · exact noPlanOk_tableTake _ (h.of_same rfl rfl)

/-! ## Sign Line Controller: with no plan its cycles are FALLBACK cycles -/

theorem noPlanOk_cycleStart (h : NoPlanOk s) : NoPlanOk (cycleStart s) := by
  refine noPlanOk_of_planless (s := s) (by simp) fun hn => ?_
  have e : cycleStart s = s.onSlc fallbackStart := by simp [cycleStart, hn]
  rw [e]
  exact noPlanOk_onSlc (fun h1 h2 => ⟨h1, h2⟩) h

theorem noPlanOk_requestStart (h : NoPlanOk s) : NoPlanOk (requestStart s) := by
  unfold requestStart
  split
  · exact noPlanOk_onSlc (fun h1 h2 => ⟨h1, h2⟩) h
  · exact noPlanOk_cycleStart h

theorem noPlanOk_restartRefresh (h : NoPlanOk s) : NoPlanOk (restartRefresh s) :=
  noPlanOk_onSlc (fun h1 h2 => ⟨h1, h2⟩) h

theorem noPlanOk_cycleEnd (h : NoPlanOk s) : NoPlanOk (cycleEnd s) := by
  have h1 : NoPlanOk (s.onSlc fun c => { c with cycle := .idle }) := noPlanOk_onSlc (fun h1 h2 => ⟨h1, h2⟩) h
  unfold cycleEnd
  dsimp only
  split
  · exact h1
  · split
    · exact noPlanOk_cycleStart (noPlanOk_fire _ _ (noPlanOk_onSlc (fun h1 h2 => ⟨h1, h2⟩) h1))
    · split
      · exact noPlanOk_cycleStart h1
      · exact h1

theorem noPlanOk_cycleCut (h : NoPlanOk s) : NoPlanOk (cycleCut s) :=
  noPlanOk_cycleStart (noPlanOk_restartRefresh (noPlanOk_fire _ _ (noPlanOk_onSlc (fun h1 h2 => ⟨h1, h2⟩) h)))

/-- A frame of the cycle order begins without touching the sign table or the adopted set. -/
theorem beginEntry_signs_adopted (c : SignLine) :
    (beginEntry c).signs = c.signs ∧ (beginEntry c).adopted = c.adopted := by
  unfold beginEntry
  split <;> exact ⟨rfl, rfl⟩

theorem noPlanOk_exchangeEnded (h : NoPlanOk s) : NoPlanOk (exchangeEnded s) := by
  have h1 : NoPlanOk (s.onSlc fun c => { c with exchange := none }) := noPlanOk_onSlc (fun h1 h2 => ⟨h1, h2⟩) h
  unfold exchangeEnded
  dsimp only
  split
  · exact h1
  · split
    · exact noPlanOk_cycleStart h1
    · exact h1
  · split
    · exact noPlanOk_cycleCut h1
    · split
      · refine noPlanOk_onSlc (fun h1 h2 => ?_) h1
        rw [(beginEntry_signs_adopted _).1, (beginEntry_signs_adopted _).2]
        exact ⟨h1, h2⟩
      · exact noPlanOk_cycleEnd h1

theorem noPlanOk_refreshExpiry (h : NoPlanOk s) : NoPlanOk (refreshExpiry s) := by
  unfold refreshExpiry
  dsimp only
  split
  · split
    · exact noPlanOk_restartRefresh h
    · split
      · exact noPlanOk_requestStart (noPlanOk_restartRefresh h)
      · exact noPlanOk_restartRefresh h
    · exact noPlanOk_onSlc (fun h1 h2 => ⟨h1, h2⟩) (noPlanOk_restartRefresh h)
  · exact h

/-- With no plan no sign has a record. -/
theorem noPlanOk_putSign (t : Target) (g : SignRun) (h : NoPlanOk s) : NoPlanOk (putSign t g s) := by
  unfold putSign
  split
  · exact noPlanOk_onSlc (fun h1 h2 => ⟨by simp [h1], h2⟩) h
  · exact h

theorem noPlanOk_signTroubled (k : FaultKind) (i : Nat) (g : SignRun) (h : NoPlanOk s) :
    NoPlanOk (signTroubled k i g s) :=
  noPlanOk_raise _ (noPlanOk_capture _ _ h)

theorem noPlanOk_replyTaken (t : Target) (lamp : Lamp) (h : NoPlanOk s) : NoPlanOk (replyTaken t lamp s) := by
  unfold replyTaken
  split
  · exact h
  · dsimp only
    split
    · exact noPlanOk_signTroubled _ _ _ (noPlanOk_putSign _ _ h)
    · exact noPlanOk_putSign _ _ h

theorem noPlanOk_signMissed (t : Target) (o : SignOutcome) (h : NoPlanOk s) : NoPlanOk (signMissed t o s) := by
  unfold signMissed
  split
  · exact h
  · dsimp only
    split
    · exact noPlanOk_signTroubled _ _ _ (noPlanOk_putSign _ _ (noPlanOk_fire _ _ h))
    · exact noPlanOk_putSign _ _ (noPlanOk_fire _ _ h)

theorem noPlanOk_setPhase (ph : ExchangePhase) (h : NoPlanOk s) : NoPlanOk (setPhase ph s) :=
  noPlanOk_onSlc (fun h1 h2 => ⟨h1, h2⟩) h

theorem noPlanOk_recordSent (e : Exchange) (h : NoPlanOk s) : NoPlanOk (recordSent e s) := by
  unfold recordSent
  split
  · split
    · exact noPlanOk_onSlc (fun h1 h2 => ⟨by simp [h1], h2⟩) h
    · exact h
  · exact noPlanOk_onSlc (fun h1 h2 => ⟨h1, h2⟩) h
  · exact noPlanOk_onSlc (fun h1 h2 => ⟨h1, h2⟩) h
  · exact h

theorem noPlanOk_showSent (h : NoPlanOk s) : NoPlanOk (showSent s) := by
  unfold showSent
  split
  · split
    · exact noPlanOk_setPhase _ (noPlanOk_recordSent _ (noPlanOk_fire _ _ h))
    · exact h
  · exact h

theorem noPlanOk_fallbackSent (h : NoPlanOk s) : NoPlanOk (fallbackSent s) := by
  unfold fallbackSent
  split
  · split
    · exact noPlanOk_exchangeEnded h
    · exact h
  · exact h

theorem noPlanOk_signEvent (ev : RxEvent) (h : NoPlanOk s) : NoPlanOk (signEvent s ev) := by
  unfold signEvent
  split
  · split
    · split
      · exact noPlanOk_exchangeEnded (noPlanOk_replyTaken _ _ h)
      · exact noPlanOk_setPhase _ h
      · exact h
    · exact h
  · exact h

theorem noPlanOk_charErrorIn (c : RxChar) (h : NoPlanOk s) : NoPlanOk (charErrorIn c s) := by
  unfold charErrorIn
  split
  · split
    · exact noPlanOk_capture _ _ (noPlanOk_setPhase _ h)
    · exact h
  · exact h

theorem noPlanOk_drainEnded (h : NoPlanOk s) : NoPlanOk (drainEnded s) := by
  unfold drainEnded
  split
  · split
    · exact noPlanOk_exchangeEnded h
    · exact h
  · exact h

theorem noPlanOk_signChar (c : RxChar) (h : NoPlanOk s) : NoPlanOk (signChar s c) := by
  unfold signChar
  split
  · exact noPlanOk_drainEnded
      (noPlanOk_foldl _ (fun _ => noPlanOk_signEvent) _ (noPlanOk_onLine _ _ (noPlanOk_charErrorIn c h)))
  · exact h

theorem noPlanOk_windowClosed (h : NoPlanOk s) : NoPlanOk (windowClosed s) := by
  unfold windowClosed
  split
  · dsimp only
    split
    · split
      · exact noPlanOk_exchangeEnded (noPlanOk_signMissed _ _ h)
      · exact noPlanOk_setPhase _ (noPlanOk_signMissed _ _ h)
    · exact h
    · exact h
  · exact h

theorem noPlanOk_signGap (h : NoPlanOk s) : NoPlanOk (signGap s) := noPlanOk_drainEnded (noPlanOk_onLine _ _ h)

theorem noPlanOk_emphasisExpiry (i : Nat) (h : NoPlanOk s) : NoPlanOk (emphasisExpiry i s) := by
  unfold emphasisExpiry
  split
  · split
    · exact noPlanOk_onSlc (fun h1 h2 => ⟨by simp [h1], h2⟩) h
    · exact h
  · exact h

theorem noPlanOk_haltSign (h : NoPlanOk s) : NoPlanOk (haltSign s) :=
  noPlanOk_onLine _ _ (noPlanOk_onSlc (fun h1 h2 => ⟨h1, h2⟩) h)

theorem noPlanOk_runSign (h : NoPlanOk s) : NoPlanOk (runSign s) := by
  have h1 := noPlanOk_drainEnded (noPlanOk_onLine .sign (fun l => { l with mark := .running, inUse := l.format, rx := [] }) h)
  unfold runSign
  dsimp only
  split
  · exact noPlanOk_requestStart (noPlanOk_restartRefresh h1)
  · exact h1

/-! ## Peer Ports: with no plan no port is in use -/

/-- The portal records replaced, by none where there were none. -/
theorem noPlanOk_portals {rs : List PortalRun} (hr : s.pp.portals = [] → rs = []) (h : NoPlanOk s) :
    NoPlanOk { s with pp := { s.pp with portals := rs } } := by
  refine h.of_parts rfl fun _ hb => ?_
  simp only [planParts, bareParts, Prod.mk.injEq] at hb ⊢
  obtain ⟨_, _, _, hportals, _⟩ := id hb
  simp [hb, hr hportals]

/-- A port going DOWN, with its portals. -/
theorem noPlanOk_setPort_down (port : PeerPort) (adv : Nat → Option Advertisement) (h : NoPlanOk s) :
    NoPlanOk (setPort port .down adv s) := by
  refine h.of_parts (by simp) fun hn hb => ?_
  simp only [planParts, bareParts, Prod.mk.injEq] at hb ⊢
  obtain ⟨hz, he, hs, hp, hpub, hw, hst, had, hA, hB⟩ := hb
  cases port <;>
    simp [setPort, updatePortals, seedDataChanged, wantSolveIf, State.onPort, hz, he, hs, hp, hpub, hw, hst, had, hA, hB]

theorem noPlanOk_sendTrigger (port : PeerPort) (h : NoPlanOk s) : NoPlanOk (sendTrigger port s) :=
  h.of_idle (by simp) fun hn => by simp [sendTrigger, hn]

/-- With no plan a port discards what its receiver hands on. -/
theorem noPlanOk_advertEvent (port : PeerPort) (ev : RxEvent) (h : NoPlanOk s) : NoPlanOk (advertEvent port s ev) := by
  refine h.of_idle ?_ fun hn => by simp [advertEvent, hn]
  unfold advertEvent advertTaken advertInvalid
  (repeat' split) <;> simp

theorem noPlanOk_advertChar (port : PeerPort) (c : RxChar) (h : NoPlanOk s) : NoPlanOk (advertChar port s c) := by
  unfold advertChar
  dsimp only
  split
  · exact h
  · exact noPlanOk_foldl _ (fun _ => noPlanOk_advertEvent port) _ (noPlanOk_onLine _ _ h)

theorem noPlanOk_advertGap (port : PeerPort) (h : NoPlanOk s) : NoPlanOk (advertGap port s) := by
  unfold advertGap
  dsimp only
  split
  · exact noPlanOk_capture _ _ (noPlanOk_onLine _ _ h)
  · exact noPlanOk_onLine _ _ h

theorem noPlanOk_ageExpiry (port : PeerPort) (h : NoPlanOk s) : NoPlanOk (ageExpiry port s) := by
  unfold ageExpiry
  split
  · exact noPlanOk_setPort_down _ _ (noPlanOk_capture _ _ (noPlanOk_onPort _ (fun _ => rfl) h))
  · exact h

theorem noPlanOk_advertSent (port : PeerPort) (h : NoPlanOk s) : NoPlanOk (advertSent port s) := by
  unfold advertSent
  split
  · exact h
  · rename_i f _
    have h2 : NoPlanOk ((fire .advertSent 1 s).onPort port fun r =>
        { r with sending := none, spacing := if portInUse s port then some (spacingTicks s) else none }) :=
      noPlanOk_onPort _ (fun _ => rfl) (noPlanOk_fire _ _ h)
    dsimp only
    split
    · exact h2
    · exact noPlanOk_portals (fun e => by simp [e, recordEntries]) h2

theorem noPlanOk_spacingExpiry (port : PeerPort) (h : NoPlanOk s) : NoPlanOk (spacingExpiry port s) := by
  unfold spacingExpiry
  dsimp only
  split
  · split
    · exact noPlanOk_sendTrigger _ (noPlanOk_onPort _ (fun _ => rfl) h)
    · exact noPlanOk_onPort _ (fun _ => rfl) h
  · exact h

theorem noPlanOk_advertiseExpiry (port : PeerPort) (h : NoPlanOk s) : NoPlanOk (advertiseExpiry port s) := by
  unfold advertiseExpiry
  split
  · exact noPlanOk_sendTrigger _ (noPlanOk_onPort _ (fun _ => rfl) h)
  · exact h

theorem noPlanOk_haltPort (port : PeerPort) (h : NoPlanOk s) : NoPlanOk (haltPort port s) := by
  have h1 : NoPlanOk ((s.onLine (portLine port) fun l => { l with mark := .halted, rx := [] }).onPort port fun r =>
      { r with age := none, advertise := none, spacing := none, sendPending := false, sending := none }) :=
    noPlanOk_onPort _ (fun _ => rfl) (noPlanOk_onLine _ _ h)
  unfold haltPort
  refine noPlanOk_setPort_down _ _ ?_
  split
  · exact noPlanOk_capture _ _ h1
  · exact h1

theorem noPlanOk_runPort (port : PeerPort) (h : NoPlanOk s) : NoPlanOk (runPort port s) := by
  unfold runPort
  dsimp only
  split
  · exact noPlanOk_sendTrigger _ (noPlanOk_onPort _ (fun _ => rfl) (noPlanOk_onLine _ _ h))
  · exact noPlanOk_onLine _ _ h

/-! ## Plan Store, Route Solver and resets -/

theorem noPlanOk_swap (h : NoPlanOk s) : NoPlanOk (swap s) := by
  unfold swap
  split
  · rename_i p _
    exact noPlanOk_of_active (p := p) (by simp [swapStore])
  · exact h

theorem noPlanOk_endCheck (h : NoPlanOk s) : NoPlanOk (endCheck s) := by
  unfold endCheck
  split
  · exact noPlanOk_raise _ (h.of_same rfl rfl)
  · exact h

theorem noPlanOk_endStore (readBack : List Byte) (h : NoPlanOk s) : NoPlanOk (endStore readBack s) := by
  unfold endStore
  dsimp only
  split
  · split
    · exact noPlanOk_raise _ (h.of_same rfl rfl)
    · exact noPlanOk_capture _ _ (noPlanOk_raise _ (h.of_same rfl rfl))
  · exact h

theorem noPlanOk_solveStart (h : NoPlanOk s) : NoPlanOk (solveStart s) :=
  h.of_idle (by simp) fun hn => by simp [solveStart, hn]

theorem noPlanOk_solveEnd (h : NoPlanOk s) : NoPlanOk (solveEnd s) := by
  unfold solveEnd
  split
  · rename_i p snap _ hp _
    split
    · exact noPlanOk_swap (noPlanOk_of_active (p := p) hp)
    · exact noPlanOk_solveStart (noPlanOk_of_active (p := p) (by simpa using hp))
  · exact h

/-- A reset without a plan leaves every block without one. -/
theorem noPlanOk_blocksAfter (kind : ResetKind) (ph : Phase) (plan : Option Plan) (c : MemoryCondition)
    (m : PlanMemory) (k : Settings) (s : State) : NoPlanOk (blocksAfter kind ph plan c m k s) := by
  cases plan with
  | some p => exact noPlanOk_of_active (p := p) rfl
  | none => exact (noPlanOk_iff _).2 fun _ => rfl

theorem noPlanOk_resetWith (kind : ResetKind) (k : Settings) (m : PlanMemory) (s : State) :
    NoPlanOk (resetWith kind k m s) := by
  unfold resetWith
  dsimp only
  split
  · exact noPlanOk_capture _ _ (noPlanOk_blocksAfter _ _ _ _ _ _ _)
  · exact noPlanOk_blocksAfter _ _ _ _ _ _ _

/-! ## Timebase -/

theorem noPlanOk_tickAll (h : NoPlanOk s) : NoPlanOk (tickAll s) := by
  refine h.of_parts rfl fun _ hb => ?_
  simp only [planParts, bareParts, Prod.mk.injEq] at hb ⊢
  simp [hb, tickAll, tickHazard, tickSigns, tickPort]

theorem noPlanOk_tickStart (h : NoPlanOk s) : NoPlanOk (tickStart s) := by
  unfold tickStart
  split
  · exact noPlanOk_cycleStart h
  · exact h

/-! ## Requests -/

theorem noPlanOk_withoutFields (fields : List Byte) {f : State → Answer} (hf : NoPlanOk (f s).state)
    (h : NoPlanOk s) : NoPlanOk (withoutFields fields s f).state := by
  unfold withoutFields
  split
  · exact hf
  · exact h

/-- A request that needs a plan, and leaves the active plan. -/
theorem noPlanOk_withPlan {f : Plan → Answer} (hf : ∀ p, (f p).state.ps.active = s.ps.active) (h : NoPlanOk s) :
    NoPlanOk (withPlan s f).state := by
  refine h.of_idle ?_ fun hn => by simp [withPlan_none hn]
  unfold withPlan
  split
  · rfl
  · exact hf _

theorem noPlanOk_setStaging (g : Staging) (h : NoPlanOk s) : NoPlanOk (setStaging g s) := h.of_same rfl rfl

theorem noPlanOk_planBegin (f : List Byte) (h : NoPlanOk s) : NoPlanOk (answerPlanBegin f s).state := by
  refine noPlanOk_withoutFields f ?_ h
  split
  · exact h
  · exact noPlanOk_setStaging _ h

theorem noPlanOk_planDiscard (f : List Byte) (h : NoPlanOk s) : NoPlanOk (answerPlanDiscard f s).state := by
  refine noPlanOk_withoutFields f ?_ h
  split
  · exact h
  · split
    · exact h
    · exact noPlanOk_setStaging _ h

theorem noPlanOk_putStaged (sect : Section) (first : Nat) (rs : List (List Byte)) (h : NoPlanOk s) :
    NoPlanOk (putStaged sect first rs s).state := by
  unfold putStaged
  split
  · exact h
  · split
    · exact h
    · exact noPlanOk_setStaging _ h

theorem noPlanOk_planPut (f : List Byte) (h : NoPlanOk s) : NoPlanOk (answerPlanPut f s).state := by
  unfold answerPlanPut
  repeat' split
  case' h_3.isFalse => exact noPlanOk_putStaged _ _ _ h
  all_goals exact h

theorem noPlanOk_planCheck (f : List Byte) (h : NoPlanOk s) : NoPlanOk (answerPlanCheck f s).state := by
  refine noPlanOk_withoutFields f ?_ h
  split
  · exact h
  · split
    · exact h
    · exact noPlanOk_setStaging _ h

theorem noPlanOk_planActivate (f : List Byte) (h : NoPlanOk s) : NoPlanOk (answerPlanActivate f s).state := by
  refine noPlanOk_withoutFields f ?_ h
  dsimp only
  split
  · simp only [answered_state]
    split
    · exact noPlanOk_swap (noPlanOk_setStaging _ h)
    · exact h.of_same rfl rfl
  · exact h

theorem noPlanOk_exitSet (f : List Byte) (h : NoPlanOk s) : NoPlanOk (answerExitSet f s).state := by
  unfold answerExitSet
  split
  · refine noPlanOk_withPlan (fun _ => ?_) h
    split <;> simp
  · exact h

theorem noPlanOk_zoneForce (f : List Byte) (h : NoPlanOk s) : NoPlanOk (answerZoneForce f s).state := by
  unfold answerZoneForce
  split
  · refine noPlanOk_withPlan (fun _ => ?_) h
    split <;> simp [forceSmoke, forceClear]
  · exact h

theorem noPlanOk_zoneReset (f : List Byte) (h : NoPlanOk s) : NoPlanOk (answerZoneReset f s).state := by
  unfold answerZoneReset
  split
  · refine noPlanOk_withPlan (fun _ => ?_) h
    (repeat' split) <;> simp
  · exact h

theorem noPlanOk_evacuate (f : List Byte) (h : NoPlanOk s) : NoPlanOk (answerEvacuate f s).state := by
  refine noPlanOk_withoutFields f ?_ h
  simp only [answered_state]
  split
  · exact h.of_same rfl rfl
  · exact noPlanOk_enterActive _ (h.of_same rfl rfl)

theorem noPlanOk_standDown (f : List Byte) (h : NoPlanOk s) : NoPlanOk (answerStandDown f s).state := by
  refine noPlanOk_withoutFields f ?_ h
  split
  · split
    · exact h
    · exact noPlanOk_leaveActive _ h
  · exact h

theorem noPlanOk_groupSet (f : List Byte) (h : NoPlanOk s) : NoPlanOk (answerGroupSet f s).state := by
  unfold answerGroupSet
  (repeat' split) <;> exact h.of_same rfl rfl

theorem noPlanOk_noticeSetup (f : List Byte) (h : NoPlanOk s) : NoPlanOk (answerNoticeSetup f s).state := by
  unfold answerNoticeSetup
  (repeat' split) <;> exact h.of_same rfl rfl

theorem noPlanOk_clearFlags (f : List Byte) (h : NoPlanOk s) : NoPlanOk (answerClearFlags f s).state := by
  unfold answerClearFlags
  (repeat' split) <;> exact h.of_same rfl rfl

theorem noPlanOk_faultClear (f : List Byte) (h : NoPlanOk s) : NoPlanOk (answerFaultClear f s).state := by
  unfold answerFaultClear
  (repeat' split) <;> exact h.of_same rfl rfl

theorem noPlanOk_counterSetup (f : List Byte) (h : NoPlanOk s) : NoPlanOk (answerCounterSetup f s).state := by
  unfold answerCounterSetup
  (repeat' split) <;> exact h.of_same rfl rfl

theorem noPlanOk_outputSetup (f : List Byte) (h : NoPlanOk s) : NoPlanOk (answerOutputSetup f s).state := by
  unfold answerOutputSetup
  (repeat' split) <;> exact h.of_same rfl rfl

theorem noPlanOk_lineSetup (f : List Byte) (h : NoPlanOk s) : NoPlanOk (answerLineSetup f s).state := by
  unfold answerLineSetup setupFormat setupContact
  (repeat' split) <;> exact h.of_same rfl rfl

theorem noPlanOk_haltLine (id : LineId) (h : NoPlanOk s) : NoPlanOk (haltLine id s) := by
  cases id with
  | message => exact h
  | detector => exact noPlanOk_setLock _ _ _ (noPlanOk_onLine _ _ h)
  | sign => exact noPlanOk_haltSign h
  | peerA => exact noPlanOk_haltPort _ h
  | peerB => exact noPlanOk_haltPort _ h

theorem noPlanOk_runLine (id : LineId) (h : NoPlanOk s) : NoPlanOk (runLine id s) := by
  cases id with
  | message => exact h
  | detector => exact noPlanOk_onLine _ _ h
  | sign => exact noPlanOk_runSign h
  | peerA => exact noPlanOk_runPort _ h
  | peerB => exact noPlanOk_runPort _ h

theorem noPlanOk_lineHalt (f : List Byte) (h : NoPlanOk s) : NoPlanOk (answerLineHalt f s).state := by
  unfold answerLineHalt
  repeat' split
  case' h_2.isFalse.isFalse => exact noPlanOk_haltLine _ h
  all_goals exact h

theorem noPlanOk_lineRun (f : List Byte) (h : NoPlanOk s) : NoPlanOk (answerLineRun f s).state := by
  unfold answerLineRun
  repeat' split
  case' h_2.isFalse => exact noPlanOk_runLine _ h
  all_goals exact h

theorem noPlanOk_restart (f : List Byte) (h : NoPlanOk s) : NoPlanOk (answerRestart f s).state := by
  refine noPlanOk_withoutFields f ?_ h
  (repeat' split) <;> exact h.of_same rfl rfl

theorem noPlanOk_perform (r : Request) (h : NoPlanOk s) : NoPlanOk (perform r s).state := by
  unfold perform performKind
  split
  case h_3 => exact noPlanOk_planBegin _ h
  case h_4 => exact noPlanOk_planCheck _ h
  case h_5 => exact noPlanOk_planActivate _ h
  case h_6 => exact noPlanOk_planDiscard _ h
  case h_7 => exact noPlanOk_planPut _ h
  case h_9 => exact noPlanOk_exitSet _ h
  case h_10 => exact noPlanOk_zoneForce _ h
  case h_11 => exact noPlanOk_zoneReset _ h
  case h_12 => exact noPlanOk_evacuate _ h
  case h_13 => exact noPlanOk_standDown _ h
  case h_14 => exact noPlanOk_groupSet _ h
  case h_20 => exact noPlanOk_noticeSetup _ h
  case h_21 => exact noPlanOk_clearFlags _ h
  case h_23 => exact noPlanOk_faultClear _ h
  case h_24 => exact noPlanOk_counterSetup _ h
  case h_26 => exact noPlanOk_outputSetup _ h
  case h_27 => exact noPlanOk_lineSetup _ h
  case h_28 => exact noPlanOk_lineHalt _ h
  case h_29 => exact noPlanOk_lineRun _ h
  case h_30 => exact noPlanOk_restart _ h
  all_goals simpa using h

/-! ## The Message Port -/

theorem noPlanOk_takeRequest (r : Request) (h : NoPlanOk s) : NoPlanOk (takeRequest r s) :=
  (noPlanOk_perform r h).of_same rfl rfl

theorem noPlanOk_takeNext (h : NoPlanOk s) : NoPlanOk (takeNext s) := by
  unfold takeNext
  split
  · exact noPlanOk_takeRequest _ h
  · exact h

theorem noPlanOk_receiveRequest (r : Request) (h : NoPlanOk s) : NoPlanOk (receiveRequest r s) := by
  unfold receiveRequest
  split
  · exact noPlanOk_takeNext (noPlanOk_onMp _ h)
  · split
    · exact noPlanOk_takeNext (noPlanOk_onMp _ h)
    · exact noPlanOk_raise _ (noPlanOk_capture _ _ h)

theorem noPlanOk_messageEvent (e : RxEvent) (h : NoPlanOk s) : NoPlanOk (messageEvent s e) := by
  unfold messageEvent
  split
  · exact h
  · split
    · exact noPlanOk_capture _ _ h
    · split
      · exact noPlanOk_receiveRequest _ h
      · exact h

theorem noPlanOk_messageChar (c : RxChar) (h : NoPlanOk s) : NoPlanOk (messageChar s c) :=
  noPlanOk_foldl _ (fun _ => noPlanOk_messageEvent) _ (noPlanOk_onLine _ _ h)

theorem noPlanOk_noticeStart (h : NoPlanOk s) : NoPlanOk (noticeStart s) := by
  unfold noticeStart
  split
  · split
    · exact h
    · exact h.of_same rfl rfl
  · exact h

theorem noPlanOk_takeOrNotice (first : Bool) (h : NoPlanOk s) : NoPlanOk (takeOrNotice first s) := by
  cases first with
  | false => exact noPlanOk_takeNext h
  | true => exact noPlanOk_takeNext (noPlanOk_noticeStart h)

theorem noPlanOk_replySent (first : Bool) (h : NoPlanOk s) : NoPlanOk (replySent first s) := by
  unfold replySent
  split
  · exact noPlanOk_takeOrNotice _ (noPlanOk_onMp _ h)
  · exact h

theorem noPlanOk_messageFormatChange (first : Bool) (h : NoPlanOk s) : NoPlanOk (messageFormatChange first s) := by
  unfold messageFormatChange
  split
  · exact noPlanOk_takeOrNotice _ (noPlanOk_onMp _ (noPlanOk_onLine _ _ h))
  · exact h

theorem noPlanOk_noticeSent (h : NoPlanOk s) : NoPlanOk (noticeSent s) := by
  unfold noticeSent
  split
  · exact noPlanOk_onMp _ h
  · exact h

theorem noPlanOk_gapAbort (line : LineId) (h : NoPlanOk s) : NoPlanOk (gapAbort line s) := by
  unfold gapAbort
  dsimp only
  split
  · exact h
  · cases line with
    | message => exact noPlanOk_onLine _ _ h
    | detector => exact noPlanOk_detectorInvalid _ (noPlanOk_onLine _ _ h)
    | sign => exact noPlanOk_signGap h
    | peerA => exact noPlanOk_advertGap _ h
    | peerB => exact noPlanOk_advertGap _ h

/-! ## Every command, and the step -/

/-- Every command has a next state, which has the property. -/
theorem noPlanOk_exec (c : Instr) (h : NoPlanOk s) : ∃ t, exec c s = .next t ∧ NoPlanOk t := by
  cases hr : requestOf c with
  | some r => exact ⟨_, exec_request c r s hr, noPlanOk_whenRunning (fun _ => noPlanOk_receiveRequest r) h⟩
  | none =>
    cases c
    case powerOn => exact ⟨_, rfl, noPlanOk_resetWith _ _ _ _⟩
    case resetLine =>
      refine ⟨_, rfl, ?_⟩
      split
      · exact h
      · exact noPlanOk_resetWith _ _ _ _
    case messageFrameReceived cs =>
      exact ⟨_, rfl, noPlanOk_whenRunning (fun _ => noPlanOk_foldl _ (fun _ => noPlanOk_messageChar) _) h⟩
    case restartBegin =>
      refine ⟨_, rfl, noPlanOk_whenRunning (fun s h => ?_) h⟩
      split
      · exact noPlanOk_resetWith _ _ _ _
      · exact h
    case detectorFrameReceived cs =>
      exact ⟨_, rfl, noPlanOk_whenRunning (fun _ => noPlanOk_foldl _ (fun _ => noPlanOk_detectorChar) _) h⟩
    case tenthTick =>
      refine ⟨_, rfl, ?_⟩
      split
      · exact h
      · exact h
      · exact noPlanOk_tickAll h
      · exact noPlanOk_tickStart (noPlanOk_tickAll h)
    case signFrameReceived cs =>
      exact ⟨_, rfl, noPlanOk_whenRunning (fun _ => noPlanOk_foldl _ (fun _ => noPlanOk_signChar) _) h⟩
    case advertReceived port cs =>
      exact ⟨_, rfl, noPlanOk_whenRunning (fun _ => noPlanOk_foldl _ (fun _ => noPlanOk_advertChar port) _) h⟩
    case resetLineAsserted =>
      refine ⟨_, rfl, ?_⟩
      split
      · exact h
      · exact noPlanOk_blocksAfter _ _ _ _ _ _ _
    case powerLoss => exact ⟨_, rfl, noPlanOk_blocksAfter _ _ _ _ _ _ _⟩
    case startUpLoadEnd =>
      refine ⟨_, rfl, ?_⟩
      split
      · exact h.of_same rfl rfl
      · exact h
    case replySent first => exact ⟨_, rfl, noPlanOk_whenRunning (fun _ => noPlanOk_replySent first) h⟩
    case messagePortFormatChange first => exact ⟨_, rfl, noPlanOk_whenRunning (fun _ => noPlanOk_messageFormatChange first) h⟩
    case noticeFrameStart => exact ⟨_, rfl, noPlanOk_whenRunning (fun _ => noPlanOk_noticeStart) h⟩
    case frameGapAbort line => exact ⟨_, rfl, noPlanOk_whenRunning (fun _ => noPlanOk_gapAbort line) h⟩
    case silenceTimerExpiry => exact ⟨_, rfl, noPlanOk_whenRunning (fun _ => noPlanOk_silenceExpiry) h⟩
    case contactChangeAccepted n => exact ⟨_, rfl, noPlanOk_whenRunning (fun _ => noPlanOk_acceptChange n) h⟩
    case pulseWidthLimit n => exact ⟨_, rfl, noPlanOk_whenRunning (fun _ => noPlanOk_widthLimit n) h⟩
    case takeBegin => exact ⟨_, rfl, noPlanOk_whenRunning (fun _ => noPlanOk_takeBegin) h⟩
    case takeComplete => exact ⟨_, rfl, noPlanOk_whenRunning (fun _ => noPlanOk_takeComplete) h⟩
    case suspectTimerExpiry z => exact ⟨_, rfl, noPlanOk_whenRunning (fun _ => noPlanOk_suspectExpiry z) h⟩
    case clearHoldTimerExpiry z => exact ⟨_, rfl, noPlanOk_whenRunning (fun _ => noPlanOk_clearHoldExpiry z) h⟩
    case planCheckEnd => exact ⟨_, rfl, noPlanOk_whenRunning (fun _ => noPlanOk_endCheck) h⟩
    case planStoreEnd bs => exact ⟨_, rfl, noPlanOk_whenRunning (fun _ => noPlanOk_endStore bs) h⟩
    case solveStart => exact ⟨_, rfl, noPlanOk_whenRunning (fun _ => noPlanOk_solveStart) h⟩
    case solveEnd => exact ⟨_, rfl, noPlanOk_whenRunning (fun _ => noPlanOk_solveEnd) h⟩
    case refreshTimerExpiry => exact ⟨_, rfl, noPlanOk_whenRunning (fun _ => noPlanOk_refreshExpiry) h⟩
    case showFrameSent => exact ⟨_, rfl, noPlanOk_whenRunning (fun _ => noPlanOk_showSent) h⟩
    case replyWindowClose => exact ⟨_, rfl, noPlanOk_whenRunning (fun _ => noPlanOk_windowClosed) h⟩
    case fallbackFrameSent => exact ⟨_, rfl, noPlanOk_whenRunning (fun _ => noPlanOk_fallbackSent) h⟩
    case emphasisTimerExpiry i => exact ⟨_, rfl, noPlanOk_whenRunning (fun _ => noPlanOk_emphasisExpiry i) h⟩
    case ageTimerExpiry port => exact ⟨_, rfl, noPlanOk_whenRunning (fun _ => noPlanOk_ageExpiry port) h⟩
    case advertTimerExpiry port => exact ⟨_, rfl, noPlanOk_whenRunning (fun _ => noPlanOk_advertiseExpiry port) h⟩
    case spacingTimerExpiry port => exact ⟨_, rfl, noPlanOk_whenRunning (fun _ => noPlanOk_spacingExpiry port) h⟩
    case advertFrameSent port => exact ⟨_, rfl, noPlanOk_whenRunning (fun _ => noPlanOk_advertSent port) h⟩
    case contactSample levels => exact ⟨_, rfl, noPlanOk_whenRunning (fun _ => noPlanOk_sampleContacts levels) h⟩
    case noticeFrameSent => exact ⟨_, rfl, noPlanOk_whenRunning (fun _ => noPlanOk_noticeSent) h⟩
    all_goals cases hr

/-- Settles O9: the property is kept by every command, so by the command that the step takes from the queue. -/
theorem step_keeps_no_plan_ok : Obligations.step_keeps_no_plan_ok := by
  intro s t h hs
  unfold step at hs
  split at hs
  · cases hs
    exact h
  · rename_i c rest _
    obtain ⟨u, hu, ok⟩ := noPlanOk_exec c (s := { s with pending := rest }) (h.of_same rfl rfl)
    rw [hu] at hs
    cases hs
    exact ok

end Sys2Proof.Machine
end

section
/-! SUPPORT. The resets and the start-up load (R20, R21, R168, R169), and what holds after reset (O2, O12 to O15). -/

namespace Sys2Proof.Machine

/-! ## After reset (log entry 7) -/

/-- Settles O2: each property of the one state that a reset with blank plan memory gives. -/
theorem reset_has_every_property : Obligations.reset_has_every_property := by
  have notices : NoticesOk State.reset.mp := by constructor <;> simp [State.reset]
  have reports : ReportsOk State.reset.di := by constructor <;> simp [State.reset]
  have smoke : SmokeActive State.reset.zh := by simp [SmokeActive, State.reset]
  have clock : ClockOk State.reset.zh := by constructor <;> simp [State.reset, clockZero]
  have timers : ZoneTimersOk State.reset.zh := by simp [ZoneTimersOk, State.reset]
  have detectors : DetectorsOk State.reset.zh := by constructor <;> simp [State.reset, slotsWf]
  have lock : LockOk State.reset.di := ⟨rfl, rfl, rfl⟩
  have faults : FaultsOk State.reset.fc := by constructor <;> decide
  have timebase : TimebaseOk State.reset.tb := by simp [TimebaseOk, State.reset]
  have noPlan : NoPlanOk State.reset := (noPlanOk_iff _).2 fun _ => rfl
  have portals : PortalsOk State.reset := by simp [PortalsOk, State.reset]
  have published : PublishedOk State.reset := by simp [PublishedOk, State.reset]
  exact ⟨notices, reports, smoke, clock, timers, detectors, lock, faults, timebase, noPlan, portals, published⟩

/-! ## What a load finds -/

theorem loadedPlan_blank {m : PlanMemory} (h : m.mark = .blank) : loadedPlan m = none := by
  simp [loadedPlan, h]

theorem loadCondition_blank {m : PlanMemory} (h : m.mark = .blank) : loadCondition m = .blank := by
  simp [loadCondition, h]

/-- A written image that does not match its check value, or holds no plan. -/
theorem loadedPlan_bad {m : PlanMemory} (h : m.check ≠ some (crc16 m.image) ∨ planOfImage m.image = none) :
    loadedPlan m = none := by
  rw [Option.eq_none_iff_forall_ne_some]
  intro p hp
  obtain ⟨_, hm, hi⟩ := (loadedPlan_iff m p).1 hp
  rcases h with h | h
  · exact h ((memoryMatches_iff m).1 hm)
  · rw [h] at hi
    cases hi

theorem loadCondition_written {m : PlanMemory} (h : m.mark = .written) :
    loadCondition m = if (loadedPlan m).isSome then .good else .bad := by
  simp [loadCondition, h]

/-- What a load finds, in the terms of R21. -/
theorem loadedPlan_eq (m : PlanMemory) :
    loadedPlan m = if m.mark = .written ∧ m.check = some (crc16 m.image) then planOfImage m.image else none := by
  unfold loadedPlan memoryMatches
  cases m.mark <;> simp

theorem loadCondition_eq (m : PlanMemory) :
    loadCondition m = if m.mark = .blank then .blank else if (loadedPlan m).isSome then .good else .bad := by
  unfold loadCondition
  cases m.mark <;> simp

/-! ## The blocks on a plan after reset -/

/-- With no records before, every zone is CLEAR (R46). -/
theorem carriedZones_nil (p : Plan) :
    carriedZones [] p = p.zones.map fun z =>
      { state := .clear, suspect := none, clearHold := none, untracked := false, setting := z } := by
  refine List.ext_getElem (by simp [carriedZones]) fun i _ _ => ?_
  simp [carriedZones, carriedZone]

/-- A reset without a plan is the reset of log entry 7 but for its phase, its kind, plan memory and what is kept. -/
theorem blocksAfter_none (kind : ResetKind) (ph : Phase) (c : MemoryCondition) (m : PlanMemory) (s : State) :
    blocksAfter kind ph none c m powerOnSettings s =
      { State.reset with
        pending := s.pending, free := s.free, phase := ph
        ps := { State.reset.ps with memory := m, condition := c }
        mp := { State.reset.mp with lastReset := kind } } := rfl

/-- Power-on and the release of the reset line are a reset with the power-on settings, of plan memory with any store in
flight abandoned. -/
theorem exec_reset (s : State) (c : Instr) (kind : ResetKind)
    (h : (c = .powerOn ∧ kind = .powerOn) ∨ (c = .resetLine ∧ kind = .resetLine ∧ s.phase ≠ .off)) :
    exec c s = .next (resetWith kind powerOnSettings (abandonStore s.ps) s) := by
  rcases h with ⟨rfl, rfl⟩ | ⟨rfl, rfl, hp⟩
  · rfl
  · show Host.Outcome.next (if s.phase = .off then s else _) = _
    rw [if_neg hp]

theorem abandonStore_idle {ps : PlanStore} (h : ps.storing = false) : abandonStore ps = ps.memory := by
  simp [abandonStore, h]

theorem abandonStore_storing {ps : PlanStore} (h : ps.storing = true) :
    abandonStore ps = { ps.memory with mark := .written, check := none } := by
  simp [abandonStore, h]

/-- A reset whose load finds plan memory BLANK, captures nothing. -/
theorem resetWith_blank (kind : ResetKind) (k : Settings) {m : PlanMemory} (s : State) (h : m.mark = .blank) :
    resetWith kind k m s = blocksAfter kind .loading none .blank m k s := by
  simp [resetWith, loadedPlan_blank h, loadCondition_blank h]

/-- A reset whose load fails captures PLAN_STORE_FAULT. -/
theorem resetWith_bad (kind : ResetKind) (k : Settings) {m : PlanMemory} (s : State) (hm : m.mark = .written)
    (h : m.check ≠ some (crc16 m.image) ∨ planOfImage m.image = none) :
    resetWith kind k m s = capture .planStoreFault 0 (blocksAfter kind .loading none .bad m k s) := by
  simp [resetWith, loadedPlan_bad h, loadCondition_written hm]

/-- A reset whose load finds a plan starts every block on it. -/
theorem resetWith_plan (kind : ResetKind) (k : Settings) {m : PlanMemory} {p : Plan} (s : State)
    (h : loadedPlan m = some p) : resetWith kind k m s = blocksAfter kind .loading (some p) .good m k s := by
  have hm : m.mark = .written := ((loadedPlan_iff m p).1 h).1
  simp [resetWith, h, loadCondition_written hm]

/-- Settles O12, by what the load finds in plan memory: BLANK, no plan, or a store that the reset abandons. -/
theorem reset_without_a_plan : Obligations.reset_without_a_plan := by
  intro s c kind hc
  simp only [exec_reset s c kind hc]
  refine ⟨fun hm hs => ?_, fun hm hs hbad => ?_, fun hs => ?_⟩
  · rw [abandonStore_idle hs, resetWith_blank _ _ _ hm, blocksAfter_none]
  · rw [abandonStore_idle hs, resetWith_bad _ _ _ hm hbad, blocksAfter_none]
  · rw [abandonStore_storing hs, resetWith_bad _ _ _ rfl (.inl (by simp)), blocksAfter_none]

/-- The portal records that a plan starts with are UNKNOWN, one for each PORTAL exit. -/
theorem newPortals_unknown (p : Plan) : ∀ r ∈ newPortals p, r.advertisement = none ∧ r.lastSent = none := by
  intro r hr
  obtain ⟨i, _, rfl⟩ := List.mem_map.1 hr
  exact ⟨rfl, rfl⟩

theorem newPortals_exits (p : Plan) :
    (newPortals p).map (·.exit) = (List.range p.exits.length).filter fun e => (portalOf p e).isSome := by
  simp [newPortals, Function.comp_def]

/-- Settles O13: the blocks after the reset on the plan that the load finds. -/
theorem reset_with_a_plan : Obligations.reset_with_a_plan := by
  intro s c p image hc hm hi hs
  have hload : loadedPlan s.ps.memory = some p := (loadedPlan_iff _ p).2 (by simp [hm, memoryMatches, hi])
  have he : exec c s = .next (blocksAfter (if c = .powerOn then .powerOn else .resetLine) .loading (some p) .good
      s.ps.memory powerOnSettings s) := by
    rw [exec_reset s c (if c = .powerOn then .powerOn else .resetLine), abandonStore_idle hs,
      resetWith_plan _ _ _ hload]
    rcases hc with rfl | ⟨rfl, hp⟩
    · exact .inl ⟨rfl, rfl⟩
    · exact .inr ⟨rfl, rfl, hp⟩
  refine ⟨_, he, rfl, rfl, rfl, rfl, ?_, rfl, rfl, rfl, rfl, rfl, rfl, rfl, rfl, rfl, newPortals_unknown p,
    newPortals_exits p, fun port => ?_, rfl, rfl, rfl, rfl⟩
  · rw [← carriedZones_nil]
    rfl
  · cases port <;> simp [blocksAfter, portGet, startedPort, powerOnSettings, State.reset, linesReset, lineReset] <;>
      split <;> simp_all [portReset]

/-- A vector made by a map, read. -/
theorem vecMap_get {α β : Type} {n : Nat} (f : α → β) (v : Vector α n) (i : Fin n) : (vecMap f v)[i] = f v[i] := by
  simp [vecMap]

/-- A port's record as a reset starts it, field by field (R134). -/
theorem startedPort_eq (plan : Option Plan) (port : PeerPort) (mark : LineMark) :
    startedPort plan port mark =
      { portReset with
        advertise := plan.elim none fun p =>
          if expectedId p.header port ≠ 0 ∧ mark = .running then some (timingTicks p.header.advertise) else none } := by
  cases plan with
  | none => rfl
  | some p =>
    simp only [startedPort, Option.elim_some]
    split <;> rfl

/-- Settles O14: RESTART_BEGIN is a reset with the kept settings, on what plan memory holds. -/
theorem restart_begin_keeps_and_clears : Obligations.restart_begin_keeps_and_clears := by
  intro s hphase hdue
  refine ⟨fun hs => ?_, fun hs => ?_⟩
  · simp [exec, execRestartBegin, whenRunning, hs]
  · have he : exec .restartBegin s = .next (resetWith .restart (keptSettings s) s.ps.memory s) := by
      simp [exec, execRestartBegin, whenRunning, hphase, hdue, hs]
    refine ⟨blocksAfter .restart .loading (loadedPlan s.ps.memory) (loadCondition s.ps.memory) s.ps.memory
      (keptSettings s) s, ?_⟩
    intro m found
    have hf : loadedPlan m = found := loadedPlan_eq m
    clear_value found
    subst hf
    have hchannels (n : Fin 8) :
        (keptSettings s).channels[n] = startChannel s.di.channels[n].mode s.di.channels[n].address := by
      rw [show (keptSettings s).channels = vecMap (fun c => startChannel c.mode c.address) s.di.channels from rfl,
        vecMap_get]
    have hkinds (k : Fin 10) : (keptSettings s).kinds[k] = { s.mp.kinds[k] with flag := false, event := none } := by
      rw [show (keptSettings s).kinds = vecMap keptKind s.mp.kinds from rfl, vecMap_get]
      rfl
    refine ⟨he, rfl, rfl, rfl, ?_, rfl, hchannels, ?_, ?_, ?_, ?_, fun port => ?_, rfl, hkinds, rfl, rfl,
      fun id => ?_⟩
    · rw [← loadCondition_eq]
      rfl
    · cases loadedPlan s.ps.memory with
      | none => rfl
      | some p =>
        simp only [Option.elim_some, ← carriedZones_nil]
        rfl
    · cases loadedPlan s.ps.memory <;> rfl
    · cases loadedPlan s.ps.memory <;> rfl
    · cases loadedPlan s.ps.memory <;> rfl
    · cases port <;> exact startedPort_eq _ _ _
    · cases id <;> rfl

/-- Settles O15: held and without supply every block is as before the load. -/
theorem held_and_unpowered : Obligations.held_and_unpowered := by
  refine ⟨fun s hs => ?_, fun s => ?_, fun s hs => ?_⟩
  · refine ⟨heldState .resetLine .held s, ?_, rfl, rfl, rfl, rfl, rfl, rfl, rfl, rfl, rfl, rfl, rfl, rfl⟩
    show Host.Outcome.next (if s.phase = .off then s else _) = _
    rw [if_neg hs]
  · exact ⟨heldState .powerOn .off s, rfl, rfl, rfl, rfl, fun _ => rfl, rfl⟩
  · show Host.Outcome.next (if s.phase = .loading then _ else s) = _
    rw [if_pos hs]

end Sys2Proof.Machine
end

section
/-! SUPPORT. The requests that change the staging bank, by its stage (R9 to R14), and the takes (R43 to R45): O25, O29,
O40. -/

namespace Sys2Proof.Machine

/-! ## How a request command is answered -/

/-- A request command is turned away as its request's meaning says. -/
theorem turnedAway_of (c : Instr) (r : Request) {s : State} {st : ReplyStatus} (hr : requestOf c = some r)
    (h : Ready s) (hp : performKind r.kind.toNat r.fields (inHand r s) = turnedAway st (inHand r s)) :
    TurnedAway c s st := by
  obtain ⟨_, _, hw, _, _⟩ := id h
  exact answers_of c r s s st [] hr h hw hp

variable {s : State}

/-- The stages in which no request may change the staging bank. -/
theorem stageLocked_iff : stageLocked s = true ↔ s.ps.staging.stage = .checking ∨ s.ps.staging.stage = .activating := by
  simp [stageLocked]

/-- OPEN, PASSED and FAILED are neither locked nor EMPTY. -/
theorem stageLocked_of_held
    (h : s.ps.staging.stage = .opened ∨ s.ps.staging.stage = .passed ∨ s.ps.staging.stage = .failed) :
    stageLocked s = false ∧ s.ps.staging.stage ≠ .empty := by
  rcases h with h | h | h <;> simp [stageLocked, h]

/-- EMPTY, CHECKING and ACTIVATING turn a change or a check of the bank away. -/
theorem stageLocked_or_empty
    (h : s.ps.staging.stage = .empty ∨ s.ps.staging.stage = .checking ∨ s.ps.staging.stage = .activating) :
    (stageLocked s || decide (s.ps.staging.stage = .empty)) = true := by
  rcases h with h | h | h <;> simp [stageLocked, h]

/-! ## PLAN BEGIN and PLAN DISCARD (R9, R11) -/

theorem answerPlanBegin_locked (h : stageLocked s = true) : answerPlanBegin [] s = turnedAway .wrongStage s := by
  simp [answerPlanBegin, withoutFields_nil, h]

theorem answerPlanBegin_unlocked (h : stageLocked s = false) :
    answerPlanBegin [] s = answered [] (setStaging { stagingEmpty with stage := .opened } s) := by
  simp [answerPlanBegin, withoutFields_nil, h]

theorem answerPlanDiscard_locked (h : stageLocked s = true) : answerPlanDiscard [] s = turnedAway .wrongStage s := by
  simp [answerPlanDiscard, withoutFields_nil, h]

theorem answerPlanDiscard_empty (h : s.ps.staging.stage = .empty) : answerPlanDiscard [] s = answered [] s := by
  simp [answerPlanDiscard, withoutFields_nil, stageLocked, h]

theorem answerPlanDiscard_held (hl : stageLocked s = false) (he : s.ps.staging.stage ≠ .empty) :
    answerPlanDiscard [] s = answered [] (setStaging stagingEmpty s) := by
  simp [answerPlanDiscard, withoutFields_nil, hl, he]

/-- Settles O25, by the stage. -/
theorem plan_begin_and_discard : Obligations.plan_begin_and_discard := by
  intro tag s hs
  obtain ⟨_, _, hw, _, _⟩ := id hs
  refine ⟨fun h1 h2 => ?_, fun h => ?_, fun h => ?_, fun h => ⟨?_, ?_⟩⟩
  · have hl : stageLocked s = false := by simp [stageLocked, h1, h2]
    exact answers_of _ _ s _ _ _ rfl hs hw (answerPlanBegin_unlocked hl)
  · obtain ⟨hl, he⟩ := stageLocked_of_held h
    exact answers_of _ _ s _ _ _ rfl hs hw (answerPlanDiscard_held hl he)
  · exact answers_of _ _ s _ _ _ rfl hs hw (answerPlanDiscard_empty h)
  · exact turnedAway_of _ _ rfl hs (answerPlanBegin_locked (stageLocked_iff.2 h))
  · exact turnedAway_of _ _ rfl hs (answerPlanDiscard_locked (stageLocked_iff.2 h))

/-! ## PLAN CHECK and its end (R13, R14) -/

theorem answerPlanCheck_wrongStage (h : (stageLocked s || decide (s.ps.staging.stage = .empty)) = true) :
    answerPlanCheck [] s = turnedAway .wrongStage s := by
  rw [answerPlanCheck, withoutFields_nil, if_pos h]

theorem answerPlanCheck_busy (hl : stageLocked s = false) (he : s.ps.staging.stage ≠ .empty)
    (hs : s.ps.storing = true) : answerPlanCheck [] s = turnedAway .busy s := by
  simp [answerPlanCheck, withoutFields_nil, hl, he, hs]

theorem answerPlanCheck_begins (hl : stageLocked s = false) (he : s.ps.staging.stage ≠ .empty)
    (hs : s.ps.storing = false) :
    answerPlanCheck [] s =
      answered [] (setStaging { s.ps.staging with stage := .checking, failure := none } s) := by
  simp [answerPlanCheck, withoutFields_nil, hl, he, hs]

/-- The end of a check, by what it finds. -/
theorem exec_planCheckEnd (hp : s.phase = .running) (hc : s.ps.staging.stage = .checking) :
    exec .planCheckEnd s =
      .next (raise (.planEvent (checkOutcome s.ps.staging) (stagedPlanId s.ps.staging) (planCheck s.ps.staging))
        { s with ps := { s.ps with staging := checkedStaging s.ps.staging } }) := by
  simp [exec, execPlanCheckEnd, whenRunning, hp, endCheck, hc]

/-- Settles O29, by the stage and the store, and at the end by what the check finds. -/
theorem plan_check : Obligations.plan_check := by
  refine ⟨fun tag s hs => ?_, fun s hp hc => ?_⟩
  · obtain ⟨_, _, hw, _, _⟩ := id hs
    refine ⟨fun h => ?_, fun h => ?_⟩
    · exact turnedAway_of _ _ rfl hs (answerPlanCheck_wrongStage (stageLocked_or_empty h))
    · obtain ⟨hl, he⟩ := stageLocked_of_held h
      refine ⟨fun hst => ?_, fun hst => ?_⟩
      · exact turnedAway_of _ _ rfl hs (answerPlanCheck_busy hl he hst)
      · exact answers_of _ _ s _ _ _ rfl hs hw (answerPlanCheck_begins hl he hst)
  · rw [exec_planCheckEnd hp hc]
    refine ⟨fun h => ?_, fun f h => ?_⟩ <;> simp [h, checkOutcome, checkedStaging]

/-! ## Takes with a record (R43 to R45) -/

/-- Without a sequence number on one side every take passes. -/
theorem sequenceCheck_absent {e : PendingEntry} {r : DetectorRec} (h : e.sequence = none ∨ r.lastSequence = none) :
    sequenceCheck e r = .pass := by
  unfold sequenceCheck
  split
  · next hseq hlast => rcases h with h | h <;> simp [h] at hseq hlast
  · rfl

/-- With a sequence number on both sides, the check compares them (R44). -/
theorem sequenceCheck_present {e : PendingEntry} {r : DetectorRec} {q last : Nat} (hq : e.sequence = some q)
    (hl : r.lastSequence = some last) :
    sequenceCheck e r =
      if q = last ∧ e.merged = 1 then .duplicate else if q ≠ (last + e.merged) % 64 then .gap else .pass := by
  simp [sequenceCheck, hq, hl]

/-- An applied take writes its record and evaluates the record's zone (R45, R48). -/
theorem applyTake_eq (e : PendingEntry) (r : DetectorRec) (u : State) :
    let r1 : DetectorRec :=
      { zone := r.zone, level := e.level
        lastSequence := if e.sequence.isSome then e.sequence else r.lastSequence
        alarms := if e.tail = e.merged then min 7 (r.alarms + e.tail) else e.tail
        time := u.tb.seconds }
    applyTake e r u =
      evaluateZone r.zone e.peak { u with zh := { u.zh with detectors := slotPut u.zh.detectors e.address r1 } } := by
  unfold applyTake appliedRecord
  cases e.sequence <;> rfl

/-- A take for an address with a record goes by its sequence check. -/
theorem tableTake_record {e : PendingEntry} {r : DetectorRec} (h : slotGet s.zh.detectors e.address = some r) :
    tableTake e s =
      match sequenceCheck e r with
      | .duplicate => s
      | .gap => applyTake e r (capture .sequenceGap e.address s)
      | .pass => applyTake e r s := by
  unfold tableTake
  split
  · rename_i h'
    cases h.symm.trans h'
    rfl
  · rename_i h'
    cases h.symm.trans h'

/-- A take for a new address, with room, creates its record. -/
theorem tableTake_room {e : PendingEntry} (h : slotGet s.zh.detectors e.address = none)
    (hl : s.zh.detectors.length < 256) : tableTake e s = applyTake e (createdRecord e) s := by
  simp [tableTake, h, hl, Config.maxDetectors]

/-- The take in progress is over. -/
def takeEnded (s : State) : State := { s with zh := { s.zh with take := none } }

/-- A take of an entry marked unmapped ends with a capture (R18, R41). -/
theorem exec_takeComplete_unmapped {e : PendingEntry} (hp : s.phase = .running) (ht : s.zh.take = some e)
    (hu : e.unmapped = true) : exec .takeComplete s = .next (capture .unmappedDetector e.address (takeEnded s)) := by
  simp [exec, execTakeComplete, whenRunning, hp, takeComplete, ht, hu, takeEnded]

/-- A take of a mapped entry reaches the detector table. -/
theorem exec_takeComplete_mapped {e : PendingEntry} (hp : s.phase = .running) (ht : s.zh.take = some e)
    (hu : e.unmapped = false) : exec .takeComplete s = .next (tableTake e (takeEnded s)) := by
  simp [exec, execTakeComplete, whenRunning, hp, takeComplete, ht, hu, takeEnded]

/-- Settles O40, by the entry's mark, the address's record and its sequence check. -/
theorem take_completes : Obligations.take_completes := by
  intro s e hp ht
  refine ⟨exec_takeComplete_unmapped hp ht, fun r hu hr => ?_, fun hu hr hlen => ?_⟩
  · rw [exec_takeComplete_mapped hp ht hu, tableTake_record (s := takeEnded s) hr]
    refine ⟨fun hq => ?_, fun q last hq hl => ?_⟩
    · rw [sequenceCheck_absent hq]
      exact congrArg _ (applyTake_eq e r _)
    · rw [sequenceCheck_present hq hl]
      refine ⟨fun h1 h2 => ?_, fun h1 h2 => ?_, fun h1 h2 => ?_⟩
      · rw [if_pos ⟨h1, h2⟩]
        rfl
      · rw [if_neg h1, if_pos h2]
        exact congrArg _ (applyTake_eq e r _)
      · rw [if_neg h1, if_neg (not_not_intro h2)]
        exact congrArg _ (applyTake_eq e r _)
  · rw [exec_takeComplete_mapped hp ht hu, tableTake_room (s := takeEnded s) hr hlen]
    exact congrArg _ (applyTake_eq e (createdRecord e) _)

end Sys2Proof.Machine
end

section
/-! SUPPORT. PLAN PUT (R8, R10): records written and read back, how a body is cut into its records, and how the request
is answered: O27, O26. -/

namespace Sys2Proof.Machine

/-! ## Records written and read back -/

/-- A slot read after consecutive records are written. -/
theorem slotGet_slotPutAll {α : Type} (i : Nat) (xs : List α) : ∀ (slots : Slots α) (first : Nat),
    slotGet (slotPutAll slots first xs) i =
      if first ≤ i ∧ i < first + xs.length then xs[i - first]? else slotGet slots i := by
  induction xs with
  | nil =>
    intro slots first
    have : ¬ (first ≤ i ∧ i < first + 0) := by omega
    simp only [slotPutAll, List.length_nil, this, if_false]
  | cons x rest ih =>
    intro slots first
    simp only [slotPutAll, ih, slotGet_slotPut, List.length_cons]
    by_cases h : i = first
    · subst h
      have h2 : i ≤ i ∧ i < i + (rest.length + 1) := by omega
      simp [h2]
    · have h1 : (first + 1 ≤ i ∧ i < first + 1 + rest.length) ↔ (first ≤ i ∧ i < first + (rest.length + 1)) := by omega
      simp only [h1, h, if_false]
      split
      · have h2 : i - first = (i - (first + 1)) + 1 := by omega
        rw [h2, List.getElem?_cons_succ]
      · rfl

/-- One code field error, and no record is read. -/
theorem readAll_eq_none {α : Type} (read : List Byte → Option (Stored α)) (rs : List (List Byte)) :
    readAll read rs = none ↔ ∃ r ∈ rs, read r = none := by
  induction rs with
  | nil => simp [readAll]
  | cons r rest ih =>
    cases h : read r <;> cases h' : readAll read rest <;> simp_all [readAll]

/-- The records read are those of the bytes, one by one, and the mark says that one of them was clamped. -/
theorem readAll_eq_some {α : Type} (read : List Byte → Option (Stored α)) (rs : List (List Byte)) :
    ∀ (xs : List α) (clamped : Bool), readAll read rs = some (xs, clamped) →
      xs.map some = rs.map (fun r => (read r).map (·.1)) ∧
      (clamped = true ↔ ∃ r ∈ rs, ∃ x, read r = some (x, true)) := by
  induction rs with
  | nil =>
    intro xs clamped h
    simp only [readAll, Option.some.injEq, Prod.mk.injEq] at h
    obtain ⟨rfl, rfl⟩ := h
    simp
  | cons r rest ih =>
    intro xs clamped h
    unfold readAll at h
    split at h
    · rename_i x ys hr hrest
      obtain ⟨hmap, hclamped⟩ := ih ys.1 ys.2 hrest
      cases h
      obtain ⟨x, xc⟩ := x
      cases xc <;> simp [hr, hmap, hclamped]
    · cases h

/-- Settles O27, by the section written. -/
theorem put_records_are_read_back : Obligations.put_records_are_read_back := by
  refine ⟨fun slots first i xs => slotGet_slotPutAll i xs slots first,
    fun read rs => ⟨readAll_eq_none read rs, readAll_eq_some read rs⟩, fun g g' sect first rs clamped h => ?_⟩
  cases sect <;>
    (simp only [putRecords, Option.map_eq_some_iff, Prod.mk.injEq] at h
     obtain ⟨⟨xs, c⟩, hr, rfl, rfl⟩ := h
     simp [hr])

/-! ## How a body is cut into its records -/

/-- The bytes are one whole record of a section (R190). -/
def recordWhole (sect : Section) (r : List Byte) : Prop :=
  match sect with
  | .header => r.length = 38
  | .nodes => r.length = 3
  | .links => r.length = 9
  | .zones => r.length = 4
  | .windows => r.length = 5
  | .exits => r.length = if at1 r 2 = 1 then 10 else 6
  | .signs => 1 ≤ at1 r 3 ∧ at1 r 3 ≤ 8 ∧ at1 r (4 + 3 * at1 r 3) ≤ 4 ∧
      r.length = 5 + 3 * at1 r 3 + at1 r (4 + 3 * at1 r 3)

/-- The bytes begin with a sign record whose map or group length is out of its range (R10). -/
def listLengthBad (bs : List Byte) : Prop :=
  (4 ≤ bs.length ∧ (at1 bs 3 < 1 ∨ 8 < at1 bs 3)) ∨
    (1 ≤ at1 bs 3 ∧ at1 bs 3 ≤ 8 ∧ 5 + 3 * at1 bs 3 ≤ bs.length ∧ 4 < at1 bs (4 + 3 * at1 bs 3))

theorem at1_append {r : List Byte} (rest : List Byte) {i : Nat} (h : i < r.length) : at1 (r ++ rest) i = at1 r i := by
  simp [at1, List.getElem?_append_left h]

theorem at1_take {bs : List Byte} {k i : Nat} (h : i < k) : at1 (bs.take k) i = at1 bs i := by
  simp [at1, List.getElem?_take_of_lt h]

theorem fixedLength_eq_length {n k : Nat} {bs : List Byte} :
    fixedLength n bs = .length k ↔ n = k ∧ k ≤ bs.length := by
  unfold fixedLength
  split <;> simp <;> omega

theorem fixedLength_ne_badValue (n : Nat) (bs : List Byte) : fixedLength n bs ≠ .badValue := by
  unfold fixedLength
  split <;> simp

/-- A whole record at the head of a body gives its own length. -/
theorem recordLength_whole {sect : Section} {r : List Byte} (rest : List Byte) (h : recordWhole sect r) :
    recordLength sect (r ++ rest) = .length r.length := by
  cases sect <;> simp only [recordWhole] at h <;> simp only [recordLength]
  case exits =>
    have hl : 6 ≤ r.length := by split at h <;> omega
    rw [if_neg (by simp; omega), at1_append rest (by omega), ← h, fixedLength_eq_length]
    simp
  case signs =>
    obtain ⟨h1, h2, h3, hl⟩ := h
    rw [at1_append rest (by omega), at1_append rest (by omega), if_neg (by simp; omega), if_neg (by omega),
      if_neg (by simp; omega), if_neg (by omega), fixedLength_eq_length]
    simp [hl]
  all_goals simp [fixedLength_eq_length, h]

/-- A length found is that of a whole record at the head of the body. -/
theorem recordLength_eq_length {sect : Section} {bs : List Byte} {k : Nat} (h : recordLength sect bs = .length k) :
    k ≤ bs.length ∧ recordWhole sect (bs.take k) := by
  cases sect <;> simp only [recordLength] at h <;> simp only [recordWhole]
  case exits =>
    split at h
    · cases h
    · obtain ⟨rfl, hk⟩ := fixedLength_eq_length.1 h
      refine ⟨hk, ?_⟩
      rw [at1_take (by split <;> omega), List.length_take]
      omega
  case signs =>
    split at h
    · cases h
    · split at h
      · cases h
      · split at h
        · cases h
        · split at h
          · cases h
          · obtain ⟨rfl, hk⟩ := fixedLength_eq_length.1 h
            refine ⟨hk, ?_⟩
            rw [at1_take (by omega), at1_take (by omega), List.length_take]
            omega
  all_goals
    obtain ⟨rfl, hk⟩ := fixedLength_eq_length.1 h
    exact ⟨hk, by rw [List.length_take]; omega⟩

/-- Only a sign record's list lengths can be bad codes. -/
theorem recordLength_eq_badValue {sect : Section} {bs : List Byte} :
    recordLength sect bs = .badValue ↔ sect = .signs ∧ listLengthBad bs := by
  cases sect <;> simp only [recordLength, fixedLength_ne_badValue, false_and, reduceCtorEq, true_and]
  case exits => split <;> simp [fixedLength_ne_badValue]
  case signs =>
    unfold listLengthBad
    split
    · simp; omega
    · split
      · simp; omega
      · split
        · simp; omega
        · split
          · simp; omega
          · simp [fixedLength_ne_badValue]; omega

theorem splitRecords_eq_records {sect : Section} : ∀ {n : Nat} {body : List Byte} {rs : List (List Byte)},
    splitRecords sect n body = .records rs ↔
      rs.length = n ∧ rs.flatten = body ∧ ∀ r ∈ rs, recordWhole sect r := by
  intro n
  induction n with
  | zero =>
    intro body rs
    cases body <;> cases rs <;> simp [splitRecords]
  | succ n ih =>
    intro body rs
    constructor
    · intro h
      simp only [splitRecords] at h
      split at h
      · cases h
      · cases h
      · rename_i k hk
        obtain ⟨hlen, hwhole⟩ := recordLength_eq_length hk
        split at h
        · rename_i rest hrest
          cases h
          obtain ⟨h1, h2, h3⟩ := ih.1 hrest
          refine ⟨by simp [h1], by simp [h2], ?_⟩
          simpa [hwhole] using h3
        · cases h
        · cases h
    · rintro ⟨hn, rfl, hw⟩
      cases rs with
      | nil => simp at hn
      | cons r rest =>
        have hrest : splitRecords sect n rest.flatten = .records rest :=
          ih.2 ⟨by simpa using hn, rfl, fun x hx => hw x (List.mem_cons_of_mem _ hx)⟩
        simp [splitRecords, recordLength_whole _ (hw r List.mem_cons_self), hrest]

theorem splitRecords_eq_badValue {sect : Section} : ∀ {n : Nat} {body : List Byte},
    splitRecords sect n body = .badValue ↔ sect = .signs ∧
      ∃ (before : List (List Byte)) (rest : List Byte), before.length < n ∧ body = before.flatten ++ rest ∧
        (∀ r ∈ before, recordWhole .signs r) ∧ listLengthBad rest := by
  intro n
  induction n with
  | zero =>
    intro body
    simp only [splitRecords, Nat.not_lt_zero, false_and, exists_const, and_false, iff_false]
    split <;> simp
  | succ n ih =>
    intro body
    constructor
    · intro h
      simp only [splitRecords] at h
      split at h
      · cases h
      · rename_i hb
        obtain ⟨hs, hbad⟩ := recordLength_eq_badValue.1 hb
        exact ⟨hs, [], body, by simp, by simp, by simp, hbad⟩
      · rename_i k hk
        obtain ⟨hlen, hwhole⟩ := recordLength_eq_length hk
        split at h
        · cases h
        · cases h
        · rename_i hrest
          obtain ⟨rfl, before, rest, h1, h2, h3, h4⟩ := ih.1 hrest
          refine ⟨rfl, body.take k :: before, rest, by simpa using h1, ?_, by simpa [hwhole] using h3, h4⟩
          rw [List.flatten_cons, List.append_assoc, ← h2, List.take_append_drop]
    · rintro ⟨rfl, before, rest, hn, rfl, hw, hbad⟩
      cases before with
      | nil => simp [splitRecords, recordLength_eq_badValue.2 ⟨rfl, hbad⟩]
      | cons r more =>
        have hrest : splitRecords .signs n (more.flatten ++ rest) = .badValue :=
          ih.2 ⟨rfl, more, rest, by simpa using hn, rfl, fun x hx => hw x (List.mem_cons_of_mem _ hx), hbad⟩
        simp [splitRecords, recordLength_whole _ (hw r List.mem_cons_self), hrest]

/-! ## How the request is answered -/

variable {s : State} {code i1 i2 n : Byte} {body more : List Byte} {sect : Section} {rs : List (List Byte)}

theorem answerPlanPut_nil : answerPlanPut [] s = turnedAway .badLength s := rfl

theorem answerPlanPut_noSection (h : sectionOf code.toNat = none) :
    answerPlanPut (code :: more) s = turnedAway .badValue s := by
  simp [answerPlanPut, h]

theorem answerPlanPut_short (h : sectionOf code.toNat = some sect) (hl : more.length < 3) :
    answerPlanPut (code :: more) s = turnedAway .badLength s := by
  unfold answerPlanPut
  simp only [h]
  split
  · simp at hl
    omega
  · rfl

theorem answerPlanPut_zero (h : sectionOf code.toNat = some sect) (hn : n = 0) :
    answerPlanPut (code :: i1 :: i2 :: n :: body) s = turnedAway .badValue s := by
  simp [answerPlanPut, h, hn]

theorem answerPlanPut_badValue (h : sectionOf code.toNat = some sect)
    (hb : splitRecords sect n.toNat body = .badValue) :
    answerPlanPut (code :: i1 :: i2 :: n :: body) s = turnedAway .badValue s := by
  simp [answerPlanPut, h, hb]

theorem answerPlanPut_badLength (h : sectionOf code.toNat = some sect) (hn : n ≠ 0)
    (hb : splitRecords sect n.toNat body = .badLength) :
    answerPlanPut (code :: i1 :: i2 :: n :: body) s = turnedAway .badLength s := by
  simp only [answerPlanPut, h, hn, hb, if_false]

/-- A body read whole meets the stage first. -/
theorem answerPlanPut_records (h : sectionOf code.toNat = some sect) (hn : n ≠ 0)
    (hb : splitRecords sect n.toNat body = .records rs) :
    answerPlanPut (code :: i1 :: i2 :: n :: body) s =
      if (stageLocked s || decide (s.ps.staging.stage = .empty)) = true then turnedAway .wrongStage s
      else putStaged sect (num2 i1 i2) rs s := by
  simp only [answerPlanPut, h, hn, hb, if_false]

/-- In OPEN, PASSED and FAILED a body read whole is tested and written. -/
theorem answerPlanPut_staged (h : sectionOf code.toNat = some sect) (hn : n ≠ 0)
    (hb : splitRecords sect n.toNat body = .records rs) (hl : stageLocked s = false)
    (he : s.ps.staging.stage ≠ .empty) :
    answerPlanPut (code :: i1 :: i2 :: n :: body) s = putStaged sect (num2 i1 i2) rs s := by
  rw [answerPlanPut_records h hn hb]
  simp [hl, he]

theorem putStaged_beyond {first : Nat} (h : sectionMax sect < first + rs.length) :
    putStaged sect first rs s = turnedAway .badValue s :=
  if_pos h

theorem putStaged_codeError {first : Nat} (h : putRecords s.ps.staging sect first rs = none) :
    putStaged sect first rs s = turnedAway .badValue s := by
  simp [putStaged, h]

theorem putStaged_writes {first : Nat} {g : Staging} {clamped : Bool} (hb : first + rs.length ≤ sectionMax sect)
    (h : putRecords s.ps.staging sect first rs = some (g, clamped)) :
    putStaged sect first rs s =
      answeredClamped clamped [] (setStaging { g with stage := .opened, failure := none } s) := by
  simp only [putStaged, h]
  rw [if_neg (by omega)]

/-- Settles O26. -/
theorem plan_put : Obligations.plan_put := by
  refine ⟨fun sect n body => ⟨fun rs => splitRecords_eq_records, splitRecords_eq_badValue⟩,
    fun tag code more s hs => ⟨?_, fun h => ?_, fun h hl => ?_⟩, fun tag code i1 i2 n body sect s hs hsect => ?_⟩
  · exact turnedAway_of _ _ rfl hs answerPlanPut_nil
  · exact turnedAway_of _ _ rfl hs (answerPlanPut_noSection h)
  · obtain ⟨sect, hsect⟩ := Option.isSome_iff_exists.1 h
    exact turnedAway_of _ _ rfl hs (answerPlanPut_short hsect hl)
  · obtain ⟨_, _, hw, _, _⟩ := id hs
    refine ⟨fun hn => ?_, fun _ hb => ?_, fun hn hb => ?_, fun rs hn hb => ⟨fun hst => ?_, fun hst => ?_⟩⟩
    · exact turnedAway_of _ _ rfl hs (answerPlanPut_zero hsect hn)
    · exact turnedAway_of _ _ rfl hs (answerPlanPut_badValue hsect hb)
    · exact turnedAway_of _ _ rfl hs (answerPlanPut_badLength hsect hn hb)
    · exact turnedAway_of _ _ rfl hs
        ((answerPlanPut_records hsect hn hb).trans (if_pos (stageLocked_or_empty hst)))
    · obtain ⟨hl, he⟩ := stageLocked_of_held hst
      have hstaged (r : Request) : answerPlanPut (code :: i1 :: i2 :: n :: body) (inHand r s) =
          putStaged sect (num2 i1 i2) rs (inHand r s) := answerPlanPut_staged hsect hn hb hl he
      have hcount : rs.length ≠ 0 := by
        rw [(splitRecords_eq_records.1 hb).1]
        intro h0
        exact hn (BitVec.eq_of_toNat_eq h0)
      refine ⟨fun hmax => ?_, fun hmax => ⟨fun hnone => ?_, fun g clamped hsome => ?_⟩⟩
      · exact turnedAway_of _ _ rfl hs ((hstaged _).trans (putStaged_beyond (by omega)))
      · exact turnedAway_of _ _ rfl hs ((hstaged _).trans (putStaged_codeError hnone))
      · exact answers_of _ _ s _ _ _ rfl hs hw ((hstaged _).trans (putStaged_writes (by omega) hsome))

end Sys2Proof.Machine
end

section
/-! SUPPORT. What the records of a PLAN PUT are stored as (R2 to R8, R190): quantities, codes, and each record from its
bytes: O28. -/

namespace Sys2Proof.Machine

/-! ## Quantities -/

theorem clampTo_eq {lo hi : Nat} (h : lo ≤ hi) (n : Nat) :
    clampTo lo hi n = if n < lo then lo else if hi < n then hi else n := by
  unfold clampTo
  split
  · omega
  · split <;> omega

theorem quantityOr_value {lo hi : Nat} (h : lo ≤ hi) (ones dflt n : Nat) :
    (quantityOr ones dflt lo hi n).1 =
      if n = ones then dflt else if n < lo then lo else if hi < n then hi else n := by
  unfold quantityOr quantity
  split
  · rfl
  · exact clampTo_eq h n

theorem quantityOr_clamped (ones dflt lo hi n : Nat) :
    (quantityOr ones dflt lo hi n).2 = true ↔ (n < lo ∨ hi < n) ∧ n ≠ ones := by
  unfold quantityOr quantity outside
  split <;> simp [*]

theorem windowSize_log2 {n : Nat} (h0 : 1 ≤ n) (h1 : n ≤ 1024) : (windowSize n).1 = 2 ^ n.log2 := by
  simp only [windowSize]
  rw [if_neg (by omega), if_neg (by omega)]

/-- A byte field holds DEFAULT exactly when all its bits are ones (R186). -/
theorem toNat_eq_ones (b : Byte) : b.toNat = 255 ↔ b = 255 :=
  ⟨fun h => BitVec.eq_of_toNat_eq h, fun h => h ▸ rfl⟩

/-- A window size is stored as the largest power of two not above it. -/
theorem windowSize_largest {n : Nat} (h0 : 1 ≤ n) (h1 : n ≤ 1024) :
    ∃ k : Nat, (windowSize n).1 = 2 ^ k ∧ 2 ^ k ≤ n ∧ n < 2 ^ (k + 1) :=
  ⟨n.log2, windowSize_log2 h0 h1, Nat.log2_self_le (by omega), Nat.lt_log2_self⟩

theorem windowSize_above {n : Nat} (h : 1024 < n) : (windowSize n).1 = 1024 := by
  simp [windowSize, h]

theorem windowSize_clamped (n : Nat) : (windowSize n).2 = true ↔ (windowSize n).1 ≠ n := by
  simp [windowSize]

/-! ## Codes -/

theorem timeUnitOf_isSome (n : Nat) : (timeUnitOf n).isSome = true ↔ n ≤ 3 := by
  match n with
  | 0 | 1 | 2 | 3 => simp [timeUnitOf]
  | n + 4 => simp [timeUnitOf]

@[simp] theorem timeUnitOf_code (u : TimeUnit) : timeUnitOf (timeUnitCode u) = some u := by cases u <;> rfl
@[simp] theorem passageOf_code (x : Passage) : passageOf (passageCode x) = some x := by cases x <;> rfl
@[simp] theorem exitStateOf_code (x : ExitState) : exitStateOf (exitStateCode x) = some x := by cases x <;> rfl
@[simp] theorem portOf_code (x : PeerPort) : portOf (portCode x) = some x := by cases x <;> rfl

theorem passageOf_none : ∀ {n : Nat}, 2 < n → passageOf n = none
  | 0, h | 1, h | 2, h => absurd h (by decide)
  | _ + 3, _ => rfl

theorem exitStateOf_none : ∀ {n : Nat}, 2 < n → exitStateOf n = none
  | 0, h | 1, h | 2, h => absurd h (by decide)
  | _ + 3, _ => rfl

theorem portOf_none : ∀ {n : Nat}, 1 < n → portOf n = none
  | 0, h | 1, h => absurd h (by decide)
  | _ + 2, _ => rfl

theorem strictFlagOf_none : ∀ {n : Nat}, 1 < n → strictFlagOf n = none
  | 0, h | 1, h => absurd h (by decide)
  | _ + 2, _ => rfl

/-! ## Timing settings and station ids (R2, R3) -/

theorem readTiming_isSome (dflt : Timing) (zeroOk : Bool) (count unit : Nat) :
    (readTiming dflt zeroOk count unit).isSome = true ↔ unit ≤ 3 ∨ unit = 255 := by
  rw [← timeUnitOf_isSome]
  unfold readTiming
  split
  · simp [*]
  · split
    · simp [*]
    · split <;> simp [*]

/-- A timing setting as stored. -/
theorem readTiming_value {dflt : Timing} {zeroOk : Bool} {count unit : Nat} {t : Stored Timing}
    (h : readTiming dflt zeroOk count unit = some t) :
    if unit = 255 then t.1 = dflt
    else timeUnitOf unit = some t.1.unit ∧ t.1.count = if count = 0 ∧ zeroOk = false then 1 else count := by
  unfold readTiming at h
  split at h
  · cases h
    simp [*]
  · split at h
    · cases h
    · rw [if_neg (by assumption)]
      split at h <;> cases h <;> simp_all

theorem readTiming_clamped {dflt : Timing} {zeroOk : Bool} {count unit : Nat} {t : Stored Timing}
    (h : readTiming dflt zeroOk count unit = some t) :
    t.2 = true ↔ zeroOk = false ∧ count = 0 ∧ unit ≠ 255 := by
  unfold readTiming at h
  split at h
  · cases h
    simp [*]
  · split at h
    · cases h
    · split at h <;> cases h <;> simp_all
      exact fun hz h0 => by simp_all

theorem readStation_isSome (dflt lo n : Nat) :
    (readStation dflt lo n).isSome = true ↔ (lo ≤ n ∧ n ≤ 15) ∨ n = 255 := by
  unfold readStation
  split
  · simp [*]
  · split <;> simp [*]

theorem readStation_value {dflt lo n x : Nat} (h : readStation dflt lo n = some x) :
    x = if n = 255 then dflt else n := by
  unfold readStation at h
  split at h
  · cases h
    simp [*]
  · split at h
    · cases h
      simp [*]
    · cases h

/-! ## Header records (R2) -/

/-- A test that does not look at a value holds of it exactly when there is one. -/
theorem any_const {α : Type} (x : Option α) (c : Bool) : (x.any fun _ => c) = (x.isSome && c) := by
  cases x <;> simp

/-- What a header record names must be in its codes' ranges: the units of its timings and its station ids. -/
theorem readHeader_isSome (bs : List Byte) :
    (readHeader bs).isSome = true ↔
      (∀ i ∈ [10, 12, 14, 16, 18, 20, 22, 24], at1 bs (i + 1) ≤ 3 ∨ at1 bs (i + 1) = 255) ∧
      ((1 ≤ at1 bs 35 ∧ at1 bs 35 ≤ 15) ∨ at1 bs 35 = 255) ∧
      (at1 bs 36 ≤ 15 ∨ at1 bs 36 = 255) ∧ (at1 bs 37 ≤ 15 ∨ at1 bs 37 = 255) := by
  simp only [readHeader, bind, Option.isSome_bind, Option.isSome_some, any_const, Bool.and_eq_true, readTiming_isSome,
    readStation_isSome, List.forall_mem_cons, Nat.zero_le, true_and, and_true, List.not_mem_nil, false_imp_iff,
    implies_true, and_assoc]

/-- What a timing setting is stored as, from the count at byte `i` and the unit after it. -/
def timingStored (bs : List Byte) (i : Nat) (dflt : Timing) (zeroOk : Bool) (t : Timing) : Prop :=
  if at1 bs (i + 1) = 255 then t = dflt
  else timeUnitOf (at1 bs (i + 1)) = some t.unit ∧ t.count = if at1 bs i = 0 ∧ zeroOk = false then 1 else at1 bs i

/-- A header record as stored, and whether a field of it was clamped. -/
theorem readHeader_value {bs : List Byte} {h : Header} {clamped : Bool} (hr : readHeader bs = some (h, clamped)) :
    h.planId = at2 bs 0 ∧ h.nodeCount = at2 bs 2 ∧ h.linkCount = at2 bs 4 ∧ h.zoneCount = at1 bs 6 ∧
      h.windowCount = at1 bs 7 ∧ h.exitCount = at1 bs 8 ∧ h.signCount = at1 bs 9 ∧
      timingStored bs 10 { count := 60, unit := .second } false h.suspect ∧
      timingStored bs 12 { count := 120, unit := .second } false h.clearHold ∧
      timingStored bs 14 { count := 10, unit := .second } false h.emphasis ∧
      timingStored bs 16 { count := 5, unit := .tenth } true h.refresh ∧
      timingStored bs 18 { count := 1, unit := .second } false h.advertise ∧
      timingStored bs 20 { count := 5, unit := .second } false h.ageLimit ∧
      timingStored bs 22 { count := 3, unit := .second } false h.silence ∧
      timingStored bs 24 { count := 2, unit := .tenth } false h.spacing ∧
      h.quietLevel = (quantityOr 255 8 0 15 (at1 bs 26)).1 ∧ h.alertLevel = (quantityOr 255 12 0 15 (at1 bs 27)).1 ∧
      h.activeLevel = (quantityOr 255 15 0 15 (at1 bs 28)).1 ∧
      h.margin = (quantityOr 65535 100 0 1023 (at2 bs 29)).1 ∧
      h.surcharge = (quantityOr 65535 600 0 4095 (at2 bs 31)).1 ∧
      h.replyWindow = (quantityOr 255 10 2 50 (at1 bs 33)).1 ∧
      h.missLimit = (quantityOr 255 3 1 7 (at1 bs 34)).1 ∧
      h.ownId = (if at1 bs 35 = 255 then 1 else at1 bs 35) ∧
      h.expectedA = (if at1 bs 36 = 255 then 0 else at1 bs 36) ∧
      h.expectedB = (if at1 bs 37 = 255 then 0 else at1 bs 37) ∧
      (clamped = true ↔
        (∃ i ∈ [10, 12, 14, 18, 20, 22, 24], at1 bs i = 0 ∧ at1 bs (i + 1) ≠ 255) ∨
        (∃ i ∈ [26, 27, 28], 15 < at1 bs i ∧ at1 bs i ≠ 255) ∨
        (1023 < at2 bs 29 ∧ at2 bs 29 ≠ 65535) ∨ (4095 < at2 bs 31 ∧ at2 bs 31 ≠ 65535) ∨
        ((at1 bs 33 < 2 ∨ 50 < at1 bs 33) ∧ at1 bs 33 ≠ 255) ∨
        ((at1 bs 34 < 1 ∨ 7 < at1 bs 34) ∧ at1 bs 34 ≠ 255)) := by
  simp only [readHeader, bind, Option.bind_eq_some_iff, Option.some.injEq, Prod.mk.injEq] at hr
  obtain ⟨suspect, h1, clearHold, h2, emphasis, h3, refresh, h4, advertise, h5, ageLimit, h6, silence, h7, spacing, h8,
    own, h9, expA, h10, expB, h11, rfl, rfl⟩ := hr
  refine ⟨rfl, rfl, rfl, rfl, rfl, rfl, rfl, readTiming_value h1, readTiming_value h2, readTiming_value h3,
    readTiming_value h4, readTiming_value h5, readTiming_value h6, readTiming_value h7, readTiming_value h8, rfl, rfl,
    rfl, rfl, rfl, rfl, rfl, readStation_value h9, readStation_value h10, readStation_value h11, ?_⟩
  simp only [Bool.or_eq_true, readTiming_clamped h1, readTiming_clamped h2, readTiming_clamped h3,
    readTiming_clamped h4, readTiming_clamped h5, readTiming_clamped h6, readTiming_clamped h7, readTiming_clamped h8,
    quantityOr_clamped, List.mem_cons, exists_eq_or_imp, exists_eq_left, List.not_mem_nil, false_and, or_false,
    Nat.not_lt_zero, false_or, true_and, Bool.true_eq_false, or_assoc, Nat.reduceAdd]

/-! ## The other records -/

theorem readNode_value (present l1 l2 : Byte) :
    readNode [present, l1, l2] = some ({ label := if present = 0 then none else some (num2 l1 l2) }, false) := by
  by_cases h : present = 0 <;> simp [readNode, looseFlag, at2, h]

theorem readWindow_value (b1 b2 s1 s2 z : Byte) :
    readWindow [b1, b2, s1, s2, z] =
      some ({ base := num2 b1 b2, size := (windowSize (num2 s1 s2)).1, zone := z.toNat },
        (windowSize (num2 s1 s2)).2) := rfl

section
variable (a1 a2 b1 b2 n1 n2 w z ps : Byte)

theorem readLink_none (h : 2 < ps.toNat) : readLink [a1, a2, b1, b2, n1, n2, w, z, ps] = none := by
  simp [readLink, at1, passageOf_none h]

theorem readLink_value {passage : Passage} (h : passageCode passage = ps.toNat) :
    readLink [a1, a2, b1, b2, n1, n2, w, z, ps] =
      some ({ a := num2 a1 a2, b := num2 b1 b2, len := clampTo 1 4095 (num2 n1 n2), width := clampTo 0 3 w.toNat
              zone := z.toNat, passage := passage },
        decide (num2 n1 n2 < 1 ∨ 4095 < num2 n1 n2 ∨ 3 < w.toNat)) := by
  simp only [readLink, at1, at2, bind, List.getD_cons_zero, List.getD_cons_succ, ← h, passageOf_code,
    Option.bind_some, quantity, outside]
  congr 2
  simp [Bool.or_assoc]

end

section
variable (latch sw mw cc : Byte)

theorem readZone_none (h : 1 < latch.toNat) (h' : latch ≠ 255) : readZone [latch, sw, mw, cc] = none := by
  have hn : latch.toNat ≠ 255 := fun e => h' (BitVec.eq_of_toNat_eq e)
  simp [readZone, at1, readLatch, hn, strictFlagOf_none h]

theorem readLatch_value (h : latch.toNat ≤ 1 ∨ latch = 255) : readLatch latch.toNat = some (decide (latch = 1)) := by
  have hcases : latch = 0 ∨ latch = 1 ∨ latch = 255 := by
    rcases h with h | h
    · have : latch.toNat = 0 ∨ latch.toNat = 1 := by omega
      exact this.imp (fun e => BitVec.eq_of_toNat_eq e) fun e => .inl (BitVec.eq_of_toNat_eq e)
    · exact .inr (.inr h)
  rcases hcases with rfl | rfl | rfl <;> rfl

theorem readZone_value (h : latch.toNat ≤ 1 ∨ latch = 255) :
    readZone [latch, sw, mw, cc] =
      some ({ latch := decide (latch = 1), suspectWeight := (quantityOr 255 1 0 15 sw.toNat).1
              smokeWeight := (quantityOr 255 8 1 15 mw.toNat).1, confirmCount := (quantityOr 255 3 1 7 cc.toNat).1 },
        decide ((15 < sw.toNat ∧ sw ≠ 255) ∨ ((mw.toNat < 1 ∨ 15 < mw.toNat) ∧ mw ≠ 255) ∨
          ((cc.toNat < 1 ∨ 7 < cc.toNat) ∧ cc ≠ 255))) := by
  have hmark : ((quantityOr 255 1 0 15 sw.toNat).2 || (quantityOr 255 8 1 15 mw.toNat).2 ||
      (quantityOr 255 3 1 7 cc.toNat).2) =
        decide ((15 < sw.toNat ∧ sw ≠ 255) ∨ ((mw.toNat < 1 ∨ 15 < mw.toNat) ∧ mw ≠ 255) ∨
          ((cc.toNat < 1 ∨ 7 < cc.toNat) ∧ cc ≠ 255)) := by
    rw [Bool.eq_iff_iff, decide_eq_true_iff]
    simp only [Bool.or_eq_true, quantityOr_clamped, Nat.not_lt_zero, false_or, ne_eq, toNat_eq_ones, or_assoc]
  rw [← hmark]
  simp [readZone, at1, readLatch_value latch h]

end

section
variable (n1 n2 kind b1 b2 st port remote c1 c2 : Byte)

theorem readExit_door_none (h : 1 < kind.toNat ∨ 2 < st.toNat) : readExit [n1, n2, kind, b1, b2, st] = none := by
  rcases h with h | h
  · have hk : at1 [n1, n2, kind, b1, b2, st] 2 = kind.toNat := rfl
    simp only [readExit, bind, Option.bind_eq_none_iff, hk]
    intro _ _
    split
    · omega
    · omega
    · rfl
  · simp [readExit, at1, exitStateOf_none h]

theorem readExit_portal_none (h : 2 < st.toNat ∨ 1 < port.toNat ∨ 31 < remote.toNat) :
    readExit [n1, n2, 1, b1, b2, st, port, remote, c1, c2] = none := by
  rcases h with h | h | h
  · simp [readExit, at1, exitStateOf_none h]
  · simp [readExit, at1, portOf_none h]
  · have hr : ¬ remote.toNat ≤ 31 := by omega
    simp [readExit, at1, hr]

theorem readExit_door_value {initial : ExitState} (h : exitStateCode initial = st.toNat) :
    readExit [n1, n2, 0, b1, b2, st] =
      some ({ node := num2 n1 n2, bias := clampTo 0 4095 (num2 b1 b2), initial := initial, portal := none },
        decide (4095 < num2 b1 b2)) := by
  simp [readExit, at1, at2, ← h, quantity, outside]

theorem readExit_portal_value {initial : ExitState} {side : PeerPort} (h : exitStateCode initial = st.toNat)
    (hp : portCode side = port.toNat) (hr : remote.toNat ≤ 31) :
    readExit [n1, n2, 1, b1, b2, st, port, remote, c1, c2] =
      some ({ node := num2 n1 n2, bias := clampTo 0 4095 (num2 b1 b2), initial := initial
              portal := some { port := side, remote := remote.toNat, crossing := clampTo 0 4095 (num2 c1 c2) } },
        decide (4095 < num2 b1 b2 ∨ 4095 < num2 c1 c2)) := by
  simp [readExit, at1, at2, ← h, ← hp, hr, quantity, outside]

end

/-! ## Sign records (R7) -/

/-- An arrow map's bytes. -/
def mapBytes (entries : List (Byte × Byte × Byte)) : List Byte := entries.flatMap fun e => [e.1, e.2.1, e.2.2]

theorem mapBytes_length (entries : List (Byte × Byte × Byte)) : (mapBytes entries).length = 3 * entries.length := by
  induction entries with
  | nil => rfl
  | cons e rest ih =>
    simp only [mapBytes, List.flatMap_cons, List.length_append, List.length_cons, List.length_nil] at ih ⊢
    omega

/-- A byte after a prefix. -/
theorem at1_after (pre rest : List Byte) (i : Nat) : at1 (pre ++ rest) (pre.length + i) = at1 rest i := by
  simp [at1, List.getElem?_append_right]

theorem at2_after (pre rest : List Byte) (i : Nat) : at2 (pre ++ rest) (pre.length + i) = at2 rest i := by
  simp [at2, List.getElem?_append_right, Nat.add_assoc]

/-- An arrow map with every direction in its range is read entry by entry. -/
theorem readMap_value (entries : List (Byte × Byte × Byte)) (h : ∀ e ∈ entries, e.2.2.toNat ≤ 7) (rest : List Byte) :
    ∀ pre : List Byte, readMap (pre ++ (mapBytes entries ++ rest)) pre.length entries.length =
      some (entries.map fun e => (num2 e.1 e.2.1, e.2.2.toNat)) := by
  induction entries with
  | nil => exact fun pre => rfl
  | cons e more ih =>
    intro pre
    obtain ⟨x, y, d⟩ := e
    have hd : d.toNat ≤ 7 := h _ List.mem_cons_self
    have hbytes : pre ++ (mapBytes ((x, y, d) :: more) ++ rest) = (pre ++ [x, y, d]) ++ (mapBytes more ++ rest) := by
      simp [mapBytes]
    have h2 : at1 (pre ++ (mapBytes ((x, y, d) :: more) ++ rest)) (pre.length + 2) = d.toNat := at1_after pre _ 2
    have h0 : at2 (pre ++ (mapBytes ((x, y, d) :: more) ++ rest)) pre.length = num2 x y := at2_after pre _ 0
    have hmore := ih (fun e he => h e (List.mem_cons_of_mem _ he)) (pre ++ [x, y, d])
    rw [← hbytes, List.length_append] at hmore
    simp only [List.length_cons, readMap, h2, h0, hd, if_true]
    simp only [List.length_cons, List.length_nil] at hmore
    simp [hmore]

/-- An arrow map with a direction above 7 is none. -/
theorem readMap_none (entries : List (Byte × Byte × Byte)) (h : ∃ e ∈ entries, 7 < e.2.2.toNat) (rest : List Byte) :
    ∀ pre : List Byte, readMap (pre ++ (mapBytes entries ++ rest)) pre.length entries.length = none := by
  induction entries with
  | nil => simp at h
  | cons e more ih =>
    intro pre
    obtain ⟨x, y, d⟩ := e
    have hbytes : pre ++ (mapBytes ((x, y, d) :: more) ++ rest) = (pre ++ [x, y, d]) ++ (mapBytes more ++ rest) := by
      simp [mapBytes]
    have h2 : at1 (pre ++ (mapBytes ((x, y, d) :: more) ++ rest)) (pre.length + 2) = d.toNat := at1_after pre _ 2
    simp only [List.length_cons, readMap, h2]
    split
    · rename_i hd
      have hex : ∃ e ∈ more, 7 < e.2.2.toNat := by
        obtain ⟨e, he, h7⟩ := h
        rcases List.mem_cons.1 he with rfl | he
        · exact absurd hd (Nat.not_le.2 h7)
        · exact ⟨e, he, h7⟩
      have hmore := ih hex (pre ++ [x, y, d])
      rw [← hbytes, List.length_append] at hmore
      simp only [List.length_cons, List.length_nil] at hmore
      simp [hmore]
    · rfl

section
variable (address n1 n2 : Byte) (entries : List (Byte × Byte × Byte)) (groups : List Byte)

/-- A sign record's bytes. -/
def signRecord : List Byte :=
  [address, n1, n2, byte1 entries.length] ++ (mapBytes entries ++ ([byte1 groups.length] ++ groups))

theorem byte1_toNat {n : Nat} (h : n ≤ 255) : (byte1 n).toNat = n := by
  simp [byte1]
  omega

theorem signRecord_mapLength (he : entries.length ≤ 8) :
    at1 (signRecord address n1 n2 entries groups) 3 = entries.length :=
  byte1_toNat (by omega)

/-- What stands in a sign record from its group length on. -/
theorem signRecord_at (i : Nat) :
    at1 (signRecord address n1 n2 entries groups) (4 + 3 * entries.length + i) =
      at1 ([byte1 groups.length] ++ groups) i := by
  have hsplit : signRecord address n1 n2 entries groups =
      ([address, n1, n2, byte1 entries.length] ++ mapBytes entries) ++ ([byte1 groups.length] ++ groups) := by
    simp [signRecord]
  have hlen : ([address, n1, n2, byte1 entries.length] ++ mapBytes entries).length = 4 + 3 * entries.length := by
    rw [List.length_append, mapBytes_length]
    simp
  rw [hsplit, ← hlen]
  exact at1_after _ _ i

theorem signRecord_groupLength (hg : groups.length ≤ 4) :
    at1 (signRecord address n1 n2 entries groups) (4 + 3 * entries.length) = groups.length :=
  (signRecord_at address n1 n2 entries groups 0).trans (byte1_toNat (by omega))

theorem signRecord_length :
    (signRecord address n1 n2 entries groups).length = 5 + 3 * entries.length + groups.length := by
  simp only [signRecord, List.length_append, mapBytes_length, List.length_cons, List.length_nil]
  omega

theorem readSign_none (he : entries.length ≤ 8) (h : ∃ e ∈ entries, 7 < e.2.2.toNat) :
    readSign (signRecord address n1 n2 entries groups) = none := by
  have hm : readMap (signRecord address n1 n2 entries groups) 4 entries.length = none :=
    readMap_none entries h _ [address, n1, n2, byte1 entries.length]
  simp [readSign, signRecord_mapLength, he, hm]

theorem readSign_value (he : entries.length ≤ 8) (hg : groups.length ≤ 4) (h : ∀ e ∈ entries, e.2.2.toNat ≤ 7) :
    readSign (signRecord address n1 n2 entries groups) =
      some ({ address := address.toNat, node := num2 n1 n2
              map := entries.map fun e => (num2 e.1 e.2.1, e.2.2.toNat), groups := groups.map (·.toNat) }, false) := by
  have hm : readMap (signRecord address n1 n2 entries groups) 4 entries.length = _ :=
    readMap_value entries h _ [address, n1, n2, byte1 entries.length]
  have hgroup (i : Nat) :
      at1 (signRecord address n1 n2 entries groups) (4 + 3 * entries.length + 1 + i) = at1 groups i := by
    rw [Nat.add_assoc _ 1 i, signRecord_at]
    exact at1_after [byte1 groups.length] groups i
  have hgroups : (List.range groups.length).map (at1 groups) = groups.map (·.toNat) :=
    List.ext_getElem (by simp) fun i _ h2 => by
      rw [List.length_map] at h2
      simp [at1, h2]
  have h0 : at1 (signRecord address n1 n2 entries groups) 0 = address.toNat := rfl
  have h1 : at2 (signRecord address n1 n2 entries groups) 1 = num2 n1 n2 := rfl
  simp only [readSign, signRecord_mapLength address n1 n2 entries groups he, hm,
    signRecord_groupLength address n1 n2 entries groups hg, hgroup, hgroups, h0, h1]

end

/-- Settles O28, record by record. -/
theorem quantities_are_clamped : Obligations.quantities_are_clamped := by
  refine ⟨fun n => windowSize_largest, rfl, fun n => windowSize_above, windowSize_clamped,
    fun bs => ⟨readHeader_isSome bs, fun h clamped hr => ?_⟩, readNode_value, fun a1 a2 b1 b2 n1 n2 w z ps => ⟨?_, ?_⟩,
    fun latch sw mw cc => ⟨readZone_none latch sw mw cc, fun h => ?_⟩, readWindow_value,
    fun n1 n2 kind b1 b2 st port remote c1 c2 => ⟨?_, ?_, ?_⟩, fun address n1 n2 entries groups he hg => ⟨?_, ?_⟩⟩
  · have hv := readHeader_value hr
    simp only [quantityOr_value (Nat.zero_le _), quantityOr_value (show 2 ≤ 50 by omega),
      quantityOr_value (show 1 ≤ 7 by omega)] at hv
    exact hv
  · exact readLink_none a1 a2 b1 b2 n1 n2 w z ps
  · intro passage hp
    rw [readLink_value a1 a2 b1 b2 n1 n2 w z ps hp, clampTo_eq (by omega), clampTo_eq (by omega)]
  · rw [readZone_value latch sw mw cc h, quantityOr_value (by omega), quantityOr_value (by omega),
      quantityOr_value (by omega)]
  · exact readExit_door_none n1 n2 kind b1 b2 st
  · rintro rfl
    exact readExit_portal_none n1 n2 b1 b2 st port remote c1 c2
  · intro initial hi
    refine ⟨?_, fun side => ?_⟩
    · rintro rfl
      rw [readExit_door_value n1 n2 b1 b2 st hi, clampTo_eq (by omega)]
    · rintro rfl hp hr
      rw [readExit_portal_value n1 n2 b1 b2 st port remote c1 c2 hi hp hr, clampTo_eq (by omega), clampTo_eq (by omega)]
  · intro h
    have := readSign_none address n1 n2 entries groups he h
    simpa [signRecord, mapBytes] using this
  · intro h
    have := readSign_value address n1 n2 entries groups he hg h
    simpa [signRecord, mapBytes] using this

end Sys2Proof.Machine
end

section
/-! SUPPORT. The end of a store, and the plan read back from its image (R20, R21): O33. -/

namespace Sys2Proof.Machine

/-! ## Numbers and fields read back from their bytes -/

theorem num2_byte2 {n : Nat} (h : n ≤ 65535) : num2 (byte1 (n / 256)) (byte1 n) = n := by
  simp only [num2, byte1, BitVec.toNat_ofNat]
  omega

theorem quantityOr_inRange {ones dflt lo hi n : Nat} (h1 : lo ≤ n) (h2 : n ≤ hi) (h3 : hi < ones) :
    quantityOr ones dflt lo hi n = (n, false) := by
  have hn : n ≠ ones := by omega
  have hc : clampTo lo hi n = n := by
    unfold clampTo
    omega
  have ho : outside lo hi n = false := by
    rw [outside, decide_eq_false_iff_not]
    omega
  simp [quantityOr, quantity, hn, hc, ho]

theorem clampTo_inRange {lo hi n : Nat} (h1 : lo ≤ n) (h2 : n ≤ hi) : clampTo lo hi n = n := by
  unfold clampTo
  omega

theorem windowSize_pow {k : Nat} (h : k ≤ 10) : (windowSize (2 ^ k)).1 = 2 ^ k := by
  have h1 : 2 ^ k ≤ 2 ^ 10 := Nat.pow_le_pow_right (by omega) h
  rw [windowSize_log2 Nat.one_le_two_pow h1, Nat.log2_two_pow]

/-- A quantity of one byte with a default. -/
theorem quantityOr_byte {dflt lo hi n : Nat} (h1 : lo ≤ n) (h2 : n ≤ hi) (h3 : hi < 255) :
    quantityOr 255 dflt lo hi (byte1 n).toNat = (n, false) := by
  rw [byte1_toNat (by omega)]
  exact quantityOr_inRange h1 h2 h3

/-- A quantity of two bytes with a default. -/
theorem quantityOr_bytes {dflt lo hi n : Nat} (h1 : lo ≤ n) (h2 : n ≤ hi) (h3 : hi < 65535) :
    quantityOr 65535 dflt lo hi (num2 (byte1 (n / 256)) (byte1 n)) = (n, false) := by
  rw [num2_byte2 (by omega)]
  exact quantityOr_inRange h1 h2 h3

theorem timeUnitCode_le (u : TimeUnit) : timeUnitCode u ≤ 3 := by cases u <;> decide

theorem readTiming_bytes {zeroOk : Bool} {t : Timing} (dflt : Timing) (h : TimingFits zeroOk t) :
    readTiming dflt zeroOk (byte1 t.count).toNat (byte1 (timeUnitCode t.unit)).toNat = some (t, false) := by
  obtain ⟨hcount, hzero⟩ := h
  have hu := timeUnitCode_le t.unit
  rw [byte1_toNat hcount, byte1_toNat (by omega)]
  have h255 : timeUnitCode t.unit ≠ 255 := by omega
  cases zeroOk with
  | true => simp [readTiming, h255]
  | false =>
    have hc : t.count ≠ 0 := by
      have := hzero rfl
      omega
    simp [readTiming, h255, hc]

theorem readStation_byte {dflt lo n : Nat} (h1 : lo ≤ n) (h2 : n ≤ 15) :
    readStation dflt lo (byte1 n).toNat = some n := by
  have hn : n ≠ 255 := by omega
  rw [byte1_toNat (by omega)]
  simp [readStation, hn, h1, h2]

/-! ## Each record -/

theorem readHeader_headerBytes {h : Header} (hf : HeaderFits h) : readHeader (headerBytes h) = some (h, false) := by
  obtain ⟨hid, ⟨hn, hl, hz, hw, he, hs⟩, ht, hr, ⟨hq, ha, hA⟩, hm, hsur, ⟨hw1, hw2⟩, ⟨hm1, hm2⟩, ho1, ho2, hea, heb⟩ := hf
  simp only [Config.maxNodes, Config.maxLinks, Config.maxZones, Config.maxWindows, Config.maxExits,
    Config.maxSigns] at hn hl hz hw he hs
  simp only [List.forall_mem_cons, List.not_mem_nil, false_imp_iff, implies_true, and_true] at ht
  obtain ⟨t1, t2, t3, t4, t5, t6, t7⟩ := ht
  simp only [readHeader, headerBytes, byte2, timingBytes, at1, at2, List.cons_append, List.nil_append,
    List.getD_cons_succ, List.getD_cons_zero, readTiming_bytes _ t1, readTiming_bytes _ t2, readTiming_bytes _ t3,
    readTiming_bytes _ t4, readTiming_bytes _ t5, readTiming_bytes _ t6, readTiming_bytes _ t7, readTiming_bytes _ hr,
    quantityOr_byte (Nat.zero_le _) hq (by omega), quantityOr_byte (Nat.zero_le _) ha (by omega),
    quantityOr_byte (Nat.zero_le _) hA (by omega), quantityOr_bytes (Nat.zero_le _) hm (by omega),
    quantityOr_bytes (Nat.zero_le _) hsur (by omega), quantityOr_byte hw1 hw2 (by omega),
    quantityOr_byte hm1 hm2 (by omega), readStation_byte ho1 ho2, readStation_byte (Nat.zero_le _) hea,
    readStation_byte (Nat.zero_le _) heb, bind, Option.bind_some, num2_byte2 hid,
    num2_byte2 (show h.nodeCount ≤ 65535 by omega), num2_byte2 (show h.linkCount ≤ 65535 by omega),
    byte1_toNat (show h.zoneCount ≤ 255 by omega), byte1_toNat (show h.windowCount ≤ 255 by omega),
    byte1_toNat (show h.exitCount ≤ 255 by omega), byte1_toNat (show h.signCount ≤ 255 by omega), Bool.or_false]

theorem readNode_nodeBytes {n : NodeRec} (h : ∀ l, n.label = some l → l ≤ 65535) :
    readNode (nodeBytes [onesByte, onesByte] n) = some (n, false) := by
  obtain ⟨label⟩ := n
  cases label with
  | none => exact readNode_value 0 onesByte onesByte
  | some l =>
    have := readNode_value 1 (byte1 (l / 256)) (byte1 l)
    rw [num2_byte2 (h l rfl)] at this
    exact this

theorem passageCode_le (x : Passage) : passageCode x ≤ 2 := by cases x <;> decide
theorem exitStateCode_le (x : ExitState) : exitStateCode x ≤ 2 := by cases x <;> decide
theorem portCode_le (x : PeerPort) : portCode x ≤ 1 := by cases x <;> decide

theorem readLink_linkBytes {l : LinkRec} (h : LinkFits l) : ∃ c, readLink (linkBytes l) = some (l, c) := by
  obtain ⟨ha, hb, hl1, hl2, hw, hz⟩ := h
  have hp := passageCode_le l.passage
  have := readLink_value (byte1 (l.a / 256)) (byte1 l.a) (byte1 (l.b / 256)) (byte1 l.b) (byte1 (l.len / 256))
    (byte1 l.len) (byte1 l.width) (byte1 l.zone) (byte1 (passageCode l.passage)) (byte1_toNat (by omega)).symm
  rw [num2_byte2 ha, num2_byte2 hb, num2_byte2 (by omega), byte1_toNat (by omega), byte1_toNat hz,
    clampTo_inRange hl1 hl2, clampTo_inRange (Nat.zero_le _) hw] at this
  exact ⟨_, this⟩

theorem readZone_zoneBytes {z : ZoneRec} (h : ZoneFits z) : ∃ c, readZone (zoneBytes z) = some (z, c) := by
  obtain ⟨hs, hm1, hm2, hc1, hc2⟩ := h
  have hflag : (flagByte z.latch).toNat ≤ 1 := by cases z.latch <;> decide
  have := readZone_value (flagByte z.latch) (byte1 z.suspectWeight) (byte1 z.smokeWeight) (byte1 z.confirmCount)
    (.inl hflag)
  have hlatch : decide (flagByte z.latch = 1) = z.latch := by cases z.latch <;> decide
  rw [quantityOr_byte (Nat.zero_le _) hs (by omega), quantityOr_byte hm1 hm2 (by omega),
    quantityOr_byte hc1 hc2 (by omega), hlatch] at this
  exact ⟨_, this⟩

theorem readWindow_windowBytes {w : WindowRec} (h : WindowFits w) : ∃ c, readWindow (windowBytes w) = some (w, c) := by
  obtain ⟨hb, ⟨k, hk, hsize⟩, hz⟩ := h
  have hp : 2 ^ k ≤ 2 ^ 10 := Nat.pow_le_pow_right (by omega) hk
  have := readWindow_value (byte1 (w.base / 256)) (byte1 w.base) (byte1 (w.size / 256)) (byte1 w.size) (byte1 w.zone)
  rw [num2_byte2 hb, num2_byte2 (by omega), byte1_toNat hz] at this
  have hstored : (windowSize w.size).1 = w.size := by rw [hsize, windowSize_pow hk]
  rw [hstored] at this
  exact ⟨_, this⟩

theorem readExit_exitBytes {e : ExitRec} (h : ExitFits e) : ∃ c, readExit (exitBytes e) = some (e, c) := by
  obtain ⟨node, bias, initial, portal⟩ := e
  obtain ⟨hn, hb, hp⟩ := h
  dsimp only at hn hb hp
  have hi := exitStateCode_le initial
  cases portal with
  | none =>
    have := readExit_door_value (byte1 (node / 256)) (byte1 node) (byte1 (bias / 256)) (byte1 bias)
      (byte1 (exitStateCode initial)) (byte1_toNat (by omega)).symm
    rw [num2_byte2 hn, num2_byte2 (by omega), clampTo_inRange (Nat.zero_le _) hb] at this
    exact ⟨_, this⟩
  | some f =>
    obtain ⟨hr, hc⟩ := hp f rfl
    have hport := portCode_le f.port
    have := readExit_portal_value (byte1 (node / 256)) (byte1 node) (byte1 (bias / 256)) (byte1 bias)
      (byte1 (exitStateCode initial)) (byte1 (portCode f.port)) (byte1 f.remote) (byte1 (f.crossing / 256))
      (byte1 f.crossing) (byte1_toNat (by omega)).symm (byte1_toNat (by omega)).symm
      (by rw [byte1_toNat (by omega)]; exact hr)
    rw [num2_byte2 hn, num2_byte2 (show bias ≤ 65535 by omega), num2_byte2 (show f.crossing ≤ 65535 by omega),
      clampTo_inRange (Nat.zero_le _) hb, clampTo_inRange (Nat.zero_le _) hc, byte1_toNat (by omega)] at this
    exact ⟨_, this⟩

/-- An arrow map's entries as the bytes of R190. -/
def mapEntries (map : List (Nat × Nat)) : List (Byte × Byte × Byte) :=
  map.map fun e => (byte1 (e.1 / 256), byte1 e.1, byte1 e.2)

theorem signBytes_eq (g : SignRec) :
    signBytes g = signRecord (byte1 g.address) (byte1 (g.node / 256)) (byte1 g.node) (mapEntries g.map)
      (g.groups.map byte1) := by
  simp [signBytes, signRecord, mapBytes, mapEntries, byte2, List.flatMap_map]

theorem readSign_signBytes {g : SignRec} (h : SignFits g) : readSign (signBytes g) = some (g, false) := by
  obtain ⟨ha, hn, hm1, hm2, hm, hg, hgroups⟩ := h
  rw [signBytes_eq, readSign_value _ _ _ _ _ (by simpa [mapEntries] using hm2) (by simpa using hg)]
  · have hmap : (mapEntries g.map).map (fun e => (num2 e.1 e.2.1, e.2.2.toNat)) = g.map := by
      rw [mapEntries, List.map_map]
      refine (List.map_congr_left fun e he => ?_).trans (List.map_id _)
      obtain ⟨h1, h2⟩ := hm e he
      simp [num2_byte2 h1, byte1_toNat (show e.2 ≤ 255 by omega)]
    have hgs : (g.groups.map byte1).map (·.toNat) = g.groups := by
      rw [List.map_map]
      exact (List.map_congr_left fun n hn => byte1_toNat (hgroups n hn)).trans (List.map_id _)
    rw [hmap, hgs, num2_byte2 hn, byte1_toNat ha]
  · intro e he
    obtain ⟨x, hx, rfl⟩ := List.mem_map.1 he
    obtain ⟨_, h2⟩ := hm x hx
    rw [byte1_toNat (by omega)]
    exact h2

/-! ## Each record's bytes are whole -/

theorem nodeBytes_whole (n : NodeRec) : recordWhole .nodes (nodeBytes [onesByte, onesByte] n) := by
  obtain ⟨_ | l⟩ := n <;> rfl

theorem exitBytes_whole (e : ExitRec) : recordWhole .exits (exitBytes e) := by
  obtain ⟨node, bias, initial, _ | f⟩ := e <;> rfl

theorem headerBytes_whole (h : Header) : recordWhole .header (headerBytes h) := by
  simp [recordWhole, headerBytes, byte2, timingBytes]

theorem linkBytes_whole (l : LinkRec) : recordWhole .links (linkBytes l) := rfl

theorem zoneBytes_whole (z : ZoneRec) : recordWhole .zones (zoneBytes z) := rfl

theorem windowBytes_whole (w : WindowRec) : recordWhole .windows (windowBytes w) := rfl

theorem signBytes_whole {g : SignRec} (h : SignFits g) : recordWhole .signs (signBytes g) := by
  obtain ⟨_, _, hm1, hm2, _, hg, _⟩ := h
  have hml : (mapEntries g.map).length = g.map.length := by simp [mapEntries]
  have hgl : (g.groups.map byte1).length = g.groups.length := by simp
  have h3 := signRecord_mapLength (byte1 g.address) (byte1 (g.node / 256)) (byte1 g.node) (mapEntries g.map)
    (g.groups.map byte1) (by omega)
  have h4 := signRecord_groupLength (byte1 g.address) (byte1 (g.node / 256)) (byte1 g.node) (mapEntries g.map)
    (g.groups.map byte1) (by omega)
  rw [signBytes_eq]
  rw [hml] at h3 h4
  simp only [recordWhole, h3, h4, signRecord_length, hml, hgl]
  exact ⟨hm1, hm2, hg, trivial⟩

/-! ## The image -/

/-- The records of a section are read back from the bytes they were written as. -/
theorem readSection_flatMap {α : Type} {sect : Section} {read : List Byte → Option (Stored α)} {enc : α → List Byte}
    (rest : List Byte) (xs : List α)
    (h : ∀ x ∈ xs, recordWhole sect (enc x) ∧ ∃ c, read (enc x) = some (x, c)) :
    readSection sect read xs.length (xs.flatMap enc ++ rest) = some (xs, rest) := by
  induction xs with
  | nil => rfl
  | cons x more ih =>
    obtain ⟨hw, c, hr⟩ := h x List.mem_cons_self
    have hmore := ih fun y hy => h y (List.mem_cons_of_mem _ hy)
    rw [List.flatMap_cons, List.append_assoc]
    simp only [List.length_cons, readSection, recordLength_whole _ hw, List.take_left, List.drop_left, hr, hmore]

/-- The image of a plan in its ranges is read as that plan. -/
theorem planOfImage_imageBytes {p : Plan} (h : PlanFits p) : planOfImage (imageBytes p) = some p := by
  obtain ⟨hh, ⟨ln, ll, lz, lw, le, ls⟩, hn, hl, hz, hw, he, hs⟩ := h
  have header (rest : List Byte) : readSection .header readHeader 1 (headerBytes p.header ++ rest) =
      some ([p.header], rest) := by
    have := readSection_flatMap rest [p.header] fun x hm => by
      rw [List.mem_singleton.1 hm]
      exact ⟨headerBytes_whole p.header, false, readHeader_headerBytes hh⟩
    rwa [List.flatMap_singleton] at this
  have nodes (rest : List Byte) := readSection_flatMap rest p.nodes fun n hm =>
    ⟨nodeBytes_whole n, false, readNode_nodeBytes (hn n hm)⟩
  have links (rest : List Byte) := readSection_flatMap rest p.links fun l hm =>
    ⟨linkBytes_whole l, readLink_linkBytes (hl l hm)⟩
  have zones (rest : List Byte) := readSection_flatMap rest p.zones fun z hm =>
    ⟨zoneBytes_whole z, readZone_zoneBytes (hz z hm)⟩
  have windows (rest : List Byte) := readSection_flatMap rest p.windows fun w hm =>
    ⟨windowBytes_whole w, readWindow_windowBytes (hw w hm)⟩
  have exits (rest : List Byte) := readSection_flatMap rest p.exits fun e hm =>
    ⟨exitBytes_whole e, readExit_exitBytes (he e hm)⟩
  have signs := readSection_flatMap [] p.signs fun g hm =>
    ⟨signBytes_whole (hs g hm), false, readSign_signBytes (hs g hm)⟩
  rw [ln] at nodes
  rw [ll] at links
  rw [lz] at zones
  rw [lw] at windows
  rw [le] at exits
  rw [ls, List.append_nil] at signs
  simp only [planOfImage, imageBytes, List.append_assoc, header, bind, Option.bind_some, List.head?_cons, nodes, links,
    zones, windows, exits, signs, List.isEmpty_nil, if_true]

/-! ## The end of a store (R20) -/

/-- The value of the image read back equals the stored one, which is the image's as written. -/
theorem storedMemory_matches (m : PlanMemory) (readBack : List Byte) :
    memoryMatches (storedMemory m readBack) = true ↔ crc16 readBack = crc16 m.image := by
  rw [memoryMatches_iff]
  simp only [storedMemory, Option.some.injEq]
  exact eq_comm

theorem exec_planStoreEnd {s : State} (hp : s.phase = .running) (readBack : List Byte) :
    exec (.planStoreEnd readBack) s = .next (endStore readBack s) := by
  simp [exec, execPlanStoreEnd, whenRunning, hp]

/-- Settles O33: the store's end by the image read back, and the image read back record by record. -/
theorem plan_store_end : Obligations.plan_store_end := by
  refine ⟨fun s readBack hp => ?_, fun p hf => ⟨rfl, planOfImage_imageBytes hf⟩⟩
  simp only [exec_planStoreEnd hp, endStore]
  refine ⟨fun hs hm => ?_, fun hs hm => ?_, fun hs => ?_⟩
  · rw [if_pos hs, if_pos ((storedMemory_matches _ _).2 hm)]
    rfl
  · rw [if_pos hs, if_neg (fun h => hm ((storedMemory_matches _ _).1 h))]
    rfl
  · rw [if_neg (by simp [hs])]

end Sys2Proof.Machine
end

section
/-! SUPPORT. PLAN ACTIVATE and the swap block by block (R16 to R20): O31, O32. -/

namespace Sys2Proof.Machine

/-! ## The swap with a request in hand -/

section
variable (r : Request) (s : State)

theorem onPort_inHand (port : PeerPort) (f : PortRec → PortRec) :
    (inHand r s).onPort port f = inHand r (s.onPort port f) := by
  cases port <;> rfl

theorem raiseIf_inHand (c : Bool) (body : NoticeBody) : raiseIf c body (inHand r s) = inHand r (raiseIf c body s) := by
  cases c
  · rfl
  · exact raise_inHand r s body

theorem raiseIf_waiting (c : Bool) (body : NoticeBody) : (raiseIf c body s).mp.waiting = s.mp.waiting := by
  cases c
  · rfl
  · exact raise_waiting s body

end

/-! ## A port at a swap

The portals of the new plan are all UNKNOWN, so a port that goes DOWN changes no advertisement: no solve is wanted by it
and PORTAL_CHANGE rises only for a port that was UP. -/

/-- No portal is LIVE. -/
def NoneLive (s : State) : Prop := ∀ r ∈ s.pp.portals, r.advertisement = none

/-- A port's record at a swap under which it stays in use. -/
def keptPort (s : State) (port : PeerPort) (r : PortRec) : PortRec :=
  { r with
    sendPending := false, sending := r.sending.map fun f => { f with former := true }
    advertise := if s.mark (portLine port) = .running then some (advertiseTicks s) else r.advertise }

/-- A port's record at a swap under which it falls out of use. -/
def closedPort (r : PortRec) : PortRec :=
  { r with
    sendPending := false, sending := r.sending.map fun f => { f with former := true }
    age := none, advertise := none, spacing := none, state := .down }

/-- The notices of a port that goes DOWN from a state while no portal is LIVE. -/
def downNotices (port : PeerPort) (old : PortState) (s : State) : State :=
  raiseIf (decide (old = .up)) (.portalChange port .down 0 none)
    (raiseIf (decide (old ≠ .down)) (.lineState (portNumber port) (.port .down) none) s)

theorem updatePortals_noAdvert {p : Option Plan} {port : PeerPort} {portals : List PortalRun}
    (h : ∀ r ∈ portals, r.advertisement = none) : updatePortals p port noAdvert portals = portals := by
  refine (List.map_congr_left fun r hr => ?_).trans (List.map_id _)
  obtain ⟨exit, advertisement, lastSent⟩ := r
  obtain rfl : advertisement = none := h _ hr
  cases p with
  | none => rfl
  | some plan => cases hp : portalOnPort plan exit port <;> simp [hp, noAdvert]

theorem changedExits_self (portals : List PortalRun) : changedExits portals portals = [] := by
  simp [changedExits, List.zip, List.zipWith_self]

theorem seedDataChanged_self (portals : List PortalRun) : seedDataChanged portals portals = false := by
  simp [seedDataChanged, List.zip, List.zipWith_self]

theorem liveOnPort_none {p : Option Plan} {port : PeerPort} {portals : List PortalRun}
    (h : ∀ r ∈ portals, r.advertisement = none) : liveOnPort p port portals = 0 := by
  cases p with
  | none => rfl
  | some plan => simpa [liveOnPort] using fun r hr _ => h r hr

theorem setPort_down {s : State} (port : PeerPort) (h : NoneLive s) :
    setPort port .down noAdvert s =
      downNotices port (portGet s.pp port).state (s.onPort port fun r => { r with state := .down }) := by
  simp only [setPort, updatePortals_noAdvert h, changedExits_self, seedDataChanged_self, liveOnPort_none h]
  cases port <;> simp [downNotices, wantSolveIf, State.onPort, portGet] <;> rfl

theorem swapPort_used {s : State} {port : PeerPort} (h : portInUse s port = true) :
    swapPort port s = s.onPort port (keptPort s port) := by
  rw [swapPort, if_pos h]
  by_cases hm : s.mark (portLine port) = .running <;> cases port <;> simp [hm, keptPort, State.onPort]

theorem swapPort_unused {s : State} {port : PeerPort} (h : portInUse s port = false) (hl : NoneLive s) :
    swapPort port s = downNotices port (portGet s.pp port).state (s.onPort port closedPort) := by
  rw [swapPort, if_neg (by simp [h]), setPort_down port (by cases port <;> exact hl)]
  cases port <;> rfl

section
variable {s : State}

theorem downNotices_inHand (r : Request) (port : PeerPort) (old : PortState) :
    downNotices port old (inHand r s) = inHand r (downNotices port old s) := by
  simp only [downNotices, raiseIf_inHand]

theorem swapPort_inHand (r : Request) (port : PeerPort) (hl : NoneLive s) :
    swapPort port (inHand r s) = inHand r (swapPort port s) := by
  cases h : portInUse s port with
  | true => rw [swapPort_used h, swapPort_used (s := inHand r s) h, ← onPort_inHand]; rfl
  | false =>
    rw [swapPort_unused h hl, swapPort_unused (s := inHand r s) h hl, ← downNotices_inHand, ← onPort_inHand]; rfl

theorem swapPort_waiting (port : PeerPort) (hl : NoneLive s) : (swapPort port s).mp.waiting = s.mp.waiting := by
  cases h : portInUse s port with
  | true => simp [swapPort_used h]
  | false => simp [swapPort_unused h hl, downNotices, raiseIf_waiting]

theorem swapPort_rsv (port : PeerPort) (hl : NoneLive s) : (swapPort port s).rsv = s.rsv := by
  cases h : portInUse s port with
  | true => simp [swapPort_used h]
  | false => simp [swapPort_unused h hl, downNotices]

theorem swapPort_pp (port : PeerPort) (hl : NoneLive s) :
    (swapPort port s).pp =
      (s.onPort port (if portInUse s port = true then keptPort s port else closedPort)).pp := by
  cases h : portInUse s port with
  | true => simp [swapPort_used h]
  | false => simp [swapPort_unused h hl, downNotices]

theorem noneLive_swapPort (port : PeerPort) (hl : NoneLive s) : NoneLive (swapPort port s) := by
  unfold NoneLive
  rw [swapPort_pp port hl]
  cases port <;> exact hl

end

/-! ## The two ports' notices -/

/-- A notice kind's record once its flag rises, or does not. -/
def risen (c : Bool) (event : NoticeEvent) (k : KindRec) : KindRec :=
  if c = true ∧ k.flag = false then { k with flag := true, event := some event } else k

theorem raiseIf_kinds (c : Bool) (body : NoticeBody) (s : State) :
    (raiseIf c body s).mp.kinds[body.kind.idx] = risen c ⟨body, s.zh.clock, s.tb.seconds⟩ s.mp.kinds[body.kind.idx] := by
  cases c
  · simp [raiseIf, risen]
  · show (raise body s).mp.kinds[body.kind.idx] = _
    rw [raise_kinds]
    simp [risen]

theorem raiseIf_other (c : Bool) (body : NoticeBody) (s : State) {k : NoticeKind} (h : k ≠ body.kind) :
    (raiseIf c body s).mp.kinds[k.idx] = s.mp.kinds[k.idx] := by
  cases c
  · rfl
  · exact raise_other body s k h

/-- Two rises of one kind, one for each port: the first that happens from clear is the one recorded. -/
theorem risen_ports (d : PeerPort → Bool) (event : PeerPort → NoticeEvent) (k : KindRec) :
    (∀ port, d port = true → (port = .b → ¬ d .a = true) →
      (risen (d .b) (event .b) (risen (d .a) (event .a) k)).flag = true ∧
      (k.flag = false → (risen (d .b) (event .b) (risen (d .a) (event .a) k)).event = some (event port))) ∧
    ((∀ port, ¬ d port = true) → risen (d .b) (event .b) (risen (d .a) (event .a) k) = k) := by
  refine ⟨fun port hd hb => ?_, fun h => by simp [risen, h .a, h .b]⟩
  cases hk : k.flag with
  | true => simp [risen, hk]
  | false =>
    cases port with
    | a => simp [risen, hk, hd]
    | b => simp [risen, hk, hd, hb rfl]

theorem risen_flag_eq (c : Bool) (event : NoticeEvent) (k : KindRec) : (risen c event k).flag = (c || k.flag) := by
  cases c <;> cases hk : k.flag <;> simp [risen, hk]

section
variable {s : State} (hl : NoneLive s) (port : PeerPort)
include hl

theorem swapPort_kinds (k : NoticeKind) :
    (swapPort port s).mp.kinds[k.idx] =
      (raiseIf (!portInUse s port && decide ((portGet s.pp port).state = .up)) (.portalChange port .down 0 none)
        (raiseIf (!portInUse s port && decide ((portGet s.pp port).state ≠ .down))
          (.lineState (portNumber port) (.port .down) none) s)).mp.kinds[k.idx] := by
  cases h : portInUse s port with
  | true => simp [swapPort_used h, raiseIf]
  | false =>
    rw [swapPort_unused h hl, downNotices]
    cases port <;> cases (portGet s.pp _).state <;> simp [raiseIf] <;> rfl

theorem swapPort_lineState :
    (swapPort port s).mp.kinds[NoticeKind.lineState.idx] =
      risen (!portInUse s port && decide ((portGet s.pp port).state ≠ .down))
        ⟨.lineState (portNumber port) (.port .down) none, s.zh.clock, s.tb.seconds⟩
        s.mp.kinds[NoticeKind.lineState.idx] := by
  rw [swapPort_kinds hl, raiseIf_other _ _ _ (by simp [NoticeBody.kind])]
  exact raiseIf_kinds _ _ _

theorem swapPort_portalChange :
    (swapPort port s).mp.kinds[NoticeKind.portalChange.idx] =
      risen (!portInUse s port && decide ((portGet s.pp port).state = .up))
        ⟨.portalChange port .down 0 none, s.zh.clock, s.tb.seconds⟩
        s.mp.kinds[NoticeKind.portalChange.idx] := by
  rw [swapPort_kinds hl]
  refine (raiseIf_kinds _ _ _).trans ?_
  simp only [NoticeBody.kind, raiseIf_zh, raiseIf_tb]
  rw [raiseIf_other _ _ _ (by simp [NoticeBody.kind])]

theorem swapPort_otherKinds {k : NoticeKind} (h1 : k ≠ .lineState) (h2 : k ≠ .portalChange) :
    (swapPort port s).mp.kinds[k.idx] = s.mp.kinds[k.idx] := by
  rw [swapPort_kinds hl, raiseIf_other _ _ _ h2, raiseIf_other _ _ _ h1]

end

/-! ## The evacuation state at a swap (R18) -/

section
variable (s : State)

theorem evacAfterSwap_zh : (evacAfterSwap s).zh =
    { s.zh with evac := if s.zh.evac = .active then .active else derivedEvac s.zh.zones } := by
  unfold evacAfterSwap
  split
  · next h => rw [← h]
  · by_cases h : s.zh.evac = derivedEvac s.zh.zones
    · rw [setEvac_same _ _ _ h, ← h]
    · rw [setEvac_diff _ _ _ h, raise_zh]

theorem evacAfterSwap_otherKinds {k : NoticeKind} (h : k ≠ .evacState) :
    (evacAfterSwap s).mp.kinds[k.idx] = s.mp.kinds[k.idx] := by
  unfold evacAfterSwap
  split
  · rfl
  · by_cases he : s.zh.evac = derivedEvac s.zh.zones
    · rw [setEvac_same _ _ _ he]
    · rw [setEvac_diff _ _ _ he, raise_other _ _ _ h]

theorem evacAfterSwap_changed (h : (evacAfterSwap s).zh.evac ≠ s.zh.evac) :
    evacAfterSwap s = raise (.evacState s.zh.evac (evacAfterSwap s).zh.evac s.zh.declaration .plan)
      { s with zh := (evacAfterSwap s).zh } := by
  rw [evacAfterSwap_zh] at h ⊢
  by_cases ha : s.zh.evac = .active
  · simp [ha] at h
  · simp only [ha, if_false] at h ⊢
    rw [evacAfterSwap, if_neg ha, setEvac_diff _ _ _ h.symm]

theorem evacAfterSwap_inHand (r : Request) : evacAfterSwap (inHand r s) = inHand r (evacAfterSwap s) := by
  unfold evacAfterSwap
  rw [setEvac_inHand]
  exact (apply_ite (inHand r) _ _ _).symm

theorem evacAfterSwap_waiting : (evacAfterSwap s).mp.waiting = s.mp.waiting := by
  unfold evacAfterSwap
  split
  · rfl
  · exact setEvac_waiting _ _ _

end

/-! ## The swap in its order: PLAN_EVENT, the blocks, the evacuation state, the ports -/

/-- The state once PLAN_EVENT has risen and the blocks but for the evacuation state and the ports are carried over. -/
def swapBlocks (p : Plan) (s : State) : State :=
  let s1 := raise (.planEvent .activated p.header.planId none) { s with ps := swapStore p s.ps }
  { s1 with rsv := swapSolver p s1.rsv, zh := carryHazard p s1.zh, di := carryIntake p s1.di
            slc := swapSigns s.ps.active p s1.slc }

/-- The state before its ports are looked at. -/
def swapBeforePorts (p : Plan) (s : State) : State :=
  let s1 := evacAfterSwap (swapBlocks p s)
  { s1 with pp := { s1.pp with portals := newPortals p } }

theorem swapTo_eq (p : Plan) (s : State) : swapTo p s = swapPort .b (swapPort .a (swapBeforePorts p s)) := rfl

section
variable (p : Plan) (s : State)

theorem noneLive_swapBeforePorts : NoneLive (swapBeforePorts p s) := fun r hr => (newPortals_unknown p r hr).1

theorem swapBlocks_inHand (r : Request) : swapBlocks p (inHand r s) = inHand r (swapBlocks p s) := by
  unfold swapBlocks
  dsimp only
  rw [show ({ inHand r s with ps := swapStore p (inHand r s).ps } : State) =
    inHand r { s with ps := swapStore p s.ps } from rfl, raise_inHand]
  rfl

theorem swapTo_inHand (r : Request) : swapTo p (inHand r s) = inHand r (swapTo p s) := by
  have hb : swapBeforePorts p (inHand r s) = inHand r (swapBeforePorts p s) := by
    unfold swapBeforePorts
    rw [swapBlocks_inHand, evacAfterSwap_inHand]
    rfl
  have hl := noneLive_swapBeforePorts p s
  rw [swapTo_eq, swapTo_eq, hb, swapPort_inHand r .a hl, swapPort_inHand r .b (noneLive_swapPort .a hl)]

theorem swapTo_waiting : (swapTo p s).mp.waiting = s.mp.waiting := by
  have hl := noneLive_swapBeforePorts p s
  rw [swapTo_eq, swapPort_waiting _ (noneLive_swapPort .a hl), swapPort_waiting _ hl]
  exact (evacAfterSwap_waiting _).trans (raise_waiting _ _)

theorem swapTo_rsv : (swapTo p s).rsv = swapSolver p s.rsv := by
  have hl := noneLive_swapBeforePorts p s
  rw [swapTo_eq, swapPort_rsv _ (noneLive_swapPort .a hl), swapPort_rsv _ hl]
  exact evacAfterSwap_rsv _

theorem swapTo_zh : (swapTo p s).zh =
    { carryHazard p s.zh with
      evac := if s.zh.evac = .active then .active else derivedEvac (carriedZones s.zh.zones p) } := by
  rw [swapTo_eq, swapPort_zh, swapPort_zh]
  exact evacAfterSwap_zh _

end

/-! ## PLAN ACTIVATE (R16) -/

/-- Settles O31, by the stage and the solver. -/
theorem plan_activate : Obligations.plan_activate := by
  intro tag s hs
  obtain ⟨_, _, hw, _, _⟩ := id hs
  refine ⟨fun hst => ?_, fun hst hr => ?_, fun p hst hr hp => ⟨?_, ?_, ?_, ?_, ?_⟩⟩
  · exact turnedAway_of _ _ rfl hs (if_neg hst)
  · refine answers_of _ _ s _ _ _ rfl hs hw ((if_pos hst).trans ?_)
    simp only [setStaging, inHand, hr]
    rfl
  · refine answers_of _ _ s _ _ _ rfl hs ((swapTo_waiting _ _).trans hw) ((if_pos hst).trans ?_)
    rw [← swapTo_inHand]
    simp only [setStaging, inHand, hr, swap]
    rw [show stagedPlan { s.ps.staging with stage := .activating } = some p from hp]
    rfl
  all_goals simp [swapStore, swapTo_rsv, swapSolver]

/-! ## The blocks after a swap (R18, R19, R124, R128, R148) -/

theorem carriedZones_getElem? (old : List ZoneRun) (p : Plan) (i : Nat) :
    (carriedZones old p)[i]? = p.zones[i]?.map (carriedZone old[i]?) := by
  rw [carriedZones, List.getElem?_map, List.getElem?_zipIdx, Option.map_map]
  simp [Function.comp_def]

theorem carriedDetector_eq_some (p : Plan) (d old : Nat × DetectorRec) :
    carriedDetector p old = some d ↔
      ∃ z, decodeZone p old.1 = some z ∧ z < p.header.zoneCount ∧ d = (old.1, { old.2 with zone := z }) := by
  unfold carriedDetector
  cases decodeZone p old.1 with
  | none => simp
  | some z =>
    by_cases hz : z < p.header.zoneCount
    · simp [hz, eq_comm]
    · simp [hz]

/-- The detector table keeps its addresses in their order. -/
theorem carriedDetectors_sublist (p : Plan) (ds : Slots DetectorRec) :
    ((ds.filterMap (carriedDetector p)).map (·.1)).Sublist (ds.map (·.1)) := by
  induction ds with
  | nil => exact .slnil
  | cons d ds ih =>
    cases hd : carriedDetector p d with
    | none => simpa [List.filterMap_cons, hd] using ih.cons _
    | some e =>
      obtain ⟨z, _, _, rfl⟩ := (carriedDetector_eq_some p e d).1 hd
      simpa [List.filterMap_cons, hd] using ih

theorem mem_insertAddress (a b : Nat) (q : List Nat) : a ∈ insertAddress b q ↔ a = b ∨ a ∈ q := by
  induction q with
  | nil => simp [insertAddress]
  | cons c q ih =>
    unfold insertAddress
    split
    · simp
    · split
      · next h => subst h; simp
      · simp [ih, or_left_comm]

theorem mem_foldl_insertAddress (a : Nat) (bs q : List Nat) :
    a ∈ bs.foldl (fun q b => insertAddress b q) q ↔ a ∈ bs ∨ a ∈ q := by
  induction bs generalizing q with
  | nil => simp
  | cons b bs ih => simp [ih, mem_insertAddress, or_assoc, or_left_comm]

/-- The addresses queued for removal: those queued and those of the plan replaced, less those of the new plan. -/
theorem mem_removalAfter (old : Option Plan) (p : Plan) (queue : List Nat) (a : Nat) :
    a ∈ removalAfter old p queue ↔
      (a ∈ queue ∨ ∃ o, old = some o ∧ ∃ g ∈ o.signs, g.address = a) ∧ ¬ ∃ g ∈ p.signs, g.address = a := by
  cases old <;> simp [removalAfter, mem_foldl_insertAddress, or_comm]

theorem formerTarget_other (old : Option Plan) (signs : List SignRun) {t : Target} (h : ∀ i, t ≠ .sign i) :
    formerTarget old signs t = t := by
  cases t with
  | sign i => exact absurd rfl (h i)
  | _ => rfl

section
variable (p : Plan) (s : State)

theorem swapTo_portals : (swapTo p s).pp.portals = newPortals p := by
  have hl := noneLive_swapBeforePorts p s
  rw [swapTo_eq, swapPort_pp _ (noneLive_swapPort .a hl)]
  show (swapPort .a _).pp.portals = _
  rw [swapPort_pp _ hl]
  rfl

theorem portInUse_swapped {s : State} (h : s.ps.active = some p) (port : PeerPort) :
    portInUse s port = decide (expectedId p.header port ≠ 0) := by
  simp [portInUse, h]

theorem swapBeforePorts_active : (swapBeforePorts p s).ps.active = some p := by
  show (evacAfterSwap (swapBlocks p s)).ps.active = _
  rw [evacAfterSwap_ps]
  rfl

theorem swapBeforePorts_lines : (swapBeforePorts p s).lines = s.lines := evacAfterSwap_lines _

theorem swapBeforePorts_tb : (swapBeforePorts p s).tb = s.tb := evacAfterSwap_tb _

theorem swapBeforePorts_clock : (swapBeforePorts p s).zh.clock = s.zh.clock := by
  show (evacAfterSwap (swapBlocks p s)).zh.clock = _
  rw [evacAfterSwap_zh]
  rfl

theorem swapBeforePorts_port (port : PeerPort) : portGet (swapBeforePorts p s).pp port = portGet s.pp port := by
  have : (evacAfterSwap (swapBlocks p s)).pp = s.pp := evacAfterSwap_pp _
  cases port with
  | a => exact congrArg (·.a) this
  | b => exact congrArg (·.b) this

/-- The record of a port after a swap, by whether the plan has it in use. -/
theorem swapTo_port (port : PeerPort) : portGet (swapTo p s).pp port =
    if expectedId p.header port = 0 then closedPort (portGet s.pp port)
    else keptPort (swapBeforePorts p s) port (portGet s.pp port) := by
  have hl := noneLive_swapBeforePorts p s
  have hu := portInUse_swapped p (swapBeforePorts_active p s)
  have hu' := portInUse_swapped p (s := swapPort .a (swapBeforePorts p s))
    (by rw [swapPort_ps]; exact swapBeforePorts_active p s)
  rw [swapTo_eq, swapPort_pp _ (noneLive_swapPort .a hl), hu']
  cases port with
  | a =>
    show (swapPort .a _).pp.a = _
    rw [swapPort_pp _ hl, hu, ← swapBeforePorts_port p s]
    by_cases h : expectedId p.header .a = 0 <;> simp [h, State.onPort, portGet]
  | b =>
    have hb : (swapPort .a (swapBeforePorts p s)).pp.b = (swapBeforePorts p s).pp.b := by
      rw [swapPort_pp _ hl]; rfl
    have hk : keptPort (swapPort .a (swapBeforePorts p s)) .b = keptPort (swapBeforePorts p s) .b := by
      unfold keptPort State.mark advertiseTicks
      rw [swapPort_lines, swapPort_ps]
    rw [← swapBeforePorts_port p s]
    by_cases h : expectedId p.header .b = 0 <;> simp [h, State.onPort, portGet, hb, hk]

/-- The port's record as the swap finds it, after port A. -/
theorem swapPort_a_port (port : PeerPort) (h : port ≠ .a) :
    portGet (swapPort .a (swapBeforePorts p s)).pp port = portGet s.pp port := by
  cases port with
  | a => exact absurd rfl h
  | b =>
    rw [swapPort_pp _ (noneLive_swapBeforePorts p s), ← swapBeforePorts_port p s]
    rfl

/-- A port goes DOWN at the swap. -/
def downedAt (p : Plan) (s : State) (port : PeerPort) : Bool :=
  decide (expectedId p.header port = 0 ∧ (portGet s.pp port).state ≠ .down)

/-- A port leaves UP at the swap. -/
def leftAt (p : Plan) (s : State) (port : PeerPort) : Bool :=
  decide (expectedId p.header port = 0 ∧ (portGet s.pp port).state = .up)

/-- Before the ports are looked at the rises are PLAN_EVENT and, at a change, EVAC_STATE. -/
theorem swapBeforePorts_kinds {k : NoticeKind} (h1 : k ≠ .planEvent) (h2 : k ≠ .evacState) :
    (swapBeforePorts p s).mp.kinds[k.idx] = s.mp.kinds[k.idx] :=
  (evacAfterSwap_otherKinds _ h2).trans (raise_other _ _ _ h1)

/-- The ports touch no kind but LINE_STATE and PORTAL_CHANGE. -/
theorem swapTo_otherKinds {k : NoticeKind} (h1 : k ≠ .lineState) (h2 : k ≠ .portalChange) :
    (swapTo p s).mp.kinds[k.idx] = (evacAfterSwap (swapBlocks p s)).mp.kinds[k.idx] := by
  have hl := noneLive_swapBeforePorts p s
  rw [swapTo_eq, swapPort_otherKinds (noneLive_swapPort .a hl) _ h1 h2, swapPort_otherKinds hl _ h1 h2]
  rfl

theorem swapTo_lineState :
    (swapTo p s).mp.kinds[NoticeKind.lineState.idx] =
      risen (downedAt p s .b) ⟨.lineState (portNumber .b) (.port .down) none, s.zh.clock, s.tb.seconds⟩
        (risen (downedAt p s .a) ⟨.lineState (portNumber .a) (.port .down) none, s.zh.clock, s.tb.seconds⟩
          s.mp.kinds[NoticeKind.lineState.idx]) := by
  have hl := noneLive_swapBeforePorts p s
  have hu := portInUse_swapped p (swapBeforePorts_active p s)
  have hu' := portInUse_swapped p (s := swapPort .a (swapBeforePorts p s))
    (by rw [swapPort_ps]; exact swapBeforePorts_active p s)
  rw [swapTo_eq, swapPort_lineState (noneLive_swapPort .a hl), swapPort_lineState hl, hu, hu', swapPort_zh, swapPort_tb,
    swapBeforePorts_clock, swapBeforePorts_tb, swapPort_a_port p s .b (by decide), swapBeforePorts_port,
    swapBeforePorts_kinds p s (by decide) (by decide)]
  simp [downedAt]

theorem swapTo_lineState_flag {port : PeerPort} (hu : expectedId p.header port = 0)
    (hd : (portGet s.pp port).state ≠ .down) : (swapTo p s).mp.kinds[NoticeKind.lineState.idx].flag = true := by
  have hd : downedAt p s port = true := by simp [downedAt, hu, hd]
  rw [swapTo_lineState, risen_flag_eq, risen_flag_eq]
  cases port <;> simp [hd]

theorem swapTo_portalChange :
    (swapTo p s).mp.kinds[NoticeKind.portalChange.idx] =
      risen (leftAt p s .b) ⟨.portalChange .b .down 0 none, s.zh.clock, s.tb.seconds⟩
        (risen (leftAt p s .a) ⟨.portalChange .a .down 0 none, s.zh.clock, s.tb.seconds⟩
          s.mp.kinds[NoticeKind.portalChange.idx]) := by
  have hl := noneLive_swapBeforePorts p s
  have hu := portInUse_swapped p (swapBeforePorts_active p s)
  have hu' := portInUse_swapped p (s := swapPort .a (swapBeforePorts p s))
    (by rw [swapPort_ps]; exact swapBeforePorts_active p s)
  rw [swapTo_eq, swapPort_portalChange (noneLive_swapPort .a hl), swapPort_portalChange hl, hu, hu', swapPort_zh,
    swapPort_tb, swapBeforePorts_clock, swapBeforePorts_tb, swapPort_a_port p s .b (by decide), swapBeforePorts_port,
    swapBeforePorts_kinds p s (by decide) (by decide)]
  simp [leftAt]

theorem swapTo_planEvent :
    (swapTo p s).mp.kinds[NoticeKind.planEvent.idx] =
      (raise (.planEvent .activated p.header.planId none) s).mp.kinds[NoticeKind.planEvent.idx] := by
  rw [swapTo_otherKinds p s (by decide) (by decide), evacAfterSwap_otherKinds _ (by decide)]
  rfl

/-- EVAC_STATE rises at a change of the evacuation state, and records what it was and what it becomes. -/
theorem swapTo_evacState (h : (swapTo p s).zh.evac ≠ s.zh.evac) :
    (swapTo p s).mp.kinds[NoticeKind.evacState.idx].flag = true ∧
      (s.mp.kinds[NoticeKind.evacState.idx].flag = false →
        (swapTo p s).mp.kinds[NoticeKind.evacState.idx].event =
          some ⟨.evacState s.zh.evac (swapTo p s).zh.evac s.zh.declaration .plan, s.zh.clock, s.tb.seconds⟩) := by
  have hzh : (evacAfterSwap (swapBlocks p s)).zh.evac = (swapTo p s).zh.evac := by rw [evacAfterSwap_zh, swapTo_zh]; rfl
  have hc : (evacAfterSwap (swapBlocks p s)).zh.clock = s.zh.clock := by rw [evacAfterSwap_zh]; rfl
  have hchanged := evacAfterSwap_changed (swapBlocks p s) (by rw [hzh]; exact h)
  rw [hzh] at hchanged
  have hk : (swapBlocks p s).mp.kinds[NoticeKind.evacState.idx] = s.mp.kinds[NoticeKind.evacState.idx] :=
    raise_other _ _ _ (by simp [NoticeBody.kind])
  rw [swapTo_otherKinds p s (by decide) (by decide), hchanged]
  refine ⟨raise_flag _ _, fun hf => ?_⟩
  refine (raise_event _ _ ((congrArg (·.flag) hk).trans hf)).trans ?_
  rw [hc]
  rfl

end

/-- Settles O32, block by block. -/
theorem swap_block_by_block : Obligations.swap_block_by_block := by
  intro p s t decoded
  have hrsv : t.rsv = swapSolver p s.rsv := swapTo_rsv p s
  have hzh := swapTo_zh p s
  have hslc : t.slc = swapSigns s.ps.active p s.slc := swapTo_slc s p
  have hzones : t.zh.zones = carriedZones s.zh.zones p := by rw [hzh]; rfl
  have hevac : t.zh.evac = if s.zh.evac = .active then .active else derivedEvac t.zh.zones := by rw [hzones, hzh]
  have hport := swapTo_port p s
  have hlines := risen_ports (downedAt p s)
    (fun port => ⟨.lineState (portNumber port) (.port .down) none, s.zh.clock, s.tb.seconds⟩)
    s.mp.kinds[NoticeKind.lineState.idx]
  have hportals := risen_ports (leftAt p s) (fun port => ⟨.portalChange port .down 0 none, s.zh.clock, s.tb.seconds⟩)
    s.mp.kinds[NoticeKind.portalChange.idx]
  rw [← swapTo_lineState] at hlines
  rw [← swapTo_portalChange] at hportals
  simp only [downedAt, decide_eq_true_eq] at hlines
  simp only [leftAt, decide_eq_true_eq] at hportals
  obtain ⟨hlines, hlinesKept⟩ := hlines
  obtain ⟨hportals, hportalsKept⟩ := hportals
  have hpe : t.mp.kinds[NoticeKind.planEvent.idx] = _ := swapTo_planEvent p s
  refine ⟨swapTo_ps s p, ?_, ?_, ?_, ?_, ?_, ?_, ?_, ?_, ?_, ?_, fun i z old hz ho => ?_, fun i z hz ho => ?_, ?_, ?_,
    fun h => ?_, fun h => ?_, swapTo_di s p, ?_, fun d => ?_, ?_, ?_, ?_, ?_, ?_, ?_, ?_, ?_, ?_, ?_, fun h => ?_,
    fun e he => ⟨formerTarget s.ps.active s.slc.signs e.target, ?_, fun i g old ht hg ho => ?_, fun h => ?_⟩,
    fun a => ?_, ?_, ?_, fun port => ?_, ⟨hlines, hportals, hlinesKept, hportalsKept⟩, ?_, fun h => ?_,
    swapTo_evacState p s, swapTo_fc s p, swapTo_tb s p, swapTo_lines s p⟩
  iterate 7
    · rw [hrsv]; rfl
  · rw [hrsv]; exact List.length_replicate ..
  · rw [hrsv]
    intro w hw
    rw [List.eq_of_mem_replicate hw]
    exact ⟨rfl, rfl⟩
  · rw [hzones]; simp [carriedZones]
  · rw [hzones, carriedZones_getElem?, hz, ho]; rfl
  · rw [hzones, carriedZones_getElem?, hz, ho]; rfl
  · rw [hzh]; rfl
  · rw [hzh]; rfl
  · rw [hevac, if_pos h]
  · rw [hevac, if_neg h]
  · rw [hzh]; rfl
  · rw [hzh]
    simp only [carryHazard, List.mem_filterMap, carriedDetector_eq_some]
  · rw [hzh]; exact carriedDetectors_sublist p _
  iterate 9
    · rw [hslc]; rfl
  · rw [hslc]; simp [swapSigns, h]
  · rw [hslc]; simp [swapSigns, he]
  · simp [formerTarget, ht, hg, ho]
  · exact formerTarget_other _ _ h
  · rw [hslc]; exact mem_removalAfter _ p _ a
  · rw [swapTo_portals]; exact newPortals_unknown p
  · rw [swapTo_portals]; exact newPortals_exits p
  · have hmark : (swapBeforePorts p s).mark (portLine port) = s.mark (portLine port) := by
      unfold State.mark; rw [swapBeforePorts_lines]
    rw [hport]
    by_cases hu : expectedId p.header port = 0
    · rw [if_pos hu]
      refine ⟨rfl, rfl, rfl, rfl, fun _ => ⟨rfl, rfl, rfl, rfl, fun hd => ?_⟩, fun h => absurd hu h⟩
      exact swapTo_lineState_flag p s hu hd
    · rw [if_neg hu]
      refine ⟨rfl, rfl, rfl, rfl, fun h => absurd h hu, fun _ => ⟨rfl, rfl, rfl, fun hm => ?_⟩⟩
      rw [keptPort, hmark, if_pos hm, advertiseTicks, swapBeforePorts_active]
  · rw [hpe]; exact raise_flag _ _
  · rw [hpe]; exact raise_event _ _ h

end Sys2Proof.Machine
end

section
/-! SUPPORT. The requests that read: every byte of the replies to IDENTIFY, STATUS, FAULT READ and COUNTER READ (R160,
R161, R177, R178, R188, R189): O34. -/

namespace Sys2Proof.Machine

/-! ## Values that may be absent, in bytes (R186) -/

theorem optByte1_eq (o : Option Nat) : optByte1 o = o.elim 0xFF byte1 := by cases o <;> rfl

theorem presentByte2_eq (free : Nat) (o : Option Nat) :
    presentByte2 free o = o.elim (0 :: freeBytes free 2) (fun n => 1 :: byte2 n) := by cases o <;> rfl

theorem presentByte1_eq (free : Nat) (o : Option Nat) :
    presentByte1 free o = o.elim (0 :: freeBytes free 1) (fun n => [1, byte1 n]) := by cases o <;> rfl

theorem failureBytes_eq (o : Option FailureReport) :
    failureBytes o = o.elim [0, 0xFF, 0xFF, 0xFF]
      (fun f => [byte1 (checkReasonCode f.reason), byte1 (sectionCode f.sect)] ++ byte2 f.index) := by cases o <;> rfl

theorem reportBytes_eq (o : Option SolveReport) :
    reportBytes o = o.elim [0xFF, 0xFF, 0xFF] (fun r => byte2 r.passes ++ [flagByte r.limited]) := by cases o <;> rfl

theorem adoptedEpoch_elim {α : Type} (s : State) (d : α) (f : Nat → α) :
    (adoptedEpoch s).elim d f = s.slc.adopted.elim d (fun a => f a.epoch) := by
  unfold adoptedEpoch
  cases s.slc.adopted <;> rfl

theorem recordKindBytes_eq (o : Option FaultRecord) :
    recordKindBytes o = o.elim [0xFF, 0xFF]
      (fun r => [byte1 r.kind.idx.val, byte1 (faultClassCode (faultClassOf r.kind))]) := by cases o <;> rfl

theorem ownStation_byte (s : State) : optByte1 (ownStation s) =
    (s.ps.active.map fun p => p.header.ownId).elim 0xFF byte1 := optByte1_eq _

/-- The fields of FAULT READ, its record valid or not. -/
theorem faultFields_eq (s : State) : faultFields s =
    [flagByte s.fc.record.isSome] ++
      s.fc.record.elim ([0xFF, 0xFF, 0xFF, 0xFF] ++ freeBytes s.free 4)
        (fun r => [byte1 r.kind.idx.val, byte1 (faultClassCode (faultClassOf r.kind))] ++ byte2 r.subject ++
          byte4 r.time) ++
      [flagByte s.fc.multipleMinor, flagByte s.fc.multipleMajor, flagByte s.fc.ignoreMinor] ++
      s.fc.tallies.toList.map byte1 := by
  cases h : s.fc.record with
  | none => simp [faultFields, h, recordKindBytes, onesByte]
  | some r => simp [faultFields, h, recordKindBytes]

/-! ## The requests that read change nothing -/

/-- The kinds of the requests that read. -/
def readingKinds : List Byte := [0x01, 0x02, 0x08, 0x0F, 0x10, 0x11, 0x12, 0x13, 0x16, 0x19]

theorem performKind_reading {k : Byte} (h : k ∈ readingKinds) (f : List Byte) (s : State) :
    (performKind k.toNat f s).state = s := by
  simp only [readingKinds, List.mem_cons, List.not_mem_nil, or_false] at h
  rcases h with rfl | rfl | rfl | rfl | rfl | rfl | rfl | rfl | rfl | rfl
  exacts [answerIdentify_state s f, answerStatus_state s f, answerPlanRead_state s f, answerNodeQuery_state s f,
    answerSignQuery_state s f, answerZoneQuery_state s f, answerDetectorQuery_state s f, answerPortalQuery_state s f,
    answerFaultRead_state s f, answerCounterRead_state s f]

/-- A request whose meaning leaves the state is answered with only the reply new. -/
theorem answers_unchanged (c : Instr) (r : Request) (s : State) (hr : requestOf c = some r) (h : Ready s)
    (hp : (performKind r.kind.toNat r.fields (inHand r s)).state = inHand r s) :
    ∃ status fields, Answers c s status fields s := by
  obtain ⟨_, _, hw, _, _⟩ := id h
  cases hq : performKind r.kind.toNat r.fields (inHand r s) with
  | mk state status fields =>
    rw [hq] at hp
    obtain rfl : state = inHand r s := hp
    exact ⟨status, fields, answers_of c r s s _ _ hr h hw hq⟩

/-- A request without fields that only reads is answered OK with the fields it gives. -/
theorem answers_fields (c : Instr) (r : Request) {s : State} {f : List Byte} (hr : requestOf c = some r) (h : Ready s)
    (hp : performKind r.kind.toNat r.fields (inHand r s) = answered f (inHand r s)) : Answers c s .ok f s := by
  obtain ⟨_, _, hw, _, _⟩ := id h
  exact answers_of c r s s _ _ hr h hw hp

/-- Settles O34: the frame of the requests that read, and the bytes of the four replies block by block. -/
theorem identify_status_and_reads : Obligations.identify_status_and_reads := by
  refine ⟨fun c r s hr hs hk => answers_unchanged c r s hr hs (performKind_reading hk _ _), ?_⟩
  intro tag s hs flag opt free zones signs port format
  obtain ⟨_, _, hw, _, _⟩ := id hs
  refine ⟨answers_fields _ _ rfl hs (congrArg (answered · _) ?_), answers_fields _ _ rfl hs (congrArg (answered · _) ?_),
    answers_fields _ _ rfl hs (congrArg (answered · _) ?_), answers_fields _ _ rfl hs (congrArg (answered · _) ?_)⟩
  · show byte2 Config.partNumber ++ _ ++ _ ++ _ ++ _ ++ _ ++ _ ++ [optByte1 (ownStation s)] = _
    rw [ownStation_byte]
    rfl
  · show statusFields s = _
    simp only [statusFields, statusPlanStore, statusIntake, statusHazard, statusSolver, statusSigns, statusPeers,
      statusLines, statusFaults, hw, failureBytes_eq, presentByte1_eq, adoptedEpoch_elim, reportBytes_eq,
      recordKindBytes_eq, optByte1_eq, statusPort, presentByte2_eq, List.append_assoc, port]
    rfl
  · show faultFields s = _
    exact faultFields_eq s
  · rfl

end Sys2Proof.Machine
end

section
/-! SUPPORT. The queries and PLAN READ (R12, R58, R96, R132, R150, R162, R188): O35. -/

namespace Sys2Proof.Machine

/-! ## Numbers and codes back in bytes -/

theorem byte1_num2 (a b : Byte) : byte1 (num2 a b) = b := by
  apply BitVec.eq_of_toNat_eq
  have := a.isLt
  have := b.isLt
  simp only [byte1, num2, BitVec.toNat_ofNat]
  omega

theorem byte1_num2_high (a b : Byte) : byte1 (num2 a b / 256) = a := by
  apply BitVec.eq_of_toNat_eq
  have := a.isLt
  have := b.isLt
  simp only [byte1, num2, BitVec.toNat_ofNat]
  omega

theorem byte2_num2 (a b : Byte) : byte2 (num2 a b) = [a, b] := by rw [byte2, byte1_num2, byte1_num2_high]

theorem byte1_toNat_self (b : Byte) : byte1 b.toNat = b := by simp [byte1]

theorem bankCode_of {n : Nat} {bank : Bank} (h : bankOf n = some bank) : bankCode bank = n := by
  unfold bankOf at h
  split at h <;> cases h <;> rfl

theorem sectionCode_of {n : Nat} {sect : Section} (h : sectionOf n = some sect) : sectionCode sect = n := by
  unfold sectionOf at h
  split at h <;> cases h <;> rfl

theorem bankOf_none : ∀ {n : Nat}, 1 < n → bankOf n = none
  | 0, h | 1, h => absurd h (by decide)
  | _ + 2, _ => rfl

theorem sectionOf_none : ∀ {n : Nat}, 6 < n → sectionOf n = none
  | 0, h | 1, h | 2, h | 3, h | 4, h | 5, h | 6, h => absurd h (by decide)
  | _ + 7, _ => rfl

/-! ## The parts of the replies -/

theorem timerBytes_eq (t : Timer) : timerBytes t = t.elim [0xFF, 0xFF, 0xFF] byte3 := by cases t <;> rfl

theorem optFaceBytes_eq (f : Option Face) : optFaceBytes f = f.elim [0xFF, 0xFF, 0xFF, 0xFF] faceBytes := by
  cases f <;> rfl

theorem recordPart_eq (free : Nat) (o : Option DetectorRec) :
    recordPart free o = o.elim ([0, 0xFF, 0xFF, 0xFF, 0xFF] ++ freeBytes free 4)
      (fun r => [1, byte1 r.zone, byte1 (levelCode r.level), r.lastSequence.elim 0xFF byte1, byte1 r.alarms] ++
        byte4 r.time) := by
  cases o with
  | none => rfl
  | some r => simp [recordPart, optByte1_eq]

theorem entryPart_eq (o : Option (Nat × PendingEntry)) :
    entryPart o = o.elim [0, 0xFF, 0xFF, 0xFF, 0xFF, 0xFF, 0xFF, 0xFF, 0xFF, 0xFF]
      (fun q => [1, byte1 q.1, byte1 q.2.zone, flagByte q.2.unmapped, byte1 (levelCode q.2.level),
        q.2.sequence.elim 0xFF byte1, byte1 q.2.merged, byte1 (levelCode q.2.peak), byte1 q.2.tail,
        byte1 (sourceCode q.2.source)]) := by
  cases o with
  | none => rfl
  | some q => simp [entryPart, optByte1_eq]

theorem advertisementPart_eq (free : Nat) (o : Option Advertisement) :
    advertisementPart free o = o.elim ([0] ++ freeBytes free 4 ++ [0xFF, 0xFF])
      (fun d => [1] ++ costBytes d.cost ++
        [byte1 d.hop, byte1 ((if d.isHere then 1 else 0) + if d.already then 2 else 0)]) := by
  cases o <;> rfl

theorem seedPart_map (free exit : Nat) (o : Option (Cost × Nat)) :
    seedPart free (o.map fun c => { exit := exit, cost := c.1, hop := c.2 }) =
      o.elim ([0] ++ freeBytes free 4 ++ [0xFF]) (fun sd => [1] ++ costBytes sd.1 ++ [byte1 sd.2]) := by
  cases o <;> rfl

theorem lastSentPart_eq (free : Nat) (o : Option AdvertEntry) :
    lastSentPart free o = o.elim (0 :: freeBytes free 7) (fun e => [1, byte1 e.exit] ++ costBytes e.cost ++
      [byte1 e.hop,
       byte1 ((if e.isHere then 1 else 0) + (if e.already then 2 else 0) + if e.unknown then 4 else 0)]) := by
  cases o <;> rfl

theorem levelCount_eq (dets : Slots DetectorRec) (zone : Nat) (l : Level) :
    levelCount dets zone l =
      ((dets.filter fun d => decide (d.2.zone = zone)).filter fun d => decide (d.2.level = l)).length := by
  simp [levelCount, List.filter_filter, Bool.and_comm]

theorem highestAlarms_eq (dets : Slots DetectorRec) (zone : Nat) :
    highestAlarms dets zone =
      ((dets.filter fun d => decide (d.2.zone = zone)).map fun d => d.2.alarms).foldl max 0 := by
  rw [highestAlarms, List.foldl_map]

/-! ## Finding what a query names -/

theorem findEntry_none {a : Nat} {l : List PendingEntry} (h : ∀ e ∈ l, e.address ≠ a) (n : Nat) :
    findEntry a n l = none := by
  induction l generalizing n with
  | nil => rfl
  | cons e l ih =>
    rw [findEntry, if_neg (h e List.mem_cons_self)]
    exact ih (fun x hx => h x (List.mem_cons_of_mem _ hx)) _

theorem findEntry_some {a k : Nat} {l : List PendingEntry} {e : PendingEntry} (hk : l[k]? = some e)
    (he : e.address = a) (hfirst : ∀ j x, j < k → l[j]? = some x → x.address ≠ a) (n : Nat) :
    findEntry a n l = some (n + k, e) := by
  induction l generalizing k n with
  | nil => simp at hk
  | cons x l ih =>
    cases k with
    | zero =>
      obtain rfl : x = e := by simpa using hk
      rw [findEntry, if_pos he, Nat.add_zero]
    | succ k =>
      rw [findEntry, if_neg (hfirst 0 x (by omega) rfl), ih (by simpa using hk), Nat.add_right_comm, Nat.add_assoc]
      exact fun j y hj hy => hfirst (j + 1) y (by omega) (by simpa using hy)

theorem find?_front {α : Type} {q : α → Bool} {r : α} {front back : List α} (hr : q r = true)
    (hf : ∀ x ∈ front, q x = false) : (front ++ r :: back).find? q = some r := by
  rw [List.find?_append, List.find?_eq_none.2 fun x hx => by simp [hf x hx], List.find?_cons_of_pos hr]
  rfl

/-! ## PLAN READ's slots (R12) -/

/-- The slots read from an index on: whole slots, until as many as asked for, the section's end, or no room. -/
theorem readSlots_spec (slot : Nat → Option (List Byte)) (max : Nat) (asked : Nat) :
    ∀ i room : Nat, i ≤ max → ∃ count : Nat,
      readSlots slot max room i asked = (List.range count).map (fun k => slotBytes (slot (i + k))) ∧
      count ≤ asked ∧ i + count ≤ max ∧
      ((List.range count).flatMap fun k => slotBytes (slot (i + k))).length ≤ room ∧
      (count < asked → i + count = max ∨
        room < ((List.range count).flatMap fun k => slotBytes (slot (i + k))).length +
          (slotBytes (slot (i + count))).length) := by
  induction asked with
  | zero => exact fun i room h => ⟨0, rfl, Nat.le_refl _, h, Nat.zero_le _, fun h => absurd h (Nat.lt_irrefl _)⟩
  | succ asked ih =>
    intro i room hi
    by_cases hfit : i < max ∧ (slotBytes (slot i)).length ≤ room
    · obtain ⟨count, heq, hle, hmax, hroom, hstop⟩ := ih (i + 1) (room - (slotBytes (slot i)).length) hfit.1
      have hsucc (k : Nat) : i + 1 + k = i + (k + 1) := by omega
      simp only [hsucc] at heq hroom hstop
      refine ⟨count + 1, ?_, by omega, by omega, ?_, fun hc => ?_⟩
      · rw [readSlots, if_pos hfit, heq, List.range_succ_eq_map]
        simp [Function.comp_def]
      · rw [List.range_succ_eq_map, List.flatMap_cons, List.flatMap_map, List.length_append]
        simp only [Nat.add_zero, Nat.succ_eq_add_one]
        omega
      · rw [List.range_succ_eq_map, List.flatMap_cons, List.flatMap_map, List.length_append]
        simp only [Nat.add_zero, Nat.succ_eq_add_one]
        have := hstop (by omega)
        omega
    · refine ⟨0, if_neg hfit, Nat.zero_le _, hi, Nat.zero_le _, fun _ => ?_⟩
      simp only [List.range_zero, List.flatMap_nil, List.length_nil, Nat.add_zero]
      omega

/-! ## Each query's answer -/

section
variable {s : State} {p : Plan}

/-- PLAN READ of the ACTIVE bank with no active plan is answered NO_PLAN, whatever the section. -/
theorem answerPlanRead_noPlan (h : s.ps.active = none) (a i j n : Byte) :
    answerPlanRead [0, a, i, j, n] s = turnedAway .noPlan s := by
  simp [answerPlanRead, bankOf, h]

theorem answerPlanRead_bank {b : Byte} (h : 1 < b.toNat) (c i j n : Byte) :
    answerPlanRead [b, c, i, j, n] s = turnedAway .badValue s := by
  simp [answerPlanRead, bankOf_none h]

/-- PLAN READ of a bank that can be read looks at the section code. -/
theorem answerPlanRead_readable {bank : Bank} {b : Byte} (hb : bankOf b.toNat = some bank)
    (hr : bank = .staging ∨ s.ps.active ≠ none) (c i j n : Byte) :
    answerPlanRead [b, c, i, j, n] s =
      match sectionOf c.toNat with
      | none => turnedAway .badValue s
      | some sect =>
        if sectionMax sect ≤ num2 i j then turnedAway .badValue s
        else match bankSlots bank sect s with
          | none => turnedAway .noPlan s
          | some slot => readBank bank sect (num2 i j) n.toNat slot s := by
  cases bank with
  | staging => simp only [answerPlanRead, hb] <;> rfl
  | active =>
    cases ha : s.ps.active with
    | none => simp [ha] at hr
    | some p => simp only [answerPlanRead, hb, ha] <;> rfl

theorem answerNodeQuery_badValue (h : s.ps.active = some p) {a b : Byte} (hn : p.nodes.length ≤ num2 a b) :
    answerNodeQuery [a, b] s = turnedAway .badValue s := by
  simp [answerNodeQuery, withPlan_some h, List.getElem?_eq_none hn]

theorem answerNodeQuery_ok (h : s.ps.active = some p) {a b : Byte} {n : NodeRec} (hn : p.nodes[num2 a b]? = some n) :
    answerNodeQuery [a, b] s = answered
      ([a, b] ++ presentByte2 s.free n.label ++ setBytes (s.free + 8) s (num2 a b) ++
        [byte1 (p.signs.filter fun g => decide (g.node = num2 a b)).length]) s := by
  simp [answerNodeQuery, withPlan_some h, hn, byte2_num2]

theorem answerSignQuery_badValue (h : s.ps.active = some p) {a : Byte} (hs : s.slc.signs.length ≤ a.toNat) :
    answerSignQuery [a] s = turnedAway .badValue s := by
  simp [answerSignQuery, withPlan_some h, List.getElem?_eq_none hs]

theorem answerSignQuery_ok (h : s.ps.active = some p) {a : Byte} {g : SignRun} {x : SignRec}
    (hg : s.slc.signs[a.toNat]? = some g) (hx : p.signs[a.toNat]? = some x) :
    answerSignQuery [a] s = answered
      ([a, byte1 g.address] ++ byte2 g.node ++
        [byte1 (signStateCode g.state), byte1 g.misses, optByte1 (g.lamp.map lampCode),
         byte1 (signOutcomeCode g.outcome)] ++
        optFaceBytes g.composed ++ optFaceBytes g.lastFace ++ timerBytes g.emphasis ++
        presentByte2 s.free (adoptedEpoch s) ++ [byte1 x.groups.length] ++ x.groups.map byte1) s := by
  simp only [answerSignQuery, withPlan_some h, hg, hx]

theorem answerZoneQuery_badValue (h : s.ps.active = some p) {a : Byte} (hz : s.zh.zones.length ≤ a.toNat) :
    answerZoneQuery [a] s = turnedAway .badValue s := by
  simp [answerZoneQuery, withPlan_some h, List.getElem?_eq_none hz]

theorem answerDetectorQuery_badValue (h : s.ps.active = some p) {a b : Byte} (hn : num2 a b = 0 ∨ 1023 < num2 a b) :
    answerDetectorQuery [a, b] s = turnedAway .badValue s := by
  simp [answerDetectorQuery, withPlan_some h, hn]

theorem answerDetectorQuery_ok (h : s.ps.active = some p) {a b : Byte} (h1 : 1 ≤ num2 a b) (h2 : num2 a b ≤ 1023) :
    answerDetectorQuery [a, b] s = answered
      ([a, b, optByte1 (decodeZone p (num2 a b))] ++ recordPart s.free (slotGet s.zh.detectors (num2 a b)) ++
        entryPart (findEntry (num2 a b) 0 s.di.reports)) s := by
  have hn : ¬ (num2 a b = 0 ∨ 1023 < num2 a b) := by omega
  simp only [answerDetectorQuery, withPlan_some h, if_neg hn, byte2_num2]
  rfl

theorem answerPortalQuery_badValue (h : s.ps.active = some p) {a : Byte} (hp : portalOf p a.toNat = none) :
    answerPortalQuery [a] s = turnedAway .badValue s := by
  simp [answerPortalQuery, withPlan_some h, hp]

theorem setBytes_eq (free : Nat) (s : State) (node : Nat) :
    setBytes free s node =
      match s.rsv.published with
      | none => [0] ++ byte2 s.rsv.epoch ++ freeBytes free 4 ++ [0xFF, 0xFF, 0xFF, 0xFF, 0xFF, 0xFF]
      | some set =>
        let h := headingAt set node
        [1] ++ byte2 s.rsv.epoch ++ costBytes h.cost ++
          (match h.choice with
            | .seed o hop => [0, 0xFF, 0xFF, byte1 o, byte1 hop]
            | .link k o hop => [1] ++ byte2 k ++ [byte1 o, byte1 hop]
            | .none => [2, 0xFF, 0xFF, 0xFF, 0xFF]) ++ [flagByte h.changed] := by
  unfold setBytes
  cases s.rsv.published with
  | none => rfl
  | some set => simp only [headingBytes, List.append_assoc]; rfl

/-- The seed that PORTAL QUERY gives is the one of the portal's own fields, state and advertisement. -/
theorem exitSeed_portal {exit : Nat} {f : PortalFields} {st : ExitState} (hp : portalOf p exit = some f)
    (hst : s.rsv.exits[exit]? = some st) {r : PortalRun}
    (hr : s.pp.portals.find? (fun x => decide (x.exit = exit)) = some r) :
    exitSeed p s.rsv.exits (portalsNow s) exit =
      (portalSeed p.header f st r.advertisement).map fun c => { exit := exit, cost := c.1, hop := c.2 } := by
  have hadv : advertisementOf (portalsNow s) exit = r.advertisement := by
    simp [advertisementOf, portalsNow, List.find?_map, hr]
  unfold portalOf at hp
  cases he : p.exits[exit]? with
  | none => simp [he] at hp
  | some e =>
    have hf : e.portal = some f := by simpa [he] using hp
    simp only [exitSeed, he, hst, hf, hadv]

theorem answerPortalQuery_ok (h : s.ps.active = some p) {a : Byte} {f : PortalFields} {st : ExitState}
    (hp : portalOf p a.toNat = some f) (hst : s.rsv.exits[a.toNat]? = some st) {r : PortalRun}
    (hr : s.pp.portals.find? (fun x => decide (x.exit = a.toNat)) = some r) :
    answerPortalQuery [a] s = answered
      ([a, byte1 (portCode f.port), byte1 f.remote] ++ byte2 f.crossing ++ [byte1 (exitStateCode st)] ++
        advertisementPart s.free r.advertisement ++
        seedPart (s.free + 8)
          ((portalSeed p.header f st r.advertisement).map fun c => { exit := a.toNat, cost := c.1, hop := c.2 }) ++
        lastSentPart (s.free + 16) r.lastSent ++ portPart (s.free + 24) (portGet s.pp f.port)) s := by
  simp only [answerPortalQuery, withPlan_some h, hp, hst, hr, exitSeed_portal hp hst hr]

theorem answerZoneQuery_ok (h : s.ps.active = some p) {a : Byte} {z : ZoneRun} (hz : s.zh.zones[a.toNat]? = some z) :
    answerZoneQuery [a] s = answered
      (let c := conditions s.zh.detectors a.toNat z
       let count := levelCount s.zh.detectors a.toNat
       [a, byte1 (zoneStateCode z.state)] ++ timerBytes z.suspect ++ timerBytes z.clearHold ++
         [flagByte z.untracked] ++ zoneBytes z.setting ++
         byte2 (count .normal) ++ byte2 (count .fault) ++ byte2 (count .prealarm) ++ byte2 (count .alarm) ++
         [flagByte c.alarm, flagByte c.warning, flagByte c.degraded, flagByte c.confirmed,
          byte1 (highestAlarms s.zh.detectors a.toNat)]) s := by
  simp only [answerZoneQuery, withPlan_some h, hz]

/-- The entry that DETECTOR QUERY gives is the first of its address. -/
theorem findEntry_place {a : Nat} {place : Option (Nat × PendingEntry)} {l : List PendingEntry}
    (hsome : ∀ k e, place = some (k, e) → l[k]? = some e ∧ e.address = a ∧
      ∀ j x, j < k → l[j]? = some x → x.address ≠ a)
    (hnone : place = none → ∀ e ∈ l, e.address ≠ a) : findEntry a 0 l = place := by
  cases place with
  | none => exact findEntry_none (hnone rfl) 0
  | some q =>
    obtain ⟨hk, he, hfirst⟩ := hsome q.1 q.2 rfl
    simpa using findEntry_some hk he hfirst 0

end

/-! ## PLAN READ's answer (R12) -/

theorem toNat_eq_zero {n : Byte} : n.toNat = 0 ↔ n = 0 := by
  constructor
  · exact fun h => BitVec.eq_of_toNat_eq h
  · rintro rfl; rfl

/-- PLAN READ gives the slots that it reads, and is CLAMPED when it gives fewer than the count asked for. -/
theorem answers_readBank {tag b c i j n : Byte} {s : State} (hs : Ready s) {bank : Bank} {sect : Section}
    (hb : bankOf b.toNat = some bank) (hc : sectionOf c.toNat = some sect)
    (hr : bank = .staging ∨ s.ps.active ≠ none)
    {slot : Nat → Option (List Byte)} (hslot : bankSlots bank sect s = some slot)
    (hi : num2 i j < sectionMax sect) {count : Nat} {given : List (List Byte)}
    (hgiven : readSlots slot (sectionMax sect) 240 (num2 i j) (if n = 0 then 1 else n.toNat) = given)
    (hcount : given.length = count) :
    Answers (.planRead tag [b, c, i, j, n]) s
      (if n = 0 ∨ count < (if n = 0 then 1 else n.toNat) then .clamped else .ok)
      ([b, c, i, j, byte1 count] ++ given.flatten) s := by
  obtain ⟨_, _, hw, _, _⟩ := id hs
  refine answers_of _ _ s s _ _ rfl hs hw ((answerPlanRead_readable (s := inHand _ s) hb hr c i j n).trans ?_)
  have hslot' : bankSlots bank sect (inHand { kind := 0x08, tag := tag, fields := [b, c, i, j, n] } s) = some slot :=
    hslot
  simp only [hc, hslot', if_neg (Nat.not_le.2 hi), readBank, toNat_eq_zero, hgiven, hcount, bankCode_of hb,
    sectionCode_of hc, byte1_toNat_self, byte2_num2, answeredClamped, decide_eq_true_eq]
  rfl

/-- Settles O35: the queries one by one, and PLAN READ by its bank, section and first index. -/
theorem queries_answer : Obligations.queries_answer := by
  intro tag s hs flag opt free timer costs shown
  refine ⟨fun h a b => ⟨?_, ?_, ?_, ?_, ?_,
      fun i j n => turnedAway_of _ _ rfl hs (answerPlanRead_noPlan (s := inHand _ s) h a i j n)⟩,
    fun p a b h => ⟨fun hn => ?_, fun n hn => ?_, fun hl hn => ?_, fun g x hg hx => ?_, fun hz => ?_, fun z hz => ?_,
      fun hn => ?_, fun h1 h2 place hsome hnone => ?_, fun hp => ?_,
      fun f st r front back hp hst hport hr hfront => ?_⟩,
    fun b c i j n => ⟨fun hb => turnedAway_of _ _ rfl hs (answerPlanRead_bank (s := inHand _ s) hb c i j n),
      fun hb hc => ?_⟩,
    fun bank sect b c i j n hb hc hr => ?_⟩
  iterate 5
    · exact turnedAway_of _ _ rfl hs (withPlan_none (s := inHand _ s) h _)
  · exact turnedAway_of _ _ rfl hs (answerNodeQuery_badValue (s := inHand _ s) h hn)
  · refine answers_fields _ _ rfl hs ((answerNodeQuery_ok (s := inHand _ s) h hn).trans
      (congrArg (answered · _) ?_))
    rw [presentByte2_eq, setBytes_eq]
    rfl
  · exact turnedAway_of _ _ rfl hs (answerSignQuery_badValue (s := inHand _ s) h (hl.symm ▸ hn))
  · refine answers_fields _ _ rfl hs ((answerSignQuery_ok (s := inHand _ s) h hg hx).trans
      (congrArg (answered · _) ?_))
    simp only [optByte1_eq, optFaceBytes_eq, timerBytes_eq, presentByte2_eq, adoptedEpoch_elim]
    rfl
  · exact turnedAway_of _ _ rfl hs (answerZoneQuery_badValue (s := inHand _ s) h hz)
  · refine answers_fields _ _ rfl hs ((answerZoneQuery_ok (s := inHand _ s) h hz).trans
      (congrArg (answered · _) ?_))
    simp only [levelCount_eq, highestAlarms_eq, timerBytes_eq, List.append_assoc]
    rfl
  · exact turnedAway_of _ _ rfl hs (answerDetectorQuery_badValue (s := inHand _ s) h hn)
  · refine answers_fields _ _ rfl hs ((answerDetectorQuery_ok (s := inHand _ s) h h1 h2).trans
      (congrArg (answered · _) ?_))
    have hplace := findEntry_place hsome hnone
    simp only [inHand, hplace, optByte1_eq, recordPart_eq, entryPart_eq]
    rfl
  · exact turnedAway_of _ _ rfl hs (answerPortalQuery_badValue (s := inHand _ s) h hp)
  · have hfind : s.pp.portals.find? (fun x => decide (x.exit = a.toNat)) = some r := by
      rw [hport]
      exact find?_front (by simpa using hr) (by simpa using hfront)
    refine answers_fields _ _ rfl hs ((answerPortalQuery_ok (s := inHand _ s) h hp hst hfind).trans
      (congrArg (answered · _) ?_))
    simp only [advertisementPart_eq, seedPart_map, lastSentPart_eq, portPart, optByte1_eq, presentByte2_eq,
      timerBytes_eq, List.append_assoc]
    rfl
  · obtain ⟨bank, hbank, hr⟩ : ∃ bank, bankOf b.toNat = some bank ∧ (bank = .staging ∨ s.ps.active ≠ none) := by
      rcases hb with hb | ⟨hb, ha⟩
      · exact ⟨.staging, by rw [hb]; rfl, .inl rfl⟩
      · exact ⟨.active, by rw [hb]; rfl, .inr ha⟩
    refine turnedAway_of _ _ rfl hs ((answerPlanRead_readable (s := inHand _ s) hbank hr c i j n).trans ?_)
    simp only [sectionOf_none hc]
  · intro slotAt first asked
    refine ⟨fun hi => ?_, fun hi => ?_⟩
    · refine turnedAway_of _ _ rfl hs ((answerPlanRead_readable (s := inHand _ s) hb hr c i j n).trans ?_)
      simp only [hc]
      exact if_pos hi
    · obtain ⟨slot, hslot, hbytes⟩ : ∃ slot, bankSlots bank sect s = some slot ∧
        ∀ k, slotAt k = slotBytes (slot k) := by
        cases bank with
        | staging => exact ⟨_, rfl, fun _ => rfl⟩
        | active =>
          cases hp : s.ps.active with
          | none => simp [hp] at hr
          | some p => exact ⟨activeSlot s.free p sect, by simp [bankSlots, hp], fun k => by simp [slotAt, hp]⟩
      obtain ⟨count, hread, hcount, hmax, hroom, hstop⟩ :=
        readSlots_spec slot (sectionMax sect) (if n = 0 then 1 else n.toNat) (num2 i j) 240 hi.le
      have hanswer := answers_readBank (tag := tag) (n := n) (count := count) hs hb hc hr hslot hi hread (by simp)
      simp only [← hbytes, ← List.flatMap_def] at hroom hstop hanswer
      exact ⟨count, hcount, hmax, hroom, hstop, hanswer⟩

end Sys2Proof.Machine
end

section
/-! SUPPORT. The plan check (R15): what each of its reasons finds, and the first of them: O30. -/

namespace Sys2Proof.Machine

/-! ## The lowest index at which something fails -/

/-- An option is the lowest index with a property, `none` when no index has it. -/
def Lowest (o : Option Nat) (P : Nat → Prop) : Prop :=
  match o with
  | none => ∀ k, ¬ P k
  | some k => P k ∧ ∀ j, j < k → ¬ P j

section
variable {o : Option Nat} {P Q : Nat → Prop}

theorem Lowest.eq_none_iff (h : Lowest o P) : o = none ↔ ∀ k, ¬ P k := by
  cases o with
  | none => exact iff_of_true rfl h
  | some k => exact iff_of_false (by simp) fun hn => hn k h.1

theorem Lowest.eq_some_iff (h : Lowest o P) (k : Nat) : o = some k ↔ P k ∧ ∀ j, j < k → ¬ P j := by
  cases o with
  | none => exact iff_of_false (by simp) fun hk => h k hk.1
  | some n =>
    refine ⟨fun hn => Option.some.inj hn ▸ h, fun ⟨hk, hbelow⟩ => ?_⟩
    obtain hlt | rfl | hgt := Nat.lt_trichotomy n k
    · exact absurd h.1 (hbelow n hlt)
    · rfl
    · exact absurd hk (h.2 k hgt)

theorem Lowest.congr (h : Lowest o P) (hPQ : ∀ k, P k ↔ Q k) : Lowest o Q := by
  obtain rfl : P = Q := funext fun k => propext (hPQ k)
  exact h

theorem Lowest.map_succ (h : Lowest o fun k => P (k + 1)) (h0 : ¬ P 0) : Lowest (o.map (· + 1)) P := by
  cases o with
  | none => exact fun | 0 => h0 | k + 1 => h k
  | some n =>
    refine ⟨h.1, fun | 0, _ => h0 | j + 1, hj => h.2 j (Nat.lt_of_succ_lt_succ hj)⟩

end

/-- What a test of each record against those before it finds. -/
theorem firstFailure_from {α : Type} (fails : List α → α → Bool) (xs : List α) : ∀ (earlier : List α) (i : Nat),
    ∃ o, firstFailure fails earlier i xs = o.map (i + ·) ∧
      Lowest o fun k => ∃ x, xs[k]? = some x ∧ fails ((xs.take k).reverse ++ earlier) x = true := by
  induction xs with
  | nil => exact fun _ _ => ⟨none, rfl, fun k => by simp⟩
  | cons x xs ih =>
    intro earlier i
    by_cases hx : fails earlier x = true
    · exact ⟨some 0, if_pos hx, ⟨x, rfl, hx⟩, fun j hj => absurd hj (Nat.not_lt_zero j)⟩
    · obtain ⟨o, heq, hlow⟩ := ih (x :: earlier) (i + 1)
      refine ⟨o.map (· + 1), ?_, Lowest.map_succ (hlow.congr fun k => ?_) ?_⟩
      · rw [firstFailure, if_neg hx, heq, Option.map_map]
        exact congrArg (fun f => o.map f) (funext fun k => by simp; omega)
      · simp
      · simpa using hx

theorem firstFailure_lowest {α : Type} (fails : List α → α → Bool) (xs : List α) :
    Lowest (firstFailure fails [] 0 xs)
      fun k => ∃ x, xs[k]? = some x ∧ fails (xs.take k).reverse x = true := by
  obtain ⟨o, heq, hlow⟩ := firstFailure_from fails xs [] 0
  simpa [heq] using hlow

theorem firstBad_lowest {α : Type} (bad : α → Bool) (xs : List α) :
    Lowest (firstBad bad xs) fun k => ∃ x, xs[k]? = some x ∧ bad x = true :=
  firstFailure_lowest (fun _ x => bad x) xs

theorem find?_range_lowest (q : Nat → Bool) (n : Nat) :
    Lowest ((List.range n).find? q) fun k => k < n ∧ q k = true := by
  cases h : (List.range n).find? q with
  | none =>
    rw [List.find?_range_eq_none] at h
    exact fun k ⟨hk, hq⟩ => by simpa [hq] using h k hk
  | some k =>
    rw [List.find?_range_eq_some] at h
    obtain ⟨hq, hk, hbelow⟩ := h
    exact ⟨⟨List.mem_range.1 hk, hq⟩, fun j hj ⟨_, hj'⟩ => by simpa [hj'] using hbelow j hj⟩

theorem header_lowest (b : Bool) : Lowest (if b then some 0 else none) fun k => k = 0 ∧ b = true := by
  cases b with
  | false => exact fun k => by simp
  | true => exact ⟨⟨rfl, rfl⟩, fun j hj => absurd hj (Nat.not_lt_zero j)⟩

/-! ## The first of several findings -/

/-- In a list that rises by a number, a finding that only one member makes is the first exactly when that member makes
it and the members of lower number find nothing. -/
theorem findSome?_rising {α β : Type} {f : α → Option β} {code : α → Nat} {l : List α}
    (hl : l.Pairwise fun a b => code a < code b) {a : α} (ha : a ∈ l) {b : β} (hb : ∀ x, f x = some b → x = a) :
    l.findSome? f = some b ↔ f a = some b ∧ ∀ x ∈ l, code x < code a → f x = none := by
  rw [List.findSome?_eq_some_iff]
  constructor
  · rintro ⟨before, x, after, rfl, hx, hnone⟩
    obtain rfl := hb x hx
    refine ⟨hx, fun y hy hlt => ?_⟩
    obtain ⟨_, hafter, _⟩ := List.pairwise_append.1 hl
    rcases List.mem_append.1 hy with hy | hy
    · exact hnone y hy
    · rcases List.mem_cons.1 hy with rfl | hy
      · exact absurd hlt (Nat.lt_irrefl _)
      · exact absurd hlt (Nat.lt_asymm (List.rel_of_pairwise_cons hafter hy))
  · rintro ⟨hfa, hnone⟩
    obtain ⟨before, after, rfl⟩ := List.append_of_mem ha
    obtain ⟨_, _, hbefore⟩ := List.pairwise_append.1 hl
    exact ⟨before, a, after, rfl, hfa, fun x hx =>
      hnone x (List.mem_append_left _ hx) (hbefore x hx a List.mem_cons_self)⟩

theorem failureAt_eq_some {reason : CheckReason} {sect : Section} {i : Option Nat} {f : FailureReport} :
    failureAt reason sect i = some f ↔ ∃ k, i = some k ∧ f = { reason := reason, sect := sect, index := k } := by
  simp [failureAt, eq_comm]

theorem failureAt_self {reason : CheckReason} {sect : Section} {i : Option Nat} {k : Nat} :
    failureAt reason sect i = some { reason := reason, sect := sect, index := k } ↔ i = some k := by
  simp [failureAt]

theorem failureAt_eq_none {reason : CheckReason} {sect : Section} {i : Option Nat} :
    failureAt reason sect i = none ↔ i = none := by simp [failureAt]

theorem failureOfHeader_eq (reason : CheckReason) (b : Bool) :
    failureOfHeader reason b = failureAt reason .header (if b then some 0 else none) := by cases b <;> rfl

theorem findSome?_cons_orElse {α β : Type} (f : α → Option β) (a : α) (l : List α) :
    (a :: l).findSome? f = (f a <|> l.findSome? f) := by
  rw [List.findSome?_cons]
  cases f a <;> rfl

theorem orElse_none_right {α : Type} (o : Option α) : (o <|> none) = o := by cases o <;> rfl

/-! ## Reason 1: the sections after the header -/

/-- A record that the header counts is absent. -/
def missingAt (g : Staging) (h : Header) (sect : Section) (k : Nat) : Prop :=
  match sect with
  | .header => False
  | .nodes => k < h.nodeCount ∧ k < 384 ∧ slotGet g.nodes k = none
  | .links => k < h.linkCount ∧ k < 768 ∧ slotGet g.links k = none
  | .zones => k < h.zoneCount ∧ k < 64 ∧ slotGet g.zones k = none
  | .windows => k < h.windowCount ∧ k < 16 ∧ slotGet g.windows k = none
  | .exits => k < h.exitCount ∧ k < 32 ∧ slotGet g.exits k = none
  | .signs => k < h.signCount ∧ k < 250 ∧ slotGet g.signs k = none

/-- The lowest absent index of a section. -/
def sectionAbsent (g : Staging) (h : Header) : Section → Option Nat
  | .header => none
  | .nodes => firstAbsent g.nodes (min h.nodeCount Config.maxNodes)
  | .links => firstAbsent g.links (min h.linkCount Config.maxLinks)
  | .zones => firstAbsent g.zones (min h.zoneCount Config.maxZones)
  | .windows => firstAbsent g.windows (min h.windowCount Config.maxWindows)
  | .exits => firstAbsent g.exits (min h.exitCount Config.maxExits)
  | .signs => firstAbsent g.signs (min h.signCount Config.maxSigns)

theorem firstAbsent_lowest {α : Type} (slots : Slots α) (count most : Nat) :
    Lowest (firstAbsent slots (min count most)) fun k => k < count ∧ k < most ∧ slotGet slots k = none :=
  (find?_range_lowest _ _).congr fun k => by simp [and_assoc]

theorem sectionAbsent_lowest (g : Staging) (h : Header) (sect : Section) :
    Lowest (sectionAbsent g h sect) (missingAt g h sect) := by
  cases sect with
  | header => exact fun _ hf => hf
  | _ => exact firstAbsent_lowest _ _ _

/-- The sections after the header, in the order of their codes. -/
def laterSections : List Section := [.nodes, .links, .zones, .windows, .exits, .signs]

theorem missingIn_eq (g : Staging) (h : Header) :
    missingIn g h = laterSections.findSome? fun sect => failureAt .sectionMissing sect (sectionAbsent g h sect) := by
  simp only [laterSections, findSome?_cons_orElse, List.findSome?_nil, orElse_none_right]
  rfl

theorem missingIn_eq_none (g : Staging) (h : Header) : missingIn g h = none ↔ ∀ sect k, ¬ missingAt g h sect k := by
  rw [missingIn_eq, List.findSome?_eq_none_iff]
  simp only [failureAt_eq_none, (sectionAbsent_lowest g h _).eq_none_iff]
  refine ⟨fun hnone sect k => ?_, fun hnone sect _ => hnone sect⟩
  cases sect with
  | header => exact id
  | _ => exact hnone _ (by simp [laterSections]) k

theorem missingIn_reason {g : Staging} {h : Header} {f : FailureReport} (hf : missingIn g h = some f) :
    f.reason = .sectionMissing := by
  rw [missingIn_eq] at hf
  obtain ⟨sect, _, hs⟩ := List.exists_of_findSome?_eq_some hf
  obtain ⟨k, _, rfl⟩ := failureAt_eq_some.1 hs
  rfl

theorem missingIn_eq_some (g : Staging) (h : Header) (sect : Section) (k : Nat) :
    missingIn g h = some { reason := .sectionMissing, sect := sect, index := k } ↔
      missingAt g h sect k ∧ (∀ j, j < k → ¬ missingAt g h sect j) ∧
        ∀ other j, sectionCode other < sectionCode sect → ¬ missingAt g h other j := by
  by_cases hs : sect ∈ laterSections
  · rw [missingIn_eq, findSome?_rising (code := sectionCode) (by simp [laterSections, sectionCode]) hs]
    · simp only [failureAt_eq_none, (sectionAbsent_lowest g h _).eq_none_iff]
      rw [failureAt_self, (sectionAbsent_lowest g h _).eq_some_iff, and_assoc]
      refine and_congr_right fun _ => and_congr_right fun _ => ⟨fun hlow other j hlt => ?_, fun hlow x _ hlt j => ?_⟩
      · cases other with
        | header => exact id
        | _ => exact hlow _ (by simp [laterSections]) hlt j
      · exact hlow x j hlt
    · intro x hx
      obtain ⟨_, _, hf⟩ := failureAt_eq_some.1 hx
      exact (congrArg (·.sect) hf).symm
  · obtain rfl : sect = .header := by cases sect <;> simp_all [laterSections]
    refine iff_of_false (fun hf => ?_) fun hf => hf.1
    rw [missingIn_eq] at hf
    obtain ⟨sect, hmem, hx⟩ := List.exists_of_findSome?_eq_some hf
    obtain ⟨_, _, hf⟩ := failureAt_eq_some.1 hx
    obtain rfl : Section.header = sect := congrArg (·.sect) hf
    exact hs hmem

/-! ## Reasons 2 to 16 -/

/-- The section in which a reason is reported; an absent record is reported in its own. -/
def reasonSection : CheckReason → Section
  | .sectionMissing | .countRange | .noExit => .header
  | .nodeDegree => .nodes
  | .linkEndpoint | .linkZone => .links
  | .windowAlign | .windowOverlap | .windowZone => .windows
  | .exitNode | .portalCount | .portalPort => .exits
  | .signAddress | .signNode | .signMap | .signGroup => .signs

/-- A record fails a reason of R15. -/
def reasonFails (g : Staging) (h : Header) (p : Plan) (r : CheckReason) (k : Nat) : Prop :=
  match r with
  | .sectionMissing => ∃ sect, missingAt g h sect k
  | .countRange => k = 0 ∧ (h.planId = 0 ∨ h.nodeCount = 0 ∨ 384 < h.nodeCount ∨ 768 < h.linkCount ∨
      64 < h.zoneCount ∨ 16 < h.windowCount ∨ 32 < h.exitCount ∨ 250 < h.signCount)
  | .linkEndpoint => ∃ l, p.links[k]? = some l ∧ (h.nodeCount ≤ l.a ∨ h.nodeCount ≤ l.b ∨ l.a = l.b)
  | .linkZone => ∃ l, p.links[k]? = some l ∧ h.zoneCount ≤ l.zone
  | .nodeDegree => k < h.nodeCount ∧ 8 < (p.links.filter fun l => decide (l.a = k ∨ l.b = k)).length
  | .windowAlign => ∃ w, p.windows[k]? = some w ∧
      (w.base = 0 ∨ w.base % w.size ≠ 0 ∨ 1023 < w.base + w.size - 1)
  | .windowOverlap => ∃ w, p.windows[k]? = some w ∧ ∃ j v, j < k ∧ p.windows[j]? = some v ∧
      w.base < v.base + v.size ∧ v.base < w.base + w.size
  | .windowZone => ∃ w, p.windows[k]? = some w ∧ h.zoneCount ≤ w.zone
  | .exitNode => ∃ e, p.exits[k]? = some e ∧
      (h.nodeCount ≤ e.node ∨ ∃ j d, j < k ∧ p.exits[j]? = some d ∧ d.node = e.node)
  | .portalCount => ∃ e, p.exits[k]? = some e ∧ e.portal ≠ none ∧
      8 ≤ ((p.exits.take k).filter fun d => d.portal.isSome).length
  | .portalPort => ∃ e f, p.exits[k]? = some e ∧ e.portal = some f ∧ expectedId h f.port = 0
  | .signAddress => ∃ x, p.signs[k]? = some x ∧
      (x.address = 0 ∨ 250 < x.address ∨ ∃ j y, j < k ∧ p.signs[j]? = some y ∧ y.address = x.address)
  | .signNode => ∃ x, p.signs[k]? = some x ∧ h.nodeCount ≤ x.node
  | .signMap => ∃ x, p.signs[k]? = some x ∧
      ((∃ e ∈ x.map, ∀ l, p.links[e.1]? = some l → l.a ≠ x.node ∧ l.b ≠ x.node) ∨
        ¬ (x.map.map (·.1)).Nodup ∨ ¬ (x.map.map (·.2)).Nodup ∨
        ∃ j l, p.links[j]? = some l ∧ j ∉ x.map.map (·.1) ∧
          ((l.a = x.node ∧ l.passage ≠ .bToA) ∨ (l.b = x.node ∧ l.passage ≠ .aToB)))
  | .signGroup => ∃ x, p.signs[k]? = some x ∧ ((∃ n ∈ x.groups, 15 < n) ∨ ¬ x.groups.Nodup)
  | .noExit => k = 0 ∧ h.exitCount = 0

/-- The lowest index that a reason after the first finds. -/
def reasonIndex (h : Header) (p : Plan) : CheckReason → Option Nat
  | .sectionMissing => none
  | .countRange => if countsBad h then some 0 else none
  | .linkEndpoint => firstBad (endpointBad h) p.links
  | .linkZone => firstBad (fun l => decide (h.zoneCount ≤ l.zone)) p.links
  | .nodeDegree => (List.range h.nodeCount).find? fun u => decide (8 < degree p.links u)
  | .windowAlign => firstBad alignBad p.windows
  | .windowOverlap => firstFailure (fun before w => before.any (windowsMeet w)) [] 0 p.windows
  | .windowZone => firstBad (fun w => decide (h.zoneCount ≤ w.zone)) p.windows
  | .exitNode => firstFailure (exitNodeBad h) [] 0 p.exits
  | .portalCount => firstFailure ninthPortal [] 0 p.exits
  | .portalPort => firstBad (portalPortBad h) p.exits
  | .signAddress => firstFailure signAddressBad [] 0 p.signs
  | .signNode => firstBad (fun x => decide (h.nodeCount ≤ x.node)) p.signs
  | .signMap => firstBad (signMapBad p.links) p.signs
  | .signGroup => firstBad signGroupBad p.signs
  | .noExit => if decide (h.exitCount = 0) then some 0 else none

/-- The reasons after the first, in the order of R15. -/
def laterReasons : List CheckReason :=
  [.countRange, .linkEndpoint, .linkZone, .nodeDegree, .windowAlign, .windowOverlap, .windowZone, .exitNode,
   .portalCount, .portalPort, .signAddress, .signNode, .signMap, .signGroup, .noExit]

/-- What the reasons after the first find. -/
def laterFailure (h : Header) (p : Plan) : Option FailureReport :=
  laterReasons.findSome? fun r => failureAt r (reasonSection r) (reasonIndex h p r)

theorem checkWithHeader_eq (g : Staging) (h : Header) :
    checkWithHeader g h = (missingIn g h <|> laterFailure h (planOf g h)) := by
  simp only [checkWithHeader, laterFailure, laterReasons, findSome?_cons_orElse, List.findSome?_nil, orElse_none_right,
    failureOfHeader_eq]
  rfl

/-! ## What each reason finds -/

theorem repeats_iff (l : List Nat) : repeats l = true ↔ ¬ l.Nodup := by
  induction l with
  | nil => simp [repeats]
  | cons n l ih => simp [repeats, ih, List.nodup_cons, imp_iff_not_or]

/-- A record before index `k`, in the list of those before. -/
theorem any_before {α : Type} (xs : List α) (k : Nat) (q : α → Bool) :
    (xs.take k).reverse.any q = true ↔ ∃ j y, j < k ∧ xs[j]? = some y ∧ q y = true := by
  rw [List.any_reverse, List.any_eq_true]
  constructor
  · rintro ⟨y, hy, hq⟩
    obtain ⟨j, hj⟩ := List.mem_iff_getElem?.1 hy
    rw [List.getElem?_take] at hj
    by_cases hlt : j < k
    · exact ⟨j, y, hlt, by simpa [hlt] using hj, hq⟩
    · simp [hlt] at hj
  · rintro ⟨j, y, hlt, hj, hq⟩
    exact ⟨y, List.mem_iff_getElem?.2 ⟨j, by rw [List.getElem?_take_of_lt hlt, hj]⟩, hq⟩

theorem permitsOut_iff (l : LinkRec) (u : Nat) :
    permitsOut l u = true ↔ (l.a = u ∧ l.passage ≠ .bToA) ∨ (l.b = u ∧ l.passage ≠ .aToB) := by
  unfold permitsOut farNode goesAB goesBA
  split
  · next h => simp at h; simp [h]
  · next h =>
    split
    · next h' => simp at h h'; simp [h']
    · next h' => simp at h h'; simp; exact ⟨h, h'⟩

theorem mapEntryBad_iff (links : List LinkRec) (node : Nat) (e : Nat × Nat) :
    mapEntryBad links node e = true ↔ ∀ l, links[e.1]? = some l → l.a ≠ node ∧ l.b ≠ node := by
  unfold mapEntryBad
  cases links[e.1]? <;> simp

theorem unnamedLink_iff (links : List LinkRec) (x : SignRec) :
    unnamedLink links x = true ↔ ∃ j l, links[j]? = some l ∧ j ∉ x.map.map (·.1) ∧
      ((l.a = x.node ∧ l.passage ≠ .bToA) ∨ (l.b = x.node ∧ l.passage ≠ .aToB)) := by
  rw [unnamedLink, List.any_eq_true]
  simp only [Bool.and_eq_true, permitsOut_iff, Bool.not_eq_true', List.contains_eq_mem, decide_eq_false_iff_not]
  constructor
  · rintro ⟨⟨l, j⟩, hmem, hout, hnot⟩
    exact ⟨j, l, List.mem_zipIdx_iff_getElem?.1 hmem, hnot, hout⟩
  · rintro ⟨j, l, hl, hnot, hout⟩
    exact ⟨(l, j), List.mem_zipIdx_iff_getElem?.2 hl, hout, hnot⟩

theorem signMapBad_iff (links : List LinkRec) (x : SignRec) :
    signMapBad links x = true ↔
      ((∃ e ∈ x.map, ∀ l, links[e.1]? = some l → l.a ≠ x.node ∧ l.b ≠ x.node) ∨
        ¬ (x.map.map (·.1)).Nodup ∨ ¬ (x.map.map (·.2)).Nodup ∨
        ∃ j l, links[j]? = some l ∧ j ∉ x.map.map (·.1) ∧
          ((l.a = x.node ∧ l.passage ≠ .bToA) ∨ (l.b = x.node ∧ l.passage ≠ .aToB))) := by
  simp only [signMapBad, Bool.or_eq_true, List.any_eq_true, mapEntryBad_iff, repeats_iff, unnamedLink_iff, or_assoc]

theorem portalPortBad_iff (h : Header) (e : ExitRec) :
    portalPortBad h e = true ↔ ∃ f, e.portal = some f ∧ expectedId h f.port = 0 := by
  unfold portalPortBad
  cases e.portal <;> simp

/-- Each reason after the first finds the lowest index whose record fails it. -/
theorem reasonIndex_lowest (g : Staging) (h : Header) (p : Plan) {r : CheckReason} (hr : r ≠ .sectionMissing) :
    Lowest (reasonIndex h p r) (reasonFails g h p r) := by
  cases r with
  | sectionMissing => exact absurd rfl hr
  | countRange => exact (header_lowest _).congr fun k => and_congr_right fun _ => decide_eq_true_iff
  | linkEndpoint => exact (firstBad_lowest _ _).congr fun k => by simp only [endpointBad, decide_eq_true_eq, reasonFails]
  | linkZone => exact (firstBad_lowest _ _).congr fun k => by simp only [decide_eq_true_eq, reasonFails]
  | nodeDegree => exact (find?_range_lowest _ _).congr fun k => and_congr_right fun _ => decide_eq_true_iff
  | windowAlign => exact (firstBad_lowest _ _).congr fun k => by simp only [alignBad, decide_eq_true_eq, reasonFails]
  | windowOverlap =>
    exact (firstFailure_lowest _ _).congr fun k => by
      simp only [any_before, windowsMeet, decide_eq_true_eq, reasonFails]
  | windowZone => exact (firstBad_lowest _ _).congr fun k => by simp only [decide_eq_true_eq, reasonFails]
  | exitNode =>
    exact (firstFailure_lowest _ _).congr fun k => by
      simp only [exitNodeBad, Bool.or_eq_true, any_before, decide_eq_true_eq, reasonFails]
  | portalCount =>
    exact (firstFailure_lowest _ _).congr fun k => by
      simp [ninthPortal, Config.maxPortals, List.filter_reverse, reasonFails, Option.isSome_iff_ne_none]
  | portalPort =>
    exact (firstBad_lowest _ _).congr fun k => by
      simp only [portalPortBad_iff, reasonFails, exists_and_left]
  | signAddress =>
    exact (firstFailure_lowest _ _).congr fun k => by
      simp only [signAddressBad, Bool.or_eq_true, any_before, decide_eq_true_eq, reasonFails, or_assoc]
  | signNode => exact (firstBad_lowest _ _).congr fun k => by simp only [decide_eq_true_eq, reasonFails]
  | signMap => exact (firstBad_lowest _ _).congr fun k => by simp only [signMapBad_iff, reasonFails]
  | signGroup =>
    exact (firstBad_lowest _ _).congr fun k => by
      simp only [signGroupBad, Bool.or_eq_true, List.any_eq_true, decide_eq_true_eq, repeats_iff, reasonFails]
  | noExit => exact (header_lowest _).congr fun k => and_congr_right fun _ => decide_eq_true_iff

/-! ## The report of the check -/

theorem orElse_eq_none_iff {α : Type} (a b : Option α) : (a <|> b) = none ↔ a = none ∧ b = none := by
  cases a <;> simp

theorem orElse_eq_some_iff {α : Type} (a b : Option α) (x : α) :
    (a <|> b) = some x ↔ a = some x ∨ a = none ∧ b = some x := by
  cases a <;> simp

theorem mem_laterReasons (r : CheckReason) : r ∈ laterReasons ↔ r ≠ .sectionMissing := by
  cases r <;> simp [laterReasons]

section
variable (g : Staging) (h : Header) (p : Plan)

theorem laterFailure_eq_none :
    laterFailure h p = none ↔ ∀ r k, r ≠ .sectionMissing → ¬ reasonFails g h p r k := by
  rw [laterFailure, List.findSome?_eq_none_iff]
  simp only [failureAt_eq_none, mem_laterReasons]
  exact ⟨fun hnone r k hr => (reasonIndex_lowest g h p hr).eq_none_iff.1 (hnone r hr) k,
    fun hnone r hr => (reasonIndex_lowest g h p hr).eq_none_iff.2 fun k => hnone r k hr⟩

theorem laterFailure_eq_some {r : CheckReason} (hr : r ≠ .sectionMissing) (k : Nat) :
    laterFailure h p = some { reason := r, sect := reasonSection r, index := k } ↔
      (reasonFails g h p r k ∧ ∀ j, j < k → ¬ reasonFails g h p r j) ∧
        ∀ q j, q ≠ .sectionMissing → checkReasonCode q < checkReasonCode r → ¬ reasonFails g h p q j := by
  rw [laterFailure, findSome?_rising (code := checkReasonCode) (by simp [laterReasons, checkReasonCode])
    ((mem_laterReasons r).2 hr), failureAt_self, (reasonIndex_lowest g h p hr).eq_some_iff]
  · simp only [failureAt_eq_none, mem_laterReasons]
    refine and_congr_right fun _ => ⟨fun hlow q j hq hlt => ?_, fun hlow q hq hlt => ?_⟩
    · exact (reasonIndex_lowest g h p hq).eq_none_iff.1 (hlow q hq hlt) j
    · exact (reasonIndex_lowest g h p hq).eq_none_iff.2 fun j => hlow q j hq hlt
  · intro x hx
    obtain ⟨_, _, hf⟩ := failureAt_eq_some.1 hx
    exact (congrArg (·.reason) hf).symm

theorem laterFailure_report {f : FailureReport} (hf : laterFailure h p = some f) :
    f.reason ≠ .sectionMissing ∧ f.sect = reasonSection f.reason := by
  obtain ⟨r, hr, hs⟩ := List.exists_of_findSome?_eq_some hf
  obtain ⟨k, _, rfl⟩ := failureAt_eq_some.1 hs
  exact ⟨(mem_laterReasons r).1 hr, rfl⟩

end

section
variable {g : Staging} {h : Header} (hh : slotGet g.header 0 = some h)
include hh

theorem planCheck_eq : planCheck g = (missingIn g h <|> laterFailure h (planOf g h)) := by
  rw [planCheck, hh]
  exact checkWithHeader_eq g h

theorem planCheck_eq_none : planCheck g = none ↔ ∀ r k, ¬ reasonFails g h (planOf g h) r k := by
  rw [planCheck_eq hh, orElse_eq_none_iff, missingIn_eq_none, laterFailure_eq_none g]
  refine ⟨fun ⟨hmissing, hlater⟩ r k => ?_, fun hnone => ⟨fun sect k hm => ?_, fun r k _ => hnone r k⟩⟩
  · by_cases hr : r = .sectionMissing
    · subst hr
      exact fun ⟨sect, hm⟩ => hmissing sect k hm
    · exact hlater r k hr
  · exact hnone .sectionMissing k ⟨sect, hm⟩

theorem planCheck_eq_some {r : CheckReason} (hr : r ≠ .sectionMissing) (k : Nat) :
    planCheck g = some { reason := r, sect := reasonSection r, index := k } ↔
      reasonFails g h (planOf g h) r k ∧ (∀ j, j < k → ¬ reasonFails g h (planOf g h) r j) ∧
        ∀ q j, checkReasonCode q < checkReasonCode r → ¬ reasonFails g h (planOf g h) q j := by
  have hfirst : checkReasonCode .sectionMissing < checkReasonCode r := by cases r <;> simp_all [checkReasonCode]
  rw [planCheck_eq hh, orElse_eq_some_iff, missingIn_eq_none, laterFailure_eq_some g h _ hr]
  constructor
  · rintro (hm | ⟨hmissing, ⟨hk, hbelow⟩, hearlier⟩)
    · exact absurd (missingIn_reason hm) hr
    · refine ⟨hk, hbelow, fun q j hlt => ?_⟩
      by_cases hq : q = .sectionMissing
      · subst hq
        exact fun ⟨sect, hm⟩ => hmissing sect j hm
      · exact hearlier q j hq hlt
  · rintro ⟨hk, hbelow, hearlier⟩
    exact .inr ⟨fun sect j hm => hearlier .sectionMissing j hfirst ⟨sect, hm⟩, ⟨hk, hbelow⟩,
      fun q j _ => hearlier q j⟩

theorem planCheck_eq_missing (sect : Section) (k : Nat) :
    planCheck g = some { reason := .sectionMissing, sect := sect, index := k } ↔
      missingAt g h sect k ∧ (∀ j, j < k → ¬ missingAt g h sect j) ∧
        ∀ other j, sectionCode other < sectionCode sect → ¬ missingAt g h other j := by
  rw [planCheck_eq hh, orElse_eq_some_iff, ← missingIn_eq_some]
  refine or_iff_left fun ⟨_, hlater⟩ => ?_
  obtain ⟨hr, _⟩ := laterFailure_report h _ hlater
  exact hr rfl

theorem planCheck_sect {f : FailureReport} (hf : planCheck g = some f) (hr : f.reason ≠ .sectionMissing) :
    f.sect = reasonSection f.reason := by
  rw [planCheck_eq hh, orElse_eq_some_iff] at hf
  rcases hf with hm | ⟨_, hlater⟩
  · exact absurd (missingIn_reason hm) hr
  · exact (laterFailure_report h _ hlater).2

end

/-! ## A plan that no reason fails -/

theorem slotDense_length {α : Type} {slots : Slots α} {n : Nat} (hn : ∀ k, k < n → slotGet slots k ≠ none) :
    (slotDense slots n).length = n := by
  induction n with
  | zero => rfl
  | succ n ih =>
    obtain ⟨x, hx⟩ := Option.ne_none_iff_exists'.1 (hn n (Nat.lt_succ_self n))
    have hlen := ih fun k hk => hn k (Nat.lt_succ_of_lt hk)
    unfold slotDense at hlen ⊢
    rw [List.range_succ, List.filterMap_append, List.length_append, hlen]
    simp [hx]

/-- At most `n` members have a property when every one that has it comes after fewer than `n` of them. -/
theorem length_filter_le {α : Type} {q : α → Bool} {n : Nat} (xs : List α)
    (hx : ∀ k x, xs[k]? = some x → q x = true → ((xs.take k).filter q).length < n) : (xs.filter q).length ≤ n := by
  induction xs using List.reverseRecOn with
  | nil => exact Nat.zero_le _
  | append_singleton xs x ih =>
    by_cases hq : q x = true
    · have := hx xs.length x (by simp) hq
      rw [List.take_left] at this
      simp [hq]
      omega
    · rw [List.filter_append]
      simp only [List.filter_singleton, hq, cond_false, List.append_nil]
      refine ih fun k y hy hqy => ?_
      have hk := (List.getElem?_eq_some_iff.1 hy).1
      have := hx k y (by rw [List.getElem?_append_left hk, hy]) hqy
      rwa [List.take_append_of_le_length hk.le] at this

/-- A relation that holds of every record with each before it holds of the list pairwise. -/
theorem pairwise_of_before {α : Type} {R : α → α → Prop} {xs : List α}
    (hR : ∀ (k : Nat) (x : α), xs[k]? = some x → ∀ (j : Nat) (y : α), j < k → xs[j]? = some y → R y x) :
    xs.Pairwise R :=
  List.pairwise_iff_getElem.2 fun j k hj hk hlt =>
    hR k _ (List.getElem?_eq_getElem hk) j _ hlt (List.getElem?_eq_getElem hj)

section
variable {g : Staging} {h : Header} (hF : ∀ r k, ¬ reasonFails g h (planOf g h) r k)
include hF

theorem counts_of_sound : 1 ≤ h.planId ∧ 1 ≤ h.nodeCount ∧ h.nodeCount ≤ 384 ∧ h.linkCount ≤ 768 ∧ h.zoneCount ≤ 64 ∧
    h.windowCount ≤ 16 ∧ 1 ≤ h.exitCount ∧ h.exitCount ≤ 32 ∧ h.signCount ≤ 250 := by
  have hrange : ¬ _ := fun hc => hF .countRange 0 ⟨rfl, hc⟩
  have hexit : ¬ _ := fun hc => hF .noExit 0 ⟨rfl, hc⟩
  omega

theorem lengths_of_sound :
    (planOf g h).nodes.length = h.nodeCount ∧ (planOf g h).links.length = h.linkCount ∧
    (planOf g h).zones.length = h.zoneCount ∧ (planOf g h).windows.length = h.windowCount ∧
    (planOf g h).exits.length = h.exitCount ∧ (planOf g h).signs.length = h.signCount := by
  obtain ⟨_, _, hn, hl, hz, hw, _, he, hs⟩ := counts_of_sound hF
  refine ⟨slotDense_length fun k hk hx => hF .sectionMissing k ⟨.nodes, hk, by omega, hx⟩,
    slotDense_length fun k hk hx => hF .sectionMissing k ⟨.links, hk, by omega, hx⟩,
    slotDense_length fun k hk hx => hF .sectionMissing k ⟨.zones, hk, by omega, hx⟩,
    slotDense_length fun k hk hx => hF .sectionMissing k ⟨.windows, hk, by omega, hx⟩,
    slotDense_length fun k hk hx => hF .sectionMissing k ⟨.exits, hk, by omega, hx⟩,
    slotDense_length fun k hk hx => hF .sectionMissing k ⟨.signs, hk, by omega, hx⟩⟩

theorem link_of_sound {l : LinkRec} (hl : l ∈ (planOf g h).links) :
    l.a < h.nodeCount ∧ l.b < h.nodeCount ∧ l.a ≠ l.b ∧ l.zone < h.zoneCount := by
  obtain ⟨k, hk⟩ := List.mem_iff_getElem?.1 hl
  have hend : ¬ _ := fun hc => hF .linkEndpoint k ⟨l, hk, hc⟩
  have hzone : ¬ _ := fun hc => hF .linkZone k ⟨l, hk, hc⟩
  omega

theorem degree_of_sound {u : Nat} (hu : u < h.nodeCount) :
    ((planOf g h).links.filter fun l => decide (l.a = u ∨ l.b = u)).length ≤ 8 :=
  Nat.le_of_not_lt fun hc => hF .nodeDegree u ⟨hu, hc⟩

theorem window_of_sound {w : WindowRec} (hw : w ∈ (planOf g h).windows) :
    1 ≤ w.base ∧ w.base % w.size = 0 ∧ w.base + w.size ≤ 1024 ∧ w.zone < h.zoneCount := by
  obtain ⟨k, hk⟩ := List.mem_iff_getElem?.1 hw
  have halign : ¬ _ := fun hc => hF .windowAlign k ⟨w, hk, hc⟩
  have hzone : ¬ _ := fun hc => hF .windowZone k ⟨w, hk, hc⟩
  omega

theorem windows_of_sound :
    (planOf g h).windows.Pairwise fun v w => v.base + v.size ≤ w.base ∨ w.base + w.size ≤ v.base :=
  pairwise_of_before fun k w hk j v hj hv => by
    have hmeet : ¬ _ := fun hc => hF .windowOverlap k ⟨w, hk, j, v, hj, hv, hc⟩
    omega

theorem exit_of_sound {e : ExitRec} (he : e ∈ (planOf g h).exits) :
    e.node < h.nodeCount ∧ ∀ f, e.portal = some f → expectedId h f.port ≠ 0 := by
  obtain ⟨k, hk⟩ := List.mem_iff_getElem?.1 he
  exact ⟨Nat.lt_of_not_le fun hc => hF .exitNode k ⟨e, hk, .inl hc⟩, fun f hf hc => hF .portalPort k ⟨e, f, hk, hf, hc⟩⟩

theorem exits_of_sound : (planOf g h).exits.Pairwise fun d e => d.node ≠ e.node :=
  pairwise_of_before fun k e hk j d hj hd hc => hF .exitNode k ⟨e, hk, .inr ⟨j, d, hj, hd, hc⟩⟩

theorem portals_of_sound : ((planOf g h).exits.filter fun e => e.portal.isSome).length ≤ 8 :=
  length_filter_le _ fun k e hk hp =>
    Nat.lt_of_not_le fun hc => hF .portalCount k ⟨e, hk, Option.isSome_iff_ne_none.1 hp, hc⟩

theorem sign_of_sound {x : SignRec} (hx : x ∈ (planOf g h).signs) :
    1 ≤ x.address ∧ x.address ≤ 250 ∧ x.node < h.nodeCount ∧ (x.map.map (·.1)).Nodup ∧
      (x.map.map (·.2)).Nodup ∧ x.groups.Nodup ∧ (∀ n ∈ x.groups, n ≤ 15) ∧
      (∀ e ∈ x.map, ∃ l : LinkRec, (planOf g h).links[e.1]? = some l ∧ (l.a = x.node ∨ l.b = x.node)) ∧
      ∀ (k : Nat) (l : LinkRec), (planOf g h).links[k]? = some l → permitsOut l x.node = true →
        k ∈ x.map.map (·.1) := by
  obtain ⟨k, hk⟩ := List.mem_iff_getElem?.1 hx
  have haddress := fun hc => hF .signAddress k ⟨x, hk, hc⟩
  have hmap := fun hc => hF .signMap k ⟨x, hk, hc⟩
  have hgroup := fun hc => hF .signGroup k ⟨x, hk, hc⟩
  refine ⟨Nat.pos_of_ne_zero fun hc => haddress (.inl hc), Nat.le_of_not_lt fun hc => haddress (.inr (.inl hc)),
    Nat.lt_of_not_le fun hc => hF .signNode k ⟨x, hk, hc⟩, by_contra fun hc => hmap (.inr (.inl hc)),
    by_contra fun hc => hmap (.inr (.inr (.inl hc))), by_contra fun hc => hgroup (.inr hc),
    fun n hn => Nat.le_of_not_lt fun hc => hgroup (.inl ⟨n, hn, hc⟩), fun e he => by_contra fun hc => ?_,
    fun j l hl hout => by_contra fun hc => hmap (.inr (.inr (.inr ⟨j, l, hl, hc, (permitsOut_iff l x.node).1 hout⟩)))⟩
  exact hmap (.inl ⟨e, he, fun l hl => not_or.1 fun hnode => hc ⟨l, hl, hnode⟩⟩)

theorem signs_of_sound : (planOf g h).signs.Pairwise fun x y => x.address ≠ y.address :=
  pairwise_of_before fun k y hk j x hj hx hc => hF .signAddress k ⟨y, hk, .inr (.inr ⟨j, x, hj, hx, hc⟩)⟩

end

/-- A staged plan is the records of its bank under its header. -/
theorem stagedPlan_eq_some {g : Staging} {p : Plan} (hp : stagedPlan g = some p) :
    ∃ h, slotGet g.header 0 = some h ∧ p = planOf g h := by
  obtain ⟨h, hh, rfl⟩ := Option.map_eq_some_iff.1 hp
  exact ⟨h, hh, rfl⟩

/-- Settles O30: what a passed bank holds, and the report as the first of what the sixteen reasons find. -/
theorem checked_plan_is_sound : Obligations.checked_plan_is_sound := by
  refine ⟨fun g p hnone hp => ?_, fun g hh => by rw [planCheck, hh]; rfl, fun g h p hh hp => ?_⟩
  · obtain ⟨h, hh, rfl⟩ := stagedPlan_eq_some hp
    have hF := (planCheck_eq_none hh).1 hnone
    obtain ⟨h1, h2, h3, h4, h5, h6, h7, h8, h9⟩ := counts_of_sound hF
    obtain ⟨l1, l2, l3, l4, l5, l6⟩ := lengths_of_sound hF
    exact ⟨h1, h2, h3, h4, h5, h6, h7, h8, h9, l1, l2, l3, l4, l5, l6, fun _ => link_of_sound hF,
      fun _ => degree_of_sound hF, fun _ => window_of_sound hF, windows_of_sound hF, fun _ => exit_of_sound hF,
      exits_of_sound hF, portals_of_sound hF, fun _ => sign_of_sound hF, signs_of_sound hF⟩
  · obtain ⟨h', hh', rfl⟩ := stagedPlan_eq_some hp
    obtain rfl : h = h' := Option.some.inj (hh.symm.trans hh')
    exact ⟨planCheck_eq_none hh, fun r k hr => planCheck_eq_some hh hr k, planCheck_eq_missing hh,
      fun f hf hr => planCheck_sect hh hf hr⟩

end Sys2Proof.Machine
end

section
/-! SUPPORT. What every step keeps of the pending report table, the detector table and the lock machine (O5, O8). -/

namespace Sys2Proof.Machine

/-! ## The detector table as its addresses (R42) -/

/-- The indices of a slot list rise strictly, said of the indices alone. -/
theorem slotsWf_iff {α : Type} (slots : Slots α) :
    slotsWf slots = true ↔ (slots.map (·.1)).Pairwise (· < ·) := by
  induction slots with
  | nil => simp [slotsWf]
  | cons p rest ih => simp [slotsWf, ih]

/-- A write adds one slot at most. -/
theorem length_slotPut_le {α : Type} (slots : Slots α) (i : Nat) (x : α) :
    (slotPut slots i x).length ≤ slots.length + 1 := by
  induction slots with
  | nil => simp [slotPut]
  | cons p rest ih =>
    unfold slotPut
    split
    · simp
    · split
      · simp
      · simpa using ih

/-- A slot that is present stands in the list. -/
theorem mem_of_slotGet {α : Type} {slots : Slots α} {i : Nat} {x : α} (h : slotGet slots i = some x) :
    (i, x) ∈ slots := by
  induction slots with
  | nil => simp [slotGet] at h
  | cons p rest ih =>
    unfold slotGet at h
    split at h
    · next hi =>
      subst hi
      cases h
      exact List.mem_cons_self
    · exact List.mem_cons_of_mem _ (ih h)

/-- A write over a slot that is present adds none. -/
theorem length_slotPut_present {α : Type} {slots : Slots α} {i : Nat} {r : α} (x : α) (hw : slotsWf slots = true)
    (h : slotGet slots i = some r) : (slotPut slots i x).length = slots.length := by
  induction slots with
  | nil => simp [slotGet] at h
  | cons p rest ih =>
    simp only [slotsWf, Bool.and_eq_true, List.all_eq_true, decide_eq_true_eq] at hw
    obtain ⟨hlt, hwf⟩ := hw
    unfold slotGet at h
    unfold slotPut
    split at h
    · next hi =>
      subst hi
      simp
    · next hi =>
      have : p.1 < i := hlt _ (mem_of_slotGet h)
      rw [if_neg (by omega), if_neg (by omega)]
      simpa using ih hwf h

/-- Removing a slot that is present makes room for one. -/
theorem length_slotErase_lt {α : Type} {slots : Slots α} {i : Nat} {x : α} (h : (i, x) ∈ slots) :
    (slotErase slots i).length < slots.length :=
  List.length_filter_lt_length_iff_exists.2 ⟨_, h, by simp⟩

/-- The record that gives way stands in the table at NORMAL (R43). -/
theorem mem_of_oldestNormal {ds : Slots DetectorRec} {best : Nat × Nat} (h : oldestNormal ds = some best) :
    ∃ r, (best.2, r) ∈ ds ∧ r.level = .normal ∧ r.time = best.1 := by
  induction ds generalizing best with
  | nil => simp [oldestNormal] at h
  | cons d rest ih =>
    obtain ⟨a, r⟩ := d
    have older : ∀ b, oldestNormal rest = some b →
        ∃ x, (b.2, x) ∈ (a, r) :: rest ∧ x.level = .normal ∧ x.time = b.1 := fun b hb => by
      obtain ⟨x, hx, hn⟩ := ih hb
      exact ⟨x, List.mem_cons_of_mem _ hx, hn⟩
    unfold oldestNormal at h
    split at h
    · split at h
      · next hr =>
        cases h
        exact ⟨r, List.mem_cons_self, hr, rfl⟩
      · cases h
    · next b hb =>
      split at h
      · next hr =>
        cases h
        exact ⟨r, List.mem_cons_self, hr.1, rfl⟩
      · cases h
        exact older _ hb

/-! ## The pending report table as its addresses (R37) -/

theorem reportsOk_iff (di : Intake) :
    ReportsOk di ↔ (di.reports.map (·.address)).length ≤ Config.maxPending ∧ (di.reports.map (·.address)).Nodup := by
  rw [List.length_map, List.Nodup, List.pairwise_map]
  exact ⟨fun h => ⟨h.bounded, h.distinct⟩, fun h => ⟨h.1, h.2⟩⟩

/-- A table whose addresses are some of another's, in their order. -/
theorem ReportsOk.of_sublist {a b : Intake} (h : ReportsOk a)
    (hs : (b.reports.map (·.address)).Sublist (a.reports.map (·.address))) : ReportsOk b := by
  rw [reportsOk_iff] at h ⊢
  exact ⟨hs.length_le.trans h.1, hs.nodup h.2⟩

/-- A merge leaves the addresses as they were (R39). -/
theorem mergeInto_addresses (reports : List PendingEntry) (a : Nat) (l : Level) (q : Option Nat) (src : Source) :
    (mergeInto reports a l q src).map (·.address) = reports.map (·.address) := by
  rw [mergeInto, List.map_map]
  refine List.map_congr_left fun e _ => ?_
  simp only [Function.comp_apply]
  split <;> rfl

theorem hasEntry_iff (reports : List PendingEntry) (a : Nat) :
    hasEntry reports a = true ↔ ∃ e ∈ reports, e.address = a := by
  simp [hasEntry]

theorem hasEntry_eq_false (reports : List PendingEntry) (a : Nat) :
    hasEntry reports a = false ↔ ∀ e ∈ reports, e.address ≠ a := by
  simp [hasEntry]

/-- A report that reaches the table keeps it in bounds, one entry to an address (R38 to R40). -/
theorem reportsOk_tableReport (a zone : Nat) (l : Level) (q : Option Nat) (src : Source) {s : State}
    (h : ReportsOk s.di) : ReportsOk (tableReport a zone l q src s).di := by
  unfold tableReport
  split
  · refine h.of_sublist ?_
    simp [mergeInto_addresses]
  · next hn =>
    rw [Bool.not_eq_true, hasEntry_eq_false] at hn
    split
    · next hlt =>
      rw [reportsOk_iff] at h ⊢
      obtain ⟨_, hd⟩ := h
      refine ⟨by simpa using hlt, ?_⟩
      rw [List.map_append, List.nodup_append]
      refine ⟨hd, by simp, ?_⟩
      simpa [newEntry] using hn
    · exact h

/-! ## The lock machine (R26 to R28) -/

/-- What the lock machine takes stands in the Intake, and nothing else of it changes. -/
theorem setLock_di (n : LockState × Nat × Nat) (t : Timer) (p : Option Nat) (s : State) :
    (setLock n t p s).di =
      { s.di with lock := n.1, validRun := n.2.1, invalidRun := n.2.2, silence := t, panel := p } := by
  unfold setLock
  dsimp only
  (repeat' split) <;> rfl

/-- `LockOk` speaks of the lock state, the two counts and the silence timer alone. -/
theorem LockOk.of_parts {a b : Intake} (h : LockOk a) (hl : b.lock = a.lock) (hv : b.validRun = a.validRun)
    (hi : b.invalidRun = a.invalidRun) (ht : b.silence = none ↔ a.silence = none) : LockOk b := by
  unfold LockOk at h ⊢
  rw [hl, hv, hi, Ne, ht]
  exact h

/-- A valid frame starts the silence timer and leaves a count that its state allows (R26). -/
theorem lockOk_setLock_valid (n : Nat) (p : Option Nat) (s : State) :
    LockOk (setLock (lockAfterValid s.di) (some n) p s).di := by
  rw [setLock_di]
  unfold lockAfterValid
  split
  · simp [LockOk]
  · split
    · simp [LockOk]
      omega
    · simp [LockOk]
  · simp [LockOk]

/-- An invalid frame leaves the silence timer and a count that its state allows (R27). -/
theorem lockOk_setLock_invalid {s u : State} (h : LockOk s.di) :
    LockOk (setLock (lockAfterInvalid s.di) s.di.silence s.di.panel u).di := by
  rw [setLock_di]
  unfold LockOk at h
  unfold lockAfterInvalid
  cases hl : s.di.lock <;> simp only [hl] at h ⊢ <;> obtain ⟨hv, hi, ht⟩ := h
  · exact ⟨hv, hi, ht⟩
  · exact ⟨Nat.zero_le 2, rfl, ht⟩
  · split
    · exact ⟨rfl, Nat.succ_le_of_lt ‹_›, ht⟩
    · exact ⟨Nat.zero_le 2, rfl, ht⟩

/-- SILENT with both counts 0 and the timer idle (R28). -/
theorem lockOk_setLock_silent (p : Option Nat) (s : State) : LockOk (setLock (.silent, 0, 0) none p s).di := by
  rw [setLock_di]
  simp [LockOk]

/-! ## What a change keeps -/

/-- The change from `s` to `t` keeps each of the three properties: it runs through the commands once for all of them. -/
structure KeepsIntake (s t : State) : Prop where
  reports   : ReportsOk s.di → ReportsOk t.di
  detectors : DetectorsOk s.zh → DetectorsOk t.zh
  lock      : LockOk s.di → LockOk t.di

/-- The parts of a state of which the three properties speak. -/
def intakeParts (s : State) : Intake × Slots DetectorRec := (s.di, s.zh.detectors)

namespace KeepsIntake

variable {s t u : State}

theorem refl (s : State) : KeepsIntake s s := ⟨id, id, id⟩

theorem trans (h : KeepsIntake s t) (h' : KeepsIntake t u) : KeepsIntake s u :=
  ⟨h'.reports ∘ h.reports, h'.detectors ∘ h.detectors, h'.lock ∘ h.lock⟩

/-- A change that leaves the Intake and the detector table. -/
theorem of_same (h : intakeParts t = intakeParts s) : KeepsIntake s t := by
  obtain ⟨hdi, hdet⟩ := Prod.mk.inj h
  refine ⟨fun hr => hdi ▸ hr, fun hd => ⟨?_, ?_⟩, fun hl => hdi ▸ hl⟩
  · rw [hdet]
    exact hd.bounded
  · rw [hdet]
    exact hd.rising

/-- A change made on a state that has the Intake and the detector table of another. -/
theorem after (h : KeepsIntake t u) (e : intakeParts t = intakeParts s) : KeepsIntake s u := (of_same e).trans h

/-- A change of the Intake alone. -/
theorem of_intake (hz : t.zh.detectors = s.zh.detectors) (hr : ReportsOk s.di → ReportsOk t.di)
    (hl : LockOk s.di → LockOk t.di) : KeepsIntake s t :=
  ⟨hr, fun hd => ⟨hz ▸ hd.bounded, hz ▸ hd.rising⟩, hl⟩

/-- A change of the detector table alone. -/
theorem of_detectors (hdi : t.di = s.di) (hd : DetectorsOk s.zh → DetectorsOk t.zh) : KeepsIntake s t :=
  ⟨fun h => hdi ▸ h, hd, fun h => hdi ▸ h⟩

/-- A state with nothing pending, no detector record and the lock machine as after reset. -/
theorem of_reset (hr : t.di.reports = []) (hd : t.zh.detectors = []) (hl : LockOk t.di) : KeepsIntake s t :=
  ⟨fun _ => ⟨by simp [hr], by simp [hr]⟩, fun _ => ⟨by simp [hd], by simp [hd, slotsWf]⟩, fun _ => hl⟩

/-- A run of changes that each keep the three properties. -/
theorem foldl {α : Type} {f : State → α → State} (hf : ∀ s x, KeepsIntake s (f s x)) (xs : List α) :
    ∀ s : State, KeepsIntake s (xs.foldl f s) := by
  induction xs with
  | nil => exact refl
  | cons x xs ih => exact fun s => (hf s x).trans (ih _)

/-- What happens to a running part. -/
theorem whenRunning {f : State → State} (hf : ∀ s, KeepsIntake s (f s)) (s : State) :
    KeepsIntake s (whenRunning f s) := by
  unfold Machine.whenRunning
  split
  · exact hf s
  · exact refl s

end KeepsIntake

/-! ## What zones and the evacuation state change of the Zone Hazard Unit -/

section
variable (s : State)

theorem setEvac_zh (n : EvacState) (c : EvacCause) : (setEvac n c s).zh = { s.zh with evac := n } := by
  by_cases h : s.zh.evac = n
  · rw [setEvac_same _ _ _ h, ← h]
  · rw [setEvac_diff _ _ _ h, raise_zh]

theorem enterActive_zh (c : EvacCause) :
    (enterActive c s).zh = { s.zh with evac := .active, clock := { clockZero with running := true } } := by
  simp [enterActive]

/-- A zone's change of state reaches the evacuation state and the clock alone (R54, R59, R63). -/
theorem zoneChanged_zh (zone : Nat) (a b : ZoneState) :
    ∃ evac clock, (zoneChanged zone a b s).zh = { s.zh with evac := evac, clock := clock } := by
  unfold zoneChanged evacAfterZone
  split
  · exact ⟨_, _, rfl⟩
  · split
    · exact ⟨_, _, enterActive_zh _ _⟩
    · exact ⟨_, _, setEvac_zh _ _ _⟩

/-- A zone's record replaced, with the evacuation state and the clock as its change of state leaves them. -/
theorem updateZone_zh (zone : Nat) (a b : ZoneRun) :
    ∃ evac clock, (updateZone zone a b s).zh =
      { s.zh with zones := s.zh.zones.set zone b, evac := evac, clock := clock } := by
  unfold updateZone
  split
  · exact ⟨_, _, rfl⟩
  · exact zoneChanged_zh (setZone zone b s) zone a.state b.state

/-- A zone's record after its own evaluation. -/
def evaluatedIn (s : State) (zone : Nat) (peak : Level) (z : ZoneRun) : ZoneRun :=
  evaluated z (conditions s.zh.detectors zone z) peak (suspectTicks s) (clearHoldTicks s)

/-- An evaluation replaces the zone's record (R48). -/
theorem evaluateZone_zh (zone : Nat) (peak : Level) :
    ∃ evac clock, (evaluateZone zone peak s).zh =
      { s.zh with
        zones := s.zh.zones.modify zone (evaluatedIn s zone peak), evac := evac, clock := clock } := by
  unfold evaluateZone
  split
  · next h => exact ⟨_, _, by rw [List.modify_eq_self (List.getElem?_eq_none_iff.1 h)]⟩
  · next z h =>
    obtain ⟨evac, clock, hz⟩ := updateZone_zh s zone z (evaluatedIn s zone peak z)
    exact ⟨evac, clock, hz.trans (by rw [List.modify_eq_set_getElem?, h]; rfl)⟩

@[simp] theorem setEvac_detectors (n : EvacState) (c : EvacCause) :
    (setEvac n c s).zh.detectors = s.zh.detectors := by rw [setEvac_zh]

@[simp] theorem enterActive_detectors (c : EvacCause) : (enterActive c s).zh.detectors = s.zh.detectors := by
  rw [enterActive_zh]

@[simp] theorem leaveActive_detectors (c : EvacCause) : (leaveActive c s).zh.detectors = s.zh.detectors := by
  simp [leaveActive]

@[simp] theorem setZone_detectors (zone : Nat) (z : ZoneRun) : (setZone zone z s).zh.detectors = s.zh.detectors := rfl

@[simp] theorem updateZone_detectors (zone : Nat) (a b : ZoneRun) :
    (updateZone zone a b s).zh.detectors = s.zh.detectors := by
  obtain ⟨_, _, h⟩ := updateZone_zh s zone a b
  rw [h]

@[simp] theorem evaluateZone_detectors (zone : Nat) (peak : Level) :
    (evaluateZone zone peak s).zh.detectors = s.zh.detectors := by
  obtain ⟨_, _, h⟩ := evaluateZone_zh s zone peak
  rw [h]

@[simp] theorem setUntracked_detectors (zone : Nat) : (setUntracked zone s).zh.detectors = s.zh.detectors := by
  unfold setUntracked
  split <;> rfl

@[simp] theorem setUntracked_di (zone : Nat) : (setUntracked zone s).di = s.di := by
  unfold setUntracked
  split <;> rfl

end

variable (s : State)

theorem keeps_onLine (id : LineId) (f : LineRec → LineRec) : KeepsIntake s (s.onLine id f) := .of_same rfl

theorem keeps_suspectExpiry (n : Nat) : KeepsIntake s (suspectExpiry n s) :=
  .of_same (by unfold suspectExpiry; (repeat' split) <;> simp [intakeParts])

theorem keeps_clearHoldExpiry (n : Nat) : KeepsIntake s (clearHoldExpiry n s) :=
  .of_same (by unfold clearHoldExpiry; (repeat' split) <;> simp [intakeParts])

/-! ## Detector Intake -/

theorem keeps_makeReport (a : Nat) (l : Level) (q : Option Nat) (src : Source) :
    KeepsIntake s (makeReport a l q src s) := by
  unfold makeReport
  split
  · exact .of_same rfl
  · split
    · exact .of_same rfl
    · refine .of_intake (by simp) (reportsOk_tableReport _ _ _ _ _) fun h => ?_
      unfold tableReport
      (repeat' split) <;> exact h.of_parts rfl rfl rfl Iff.rfl

/-- The lock machine changes; the tables stay. -/
theorem keeps_setLock {n : LockState × Nat × Nat} {t : Timer} {p : Option Nat} {s : State}
    (h : LockOk s.di → LockOk (setLock n t p s).di) : KeepsIntake s (setLock n t p s) := by
  refine .of_intake (by simp) (fun hr => ?_) h
  rw [setLock_di]
  exact ⟨hr.bounded, hr.distinct⟩

theorem keeps_detectorValid (f : DetectorFrame) : KeepsIntake s (detectorValid f s) := by
  cases f with
  | supervise panel => exact keeps_setLock fun _ => lockOk_setLock_valid _ _ s
  | report a l q =>
    have hlock : KeepsIntake s (setLock (lockAfterValid s.di) (some (silenceTicks s)) s.di.panel s) :=
      keeps_setLock fun _ => lockOk_setLock_valid _ _ s
    unfold detectorValid
    dsimp only
    split
    · exact hlock.trans (keeps_makeReport _ _ _ _ _)
    · exact hlock

theorem keeps_detectorInvalid (err : Bool) : KeepsIntake s (detectorInvalid err s) := by
  cases err with
  | false => exact keeps_setLock lockOk_setLock_invalid
  | true =>
    exact (keeps_setLock (s := capture .lineCharError 1 s) lockOk_setLock_invalid).after rfl

theorem keeps_detectorEvent (e : RxEvent) : KeepsIntake s (detectorEvent s e) := by
  unfold detectorEvent
  split
  · exact keeps_detectorInvalid _ _
  · split
    · exact keeps_detectorInvalid _ _
    · split
      · exact keeps_detectorValid _ _
      · exact keeps_detectorInvalid _ _

theorem keeps_detectorChar (c : RxChar) : KeepsIntake s (detectorChar s c) := by
  unfold detectorChar
  dsimp only
  split
  · exact .refl s
  · exact (keeps_onLine s _ _).trans (.foldl keeps_detectorEvent _ _)

theorem keeps_silenceExpiry : KeepsIntake s (silenceExpiry s) := by
  unfold silenceExpiry
  split
  · exact keeps_setLock fun _ => lockOk_setLock_silent _ _
  · exact .refl s

theorem keeps_setChannel (n : Fin 8) (c : Channel) : KeepsIntake s (setChannel n c s) :=
  .of_intake rfl (fun h => ⟨h.bounded, h.distinct⟩) fun h => h.of_parts rfl rfl rfl Iff.rfl

theorem keeps_contactReport (n : Fin 8) (a : Nat) (l : Option Level) : KeepsIntake s (contactReport n a l s) := by
  unfold contactReport
  split
  · exact .refl s
  · split
    · exact .refl s
    · exact keeps_makeReport _ _ _ _ _

theorem keeps_acceptChange (n : Fin 8) : KeepsIntake s (acceptChange n s) := by
  unfold acceptChange
  dsimp only
  split
  · exact (keeps_setChannel _ _ _).trans (keeps_contactReport _ _ _ _)
  · exact .refl s

theorem keeps_widthLimit (n : Fin 8) : KeepsIntake s (widthLimit n s) := by
  unfold widthLimit
  dsimp only
  split
  · exact .refl s
  · exact .refl s
  · split
    · exact (keeps_setChannel _ _ _).trans (keeps_contactReport _ _ _ _)
    · exact .refl s

theorem keeps_sampleContacts (levels : BitVec 8) : KeepsIntake s (sampleContacts levels s) :=
  .foldl (fun s n => ((keeps_acceptChange s n).trans (keeps_widthLimit _ n)).trans (keeps_setChannel _ _ _)) _ s

/-! ## Takes -/

theorem keeps_takeBegin : KeepsIntake s (takeBegin s) := by
  unfold takeBegin
  split
  · next e rest _ hr =>
    have hhead : KeepsIntake s (fire .reportTaken 1 { s with di := { s.di with reports := rest } }) :=
      .of_intake rfl (fun h => h.of_sublist (by simp [hr])) fun h => h.of_parts rfl rfl rfl Iff.rfl
    dsimp only
    split
    · exact hhead.trans (.of_same rfl)
    · exact hhead.trans (.of_same rfl)
  · exact .refl s

theorem applyTake_di (e : PendingEntry) (r : DetectorRec) : (applyTake e r s).di = s.di := by simp [applyTake]

theorem untrackedTake_di (e : PendingEntry) : (untrackedTake e s).di = s.di := by
  unfold untrackedTake
  dsimp only
  split <;> simp

theorem untrackedTake_detectors (e : PendingEntry) : (untrackedTake e s).zh.detectors = s.zh.detectors := by
  unfold untrackedTake
  dsimp only
  split <;> simp

theorem tableTake_di (e : PendingEntry) : (tableTake e s).di = s.di := by
  unfold tableTake
  (repeat' split) <;> simp [applyTake_di, untrackedTake_di]

variable {s} in
/-- A take applied where its record stands, or where there is room for one. -/
theorem detectorsOk_applyTake (e : PendingEntry) (r : DetectorRec) (h : DetectorsOk s.zh)
    (hroom : slotGet s.zh.detectors e.address = none → s.zh.detectors.length < Config.maxDetectors) :
    DetectorsOk (applyTake e r s).zh := by
  refine ⟨?_, ?_⟩ <;> rw [applyTake, evaluateZone_detectors]
  · cases hg : slotGet s.zh.detectors e.address with
    | none => exact (length_slotPut_le _ _ _).trans (hroom hg)
    | some x => exact (length_slotPut_present _ h.rising hg).trans_le h.bounded
  · exact slotsWf_slotPut _ _ _ h.rising

variable {s} in
/-- A take leaves at most 256 records, one for an address: a full table first loses the record that gives way (R43). -/
theorem detectorsOk_tableTake (e : PendingEntry) (h : DetectorsOk s.zh) : DetectorsOk (tableTake e s).zh := by
  unfold tableTake
  split
  · next r hr =>
    have hroom : slotGet s.zh.detectors e.address = none → s.zh.detectors.length < Config.maxDetectors := fun hn => by
      simp [hr] at hn
    split
    · exact h
    · exact detectorsOk_applyTake (s := capture .sequenceGap e.address s) e r h hroom
    · exact detectorsOk_applyTake e r h hroom
  · split
    · next hlt => exact detectorsOk_applyTake e _ h fun _ => hlt
    · split
      · next best hbest =>
        obtain ⟨x, hx, _⟩ := mem_of_oldestNormal hbest
        have hlt := (length_slotErase_lt hx).trans_le h.bounded
        exact detectorsOk_applyTake
          (s := { s with zh := { s.zh with detectors := slotErase s.zh.detectors best.2 } })
          e _ ⟨hlt.le, slotsWf_slotErase _ _ h.rising⟩ fun _ => hlt
      · have e1 := untrackedTake_detectors s e
        exact ⟨e1 ▸ h.bounded, e1 ▸ h.rising⟩

theorem keeps_takeComplete : KeepsIntake s (takeComplete s) := by
  unfold takeComplete
  split
  · exact .refl s
  · dsimp only
    split
    · exact .of_same rfl
    · exact .of_detectors (tableTake_di _ _) fun h => detectorsOk_tableTake _ ⟨h.bounded, h.rising⟩

/-! ## Route Solver, Sign Line Controller and Peer Ports leave the Intake and the detector table -/

theorem keeps_refreshExpiry : KeepsIntake s (refreshExpiry s) :=
  .of_same (by unfold refreshExpiry; dsimp only; (repeat' split) <;> simp [intakeParts])

theorem keeps_showSent : KeepsIntake s (showSent s) :=
  .of_same (by unfold showSent recordSent; (repeat' split) <;> simp [intakeParts])

theorem keeps_fallbackSent : KeepsIntake s (fallbackSent s) :=
  .of_same (by unfold fallbackSent; (repeat' split) <;> simp [intakeParts])

theorem keeps_drainEnded : KeepsIntake s (drainEnded s) :=
  .of_same (by unfold drainEnded; (repeat' split) <;> simp [intakeParts])

theorem keeps_signEvent (ev : RxEvent) : KeepsIntake s (signEvent s ev) :=
  .of_same (by unfold signEvent; (repeat' split) <;> simp [intakeParts])

theorem keeps_charErrorIn (c : RxChar) : KeepsIntake s (charErrorIn c s) :=
  .of_same (by unfold charErrorIn; (repeat' split) <;> simp [intakeParts])

theorem keeps_signChar (c : RxChar) : KeepsIntake s (signChar s c) := by
  unfold signChar
  split
  · exact ((keeps_charErrorIn s c).trans (keeps_onLine _ _ _)).trans
      ((KeepsIntake.foldl keeps_signEvent _ _).trans (keeps_drainEnded _))
  · exact .refl s

theorem keeps_windowClosed : KeepsIntake s (windowClosed s) :=
  .of_same (by unfold windowClosed; dsimp only; (repeat' split) <;> simp [intakeParts])

theorem keeps_signGap : KeepsIntake s (signGap s) := (keeps_onLine s _ _).trans (keeps_drainEnded _)

theorem keeps_emphasisExpiry (i : Nat) : KeepsIntake s (emphasisExpiry i s) :=
  .of_same (by unfold emphasisExpiry; (repeat' split) <;> simp [intakeParts])

theorem keeps_haltSign : KeepsIntake s (haltSign s) := .of_same (by simp [haltSign, intakeParts])

theorem keeps_runSign : KeepsIntake s (runSign s) := by
  have hrun := (keeps_onLine s .sign fun l => { l with mark := .running, inUse := l.format, rx := [] }).trans
    (keeps_drainEnded _)
  unfold runSign
  dsimp only
  split
  · exact hrun.trans (.of_same (by simp [intakeParts]))
  · exact hrun

theorem keeps_advertEvent (port : PeerPort) (ev : RxEvent) : KeepsIntake s (advertEvent port s ev) :=
  .of_same (by unfold advertEvent advertTaken advertInvalid; (repeat' split) <;> simp [intakeParts])

theorem keeps_advertChar (port : PeerPort) (c : RxChar) : KeepsIntake s (advertChar port s c) := by
  unfold advertChar
  dsimp only
  split
  · exact .refl s
  · exact (keeps_onLine s _ _).trans (.foldl (keeps_advertEvent · port) _ _)

theorem keeps_advertGap (port : PeerPort) : KeepsIntake s (advertGap port s) :=
  .of_same (by unfold advertGap; dsimp only; split <;> simp [intakeParts])

theorem keeps_ageExpiry (port : PeerPort) : KeepsIntake s (ageExpiry port s) :=
  .of_same (by unfold ageExpiry; split <;> simp [intakeParts])

theorem keeps_advertSent (port : PeerPort) : KeepsIntake s (advertSent port s) :=
  .of_same (by unfold advertSent; dsimp only; (repeat' split) <;> simp [intakeParts])

theorem keeps_spacingExpiry (port : PeerPort) : KeepsIntake s (spacingExpiry port s) :=
  .of_same (by unfold spacingExpiry; dsimp only; (repeat' split) <;> simp [intakeParts])

theorem keeps_advertiseExpiry (port : PeerPort) : KeepsIntake s (advertiseExpiry port s) :=
  .of_same (by unfold advertiseExpiry; split <;> simp [intakeParts])

theorem keeps_haltPort (port : PeerPort) : KeepsIntake s (haltPort port s) :=
  .of_same (by unfold haltPort; dsimp only; split <;> simp [intakeParts])

theorem keeps_runPort (port : PeerPort) : KeepsIntake s (runPort port s) :=
  .of_same (by unfold runPort; dsimp only; split <;> simp [intakeParts])

/-! ## Plan Store, the swap and the resets -/

theorem carriedEntry_address (p : Plan) (e : PendingEntry) : (carriedEntry p e).address = e.address := by
  unfold carriedEntry
  split <;> rfl

/-- The swap keeps every pending entry's address, removes detector records at most, and leaves the lock machine
(R18). -/
theorem keeps_swapTo (p : Plan) : KeepsIntake s (swapTo p s) := by
  refine ⟨fun h => ?_, fun h => ?_, fun h => ?_⟩
  · rw [swapTo_di]
    refine h.of_sublist ?_
    simp [carryIntake, Function.comp_def, carriedEntry_address]
  · have e : (swapTo p s).zh.detectors = s.zh.detectors.filterMap (carriedDetector p) := by
      simp [swapTo_zh, carryHazard]
    refine ⟨e ▸ (List.length_filterMap_le _ _).trans h.bounded, ?_⟩
    rw [e, slotsWf_iff]
    exact ((slotsWf_iff _).1 h.rising).sublist (carriedDetectors_sublist p _)
  · rw [swapTo_di]
    exact h.of_parts rfl rfl rfl Iff.rfl

theorem keeps_swap : KeepsIntake s (swap s) := by
  unfold swap
  split
  · exact keeps_swapTo _ _
  · exact .refl s

theorem keeps_endCheck : KeepsIntake s (endCheck s) :=
  .of_same (by unfold endCheck; split <;> simp [intakeParts])

theorem keeps_endStore (readBack : List Byte) : KeepsIntake s (endStore readBack s) :=
  .of_same (by unfold endStore; dsimp only; (repeat' split) <;> simp [intakeParts])

theorem keeps_solveStart : KeepsIntake s (solveStart s) := .of_same (by simp [intakeParts])

theorem keeps_solveEnd : KeepsIntake s (solveEnd s) := by
  unfold solveEnd
  split
  · split
    · exact (keeps_swap _).after rfl
    · exact .of_same (by simp [intakeParts])
  · exact .refl s

theorem keeps_blocksAfter (kind : ResetKind) (ph : Phase) (plan : Option Plan) (c : MemoryCondition)
    (m : PlanMemory) (k : Settings) : KeepsIntake s (blocksAfter kind ph plan c m k s) :=
  .of_reset rfl rfl ⟨rfl, rfl, rfl⟩

theorem keeps_resetWith (kind : ResetKind) (k : Settings) (m : PlanMemory) : KeepsIntake s (resetWith kind k m s) := by
  unfold resetWith
  dsimp only
  split
  · exact .of_reset rfl rfl ⟨rfl, rfl, rfl⟩
  · exact keeps_blocksAfter _ _ _ _ _ _ _

/-! ## Timebase -/

theorem keeps_tickAll : KeepsIntake s (tickAll s) :=
  .of_intake rfl (fun h => ⟨h.bounded, h.distinct⟩) fun h => h.of_parts rfl rfl rfl (tickTimer_none_iff _)

theorem keeps_tickStart : KeepsIntake s (tickStart s) :=
  .of_same (by unfold tickStart; split <;> simp [intakeParts])

/-! ## Requests -/

theorem keeps_withoutFields (fields : List Byte) {f : State → Answer} (hf : KeepsIntake s (f s).state) :
    KeepsIntake s (withoutFields fields s f).state := by
  unfold withoutFields
  split
  · exact hf
  · exact .refl s

theorem keeps_withPlan {f : Plan → Answer} (hf : ∀ p, KeepsIntake s (f p).state) :
    KeepsIntake s (withPlan s f).state := by
  unfold withPlan
  split
  · exact .refl s
  · exact hf _

theorem keeps_planPut (f : List Byte) : KeepsIntake s (answerPlanPut f s).state := by
  unfold answerPlanPut putStaged
  (repeat' split) <;> exact .of_same rfl

theorem keeps_planActivate (f : List Byte) : KeepsIntake s (answerPlanActivate f s).state := by
  refine keeps_withoutFields s f ?_
  dsimp only
  split
  · simp only [answered_state]
    split
    · exact (keeps_swap _).after rfl
    · exact .of_same rfl
  · exact .refl s

/-- FORCE CLEAR zeroes the zone's consecutive alarm counts in place (R55). -/
theorem zeroAlarms_addresses (zone : Nat) (ds : Slots DetectorRec) :
    (zeroAlarms zone ds).map (·.1) = ds.map (·.1) := by
  rw [zeroAlarms, List.map_map]
  refine List.map_congr_left fun d _ => ?_
  simp only [Function.comp_apply]
  split <;> rfl

theorem keeps_forceClear (zone : Nat) (z : ZoneRun) : KeepsIntake s (forceClear zone z s) := by
  refine .of_detectors (by simp [forceClear]) fun h => ⟨?_, ?_⟩ <;> rw [forceClear, updateZone_detectors]
  · simpa [zeroAlarms] using h.bounded
  · rw [slotsWf_iff, zeroAlarms_addresses, ← slotsWf_iff]
    exact h.rising

theorem keeps_zoneForce (f : List Byte) : KeepsIntake s (answerZoneForce f s).state := by
  unfold answerZoneForce
  split
  · refine keeps_withPlan s fun _ => ?_
    split
    · exact .of_same (by simp [forceSmoke, intakeParts])
    · exact keeps_forceClear _ _ _
    · exact .refl s
  · exact .refl s

theorem keeps_zoneReset (f : List Byte) : KeepsIntake s (answerZoneReset f s).state := by
  unfold answerZoneReset
  split
  · refine keeps_withPlan s fun _ => .of_same ?_
    (repeat' split) <;> simp [intakeParts]
  · exact .refl s

theorem keeps_evacuate (f : List Byte) : KeepsIntake s (answerEvacuate f s).state :=
  keeps_withoutFields s f (.of_same (by dsimp only; split <;> simp [intakeParts]))

theorem keeps_standDown (f : List Byte) : KeepsIntake s (answerStandDown f s).state :=
  keeps_withoutFields s f (.of_same (by (repeat' split) <;> simp [intakeParts]))

theorem keeps_lineSetup (f : List Byte) : KeepsIntake s (answerLineSetup f s).state := by
  unfold answerLineSetup
  split
  · refine .of_same ?_
    unfold setupFormat
    (repeat' split) <;> rfl
  · unfold setupContact
    split
    · exact .refl s
    · split
      · exact .refl s
      · split
        · exact .refl s
        · split
          · exact .refl s
          · exact keeps_setChannel _ _ _
  · exact .refl s

theorem keeps_haltLine (id : LineId) : KeepsIntake s (haltLine id s) := by
  cases id with
  | message => exact .refl s
  | detector => exact (keeps_onLine s _ _).trans (keeps_setLock fun _ => lockOk_setLock_silent _ _)
  | sign => exact keeps_haltSign s
  | peerA => exact keeps_haltPort s _
  | peerB => exact keeps_haltPort s _

theorem keeps_runLine (id : LineId) : KeepsIntake s (runLine id s) := by
  cases id with
  | message => exact .refl s
  | detector => exact .of_same rfl
  | sign => exact keeps_runSign s
  | peerA => exact keeps_runPort s _
  | peerB => exact keeps_runPort s _

theorem keeps_lineHalt (f : List Byte) : KeepsIntake s (answerLineHalt f s).state := by
  unfold answerLineHalt
  repeat' split
  case' h_2.isFalse.isFalse => exact keeps_haltLine _ _
  all_goals exact .refl s

theorem keeps_lineRun (f : List Byte) : KeepsIntake s (answerLineRun f s).state := by
  unfold answerLineRun
  repeat' split
  case' h_2.isFalse => exact keeps_runLine _ _
  all_goals exact .refl s

/-- The requests that change settings of other blocks alone leave the Intake and the detector table. -/
theorem keeps_perform (r : Request) : KeepsIntake s (perform r s).state := by
  unfold perform performKind
  split
  case h_3 => exact keeps_withoutFields s _ (by split <;> exact .of_same rfl)
  case h_4 => exact keeps_withoutFields s _ (by (repeat' split) <;> exact .of_same rfl)
  case h_5 => exact keeps_planActivate _ _
  case h_6 => exact keeps_withoutFields s _ (by (repeat' split) <;> exact .of_same rfl)
  case h_7 => exact keeps_planPut _ _
  case h_9 =>
    unfold answerExitSet
    split
    · exact keeps_withPlan s fun _ => by split <;> exact .of_same rfl
    · exact .refl s
  case h_10 => exact keeps_zoneForce _ _
  case h_11 => exact keeps_zoneReset _ _
  case h_12 => exact keeps_evacuate _ _
  case h_13 => exact keeps_standDown _ _
  case h_14 => unfold answerGroupSet; (repeat' split) <;> exact .of_same rfl
  case h_20 => unfold answerNoticeSetup; (repeat' split) <;> exact .of_same rfl
  case h_21 => unfold answerClearFlags; (repeat' split) <;> exact .of_same rfl
  case h_23 => unfold answerFaultClear; (repeat' split) <;> exact .of_same rfl
  case h_24 => unfold answerCounterSetup; (repeat' split) <;> exact .of_same rfl
  case h_26 => unfold answerOutputSetup; (repeat' split) <;> exact .of_same rfl
  case h_27 => exact keeps_lineSetup _ _
  case h_28 => exact keeps_lineHalt _ _
  case h_29 => exact keeps_lineRun _ _
  case h_30 => exact keeps_withoutFields s _ (by (repeat' split) <;> exact .of_same rfl)
  all_goals simpa using KeepsIntake.refl s

/-! ## The Message Port -/

theorem keeps_takeNext : KeepsIntake s (takeNext s) := by
  unfold takeNext
  split
  · exact (keeps_perform s _).trans (.of_same rfl)
  · exact .refl s

theorem keeps_receiveRequest (r : Request) : KeepsIntake s (receiveRequest r s) := by
  unfold receiveRequest
  split
  · exact (keeps_takeNext _).after rfl
  · split
    · exact (keeps_takeNext _).after rfl
    · exact .of_same rfl

theorem keeps_messageEvent (e : RxEvent) : KeepsIntake s (messageEvent s e) := by
  unfold messageEvent
  split
  · exact .refl s
  · split
    · exact .of_same rfl
    · split
      · exact keeps_receiveRequest _ _
      · exact .refl s

theorem keeps_messageChar (c : RxChar) : KeepsIntake s (messageChar s c) :=
  (keeps_onLine s _ _).trans (.foldl keeps_messageEvent _ _)

theorem keeps_noticeStart : KeepsIntake s (noticeStart s) := .of_same (by simp [intakeParts])

theorem keeps_takeOrNotice (first : Bool) : KeepsIntake s (takeOrNotice first s) := by
  cases first with
  | false => exact keeps_takeNext s
  | true => exact (keeps_noticeStart s).trans (keeps_takeNext _)

theorem keeps_replySent (first : Bool) : KeepsIntake s (replySent first s) := by
  unfold replySent
  split
  · exact (keeps_takeOrNotice _ _).after rfl
  · exact .refl s

theorem keeps_messageFormatChange (first : Bool) : KeepsIntake s (messageFormatChange first s) := by
  unfold messageFormatChange
  split
  · exact (keeps_takeOrNotice _ _).after rfl
  · exact .refl s

theorem keeps_noticeSent : KeepsIntake s (noticeSent s) :=
  .of_same (by unfold noticeSent; split <;> rfl)

theorem keeps_gapAbort (line : LineId) : KeepsIntake s (gapAbort line s) := by
  unfold gapAbort
  dsimp only
  split
  · exact .refl s
  · cases line with
    | message => exact keeps_onLine s _ _
    | detector => exact (keeps_onLine s _ _).trans (keeps_detectorInvalid _ _)
    | sign => exact keeps_signGap s
    | peerA => exact keeps_advertGap s _
    | peerB => exact keeps_advertGap s _

/-! ## Every command, and the step -/

/-- Every command has a next state, and keeps the three properties. -/
theorem keeps_exec (c : Instr) : ∃ t, exec c s = .next t ∧ KeepsIntake s t := by
  cases hr : requestOf c with
  | some r => exact ⟨_, exec_request c r s hr, .whenRunning (keeps_receiveRequest · r) s⟩
  | none =>
    cases c
    case powerOn => exact ⟨_, rfl, keeps_resetWith _ _ _ _⟩
    case resetLine =>
      refine ⟨_, rfl, ?_⟩
      split
      · exact .refl s
      · exact keeps_resetWith _ _ _ _
    case restartBegin =>
      refine ⟨_, rfl, .whenRunning (fun s => ?_) s⟩
      split
      · exact keeps_resetWith _ _ _ _
      · exact .refl s
    case resetLineAsserted =>
      refine ⟨_, rfl, ?_⟩
      split
      · exact .refl s
      · exact keeps_blocksAfter _ _ _ _ _ _ _
    case powerLoss => exact ⟨_, rfl, keeps_blocksAfter _ _ _ _ _ _ _⟩
    case startUpLoadEnd =>
      refine ⟨_, rfl, ?_⟩
      split
      · exact .of_same rfl
      · exact .refl s
    case tenthTick =>
      refine ⟨_, rfl, ?_⟩
      split
      · exact .refl s
      · exact .refl s
      · exact keeps_tickAll s
      · exact (keeps_tickAll s).trans (keeps_tickStart _)
    case messageFrameReceived cs => exact ⟨_, rfl, .whenRunning (.foldl keeps_messageChar cs) s⟩
    case detectorFrameReceived cs => exact ⟨_, rfl, .whenRunning (.foldl keeps_detectorChar cs) s⟩
    case signFrameReceived cs => exact ⟨_, rfl, .whenRunning (.foldl keeps_signChar cs) s⟩
    case advertReceived port cs => exact ⟨_, rfl, .whenRunning (.foldl (keeps_advertChar · port) cs) s⟩
    case replySent first => exact ⟨_, rfl, .whenRunning (keeps_replySent · first) s⟩
    case messagePortFormatChange first => exact ⟨_, rfl, .whenRunning (keeps_messageFormatChange · first) s⟩
    case noticeFrameStart => exact ⟨_, rfl, .whenRunning keeps_noticeStart s⟩
    case frameGapAbort line => exact ⟨_, rfl, .whenRunning (keeps_gapAbort · line) s⟩
    case silenceTimerExpiry => exact ⟨_, rfl, .whenRunning keeps_silenceExpiry s⟩
    case contactChangeAccepted n => exact ⟨_, rfl, .whenRunning (keeps_acceptChange · n) s⟩
    case pulseWidthLimit n => exact ⟨_, rfl, .whenRunning (keeps_widthLimit · n) s⟩
    case takeBegin => exact ⟨_, rfl, .whenRunning keeps_takeBegin s⟩
    case takeComplete => exact ⟨_, rfl, .whenRunning keeps_takeComplete s⟩
    case suspectTimerExpiry z => exact ⟨_, rfl, .whenRunning (keeps_suspectExpiry · z) s⟩
    case clearHoldTimerExpiry z => exact ⟨_, rfl, .whenRunning (keeps_clearHoldExpiry · z) s⟩
    case planCheckEnd => exact ⟨_, rfl, .whenRunning keeps_endCheck s⟩
    case planStoreEnd bs => exact ⟨_, rfl, .whenRunning (keeps_endStore · bs) s⟩
    case solveStart => exact ⟨_, rfl, .whenRunning keeps_solveStart s⟩
    case solveEnd => exact ⟨_, rfl, .whenRunning keeps_solveEnd s⟩
    case refreshTimerExpiry => exact ⟨_, rfl, .whenRunning keeps_refreshExpiry s⟩
    case showFrameSent => exact ⟨_, rfl, .whenRunning keeps_showSent s⟩
    case replyWindowClose => exact ⟨_, rfl, .whenRunning keeps_windowClosed s⟩
    case fallbackFrameSent => exact ⟨_, rfl, .whenRunning keeps_fallbackSent s⟩
    case emphasisTimerExpiry i => exact ⟨_, rfl, .whenRunning (keeps_emphasisExpiry · i) s⟩
    case ageTimerExpiry port => exact ⟨_, rfl, .whenRunning (keeps_ageExpiry · port) s⟩
    case advertTimerExpiry port => exact ⟨_, rfl, .whenRunning (keeps_advertiseExpiry · port) s⟩
    case spacingTimerExpiry port => exact ⟨_, rfl, .whenRunning (keeps_spacingExpiry · port) s⟩
    case advertFrameSent port => exact ⟨_, rfl, .whenRunning (keeps_advertSent · port) s⟩
    case contactSample levels => exact ⟨_, rfl, .whenRunning (keeps_sampleContacts · levels) s⟩
    case noticeFrameSent => exact ⟨_, rfl, .whenRunning keeps_noticeSent s⟩
    all_goals cases hr

/-- A step keeps the three properties, as the command that it takes from the queue does. -/
theorem keeps_step {s t : State} (h : step s = .next t) : KeepsIntake s t := by
  unfold step at h
  split at h
  · cases h
    exact .refl s
  · next c rest _ =>
    obtain ⟨u, hu, ok⟩ := keeps_exec { s with pending := rest } c
    rw [hu] at h
    cases h
    exact ok.after rfl

/-- Settles O5: a step keeps the bounds and the distinct addresses of both tables. -/
theorem step_keeps_tables_ok : Obligations.step_keeps_tables_ok :=
  fun _ _ hr hd h => ⟨(keeps_step h).reports hr, (keeps_step h).detectors hd⟩

/-- Settles O8: a step keeps the lock machine's counts and its silence timer. -/
theorem step_keeps_lock_ok : Obligations.step_keeps_lock_ok :=
  fun _ _ hl h => (keeps_step h).lock hl

end Sys2Proof.Machine
end

section
/-! SUPPORT. Detector Intake: reports, the lock machine, the contact channels and the takes (R24 to R45): O36, O37, O38,
O39, O41. -/

namespace Sys2Proof.Machine

variable {s : State}

/-- What happens to a running part happens. -/
theorem whenRunning_running (h : s.phase = .running) (f : State → State) : whenRunning f s = f s := if_pos h

/-! ## Reports (R36 to R40) -/

theorem decodeZone_none {p : Plan} {a : Nat} (h : ∀ w ∈ p.windows, ¬ (w.base ≤ a ∧ a < w.base + w.size)) :
    decodeZone p a = none := by
  rw [decodeZone, Option.map_eq_none_iff, List.find?_eq_none]
  simpa using h

/-- The zone of an address, when every window that the address hits has that zone. -/
theorem decodeZone_some {p : Plan} {a : Nat} {w : WindowRec} (hw : w ∈ p.windows)
    (ha : w.base ≤ a ∧ a < w.base + w.size)
    (hz : ∀ v ∈ p.windows, v.base ≤ a ∧ a < v.base + v.size → v.zone = w.zone) : decodeZone p a = some w.zone := by
  rw [decodeZone]
  cases hf : p.windows.find? fun w => decide (w.base ≤ a ∧ a < w.base + w.size) with
  | none => exact absurd ha (by simpa using List.find?_eq_none.1 hf w hw)
  | some v =>
    have hv := List.find?_some hf
    exact congrArg some (hz v (List.mem_of_find?_eq_some hf) (by simpa using hv))

theorem makeReport_noPlan (h : s.ps.active = none) (a : Nat) (l : Level) (q : Option Nat) (src : Source) :
    makeReport a l q src s = fire .reportDropped 1 s := by
  simp [makeReport, h]

theorem makeReport_unmapped {p : Plan} (h : s.ps.active = some p) {a : Nat} (hd : decodeZone p a = none) (l : Level)
    (q : Option Nat) (src : Source) : makeReport a l q src s = capture .unmappedDetector a s := by
  simp [makeReport, h, hd]

theorem makeReport_mapped {p : Plan} (h : s.ps.active = some p) {a zone : Nat} (hd : decodeZone p a = some zone)
    (l : Level) (q : Option Nat) (src : Source) : makeReport a l q src s = tableReport a zone l q src s := by
  simp [makeReport, h, hd]

/-- A merge by the rows of R39. -/
theorem mergeEntry_eq (e : PendingEntry) (l : Level) (q : Option Nat) (src : Source) :
    mergeEntry e l q src =
      { e with
        level := l
        sequence := if q.isSome then q else e.sequence
        merged := min 63 (e.merged + 1)
        peak := if levelCode e.peak < levelCode l then l else e.peak
        tail := if l = .alarm then min 7 (e.tail + 1) else 0
        source := src } := by
  cases q <;> simp [mergeEntry, worse, levelLt]

/-- A merge changes the entry of its address alone. -/
theorem mergeInto_entry {front back : List PendingEntry} {e : PendingEntry} {a : Nat} (he : e.address = a)
    (h : ∀ x ∈ front ++ back, x.address ≠ a) (l : Level) (q : Option Nat) (src : Source) :
    mergeInto (front ++ e :: back) a l q src = front ++ mergeEntry e l q src :: back := by
  have other : ∀ xs : List PendingEntry, (∀ x ∈ xs, x ∈ front ++ back) → mergeInto xs a l q src = xs := fun xs hx =>
    (List.map_congr_left fun x hxs => if_neg (h x (hx x hxs))).trans (List.map_id xs)
  rw [mergeInto, List.map_append, List.map_cons, if_pos he]
  exact congrArg₂ (· ++ mergeEntry e l q src :: ·) (other front fun x => List.mem_append_left _)
    (other back fun x => List.mem_append_right _)

section
variable {a : Nat} (zone : Nat) (l : Level) (q : Option Nat) (src : Source)

theorem tableReport_joins (h : ∀ e ∈ s.di.reports, e.address ≠ a) (hl : s.di.reports.length < 32) :
    tableReport a zone l q src s =
      { s with di := { s.di with reports := s.di.reports ++ [newEntry a zone l q src] } } := by
  simp [tableReport, (hasEntry_eq_false _ _).2 h, Config.maxPending, hl]

theorem tableReport_overruns (h : ∀ e ∈ s.di.reports, e.address ≠ a) (hl : 32 ≤ s.di.reports.length) :
    tableReport a zone l q src s =
      raise (.overrun (.pendingTable a)) (fire .reportDropped 1 (capture .intakeOverrun a s)) := by
  simp [tableReport, (hasEntry_eq_false _ _).2 h, Config.maxPending, Nat.not_lt.2 hl]

theorem tableReport_merges (h : ∃ e ∈ s.di.reports, e.address = a) :
    tableReport a zone l q src s =
      fire .reportMerged 1 { s with di := { s.di with reports := mergeInto s.di.reports a l q src } } := by
  rw [tableReport, if_pos ((hasEntry_iff _ _).2 h)]

end

/-- Settles O36, by the plan, the windows that the address hits, and the address's entry. -/
theorem report_joins_merges_or_overruns : Obligations.report_joins_merges_or_overruns := by
  refine ⟨fun a l q src s => ⟨fun h => makeReport_noPlan h a l q src, fun p hp => ⟨fun h => ?_, fun w hw ha hz => ?_⟩⟩,
    fun a zone l q src s => ⟨tableReport_joins zone l q src, tableReport_overruns zone l q src, ?_⟩⟩
  · exact makeReport_unmapped hp (decodeZone_none h) l q src
  · exact makeReport_mapped hp (decodeZone_some hw ha hz) l q src
  · intro front back e hr he h
    rw [tableReport_merges zone l q src ⟨e, by simp [hr], he⟩, hr, mergeInto_entry he h, mergeEntry_eq]

/-! ## The lock machine (R25 to R30) -/

/-- The Intake with what the lock machine takes: the state in which LINE_STATE rises. -/
def lockSet (n : LockState × Nat × Nat) (silence : Timer) (panel : Option Nat) (s : State) : State :=
  { s with di :=
    { s.di with lock := n.1, validRun := n.2.1, invalidRun := n.2.2, silence := silence, panel := panel } }

/-- LINE_STATE of the detector line with a lock state. -/
def lockRaised (n : LockState × Nat × Nat) (silence : Timer) (panel : Option Nat) (s : State) : State :=
  raise (.lineState 1 (.lock n.1) panel) (lockSet n silence panel s)

section
variable {n : LockState × Nat × Nat} (silence : Timer) {panel : Option Nat}

theorem setLock_same (hl : s.di.lock = n.1) (hp : s.di.panel = none ∨ s.di.panel = panel) :
    setLock n silence panel s = lockSet n silence panel s := by
  rcases hp with hp | hp <;> simp [setLock, lockSet, hl, hp]

theorem setLock_panel (hl : s.di.lock = n.1) (hn : s.di.panel ≠ none) (hp : s.di.panel ≠ panel) :
    setLock n silence panel s = lockRaised n silence panel s := by
  simp [setLock, lockRaised, lockSet, hl, hp, Option.isSome_iff_ne_none, hn]

theorem setLock_moves (hl : s.di.lock ≠ n.1) (ho : s.di.lock ≠ .locked) :
    setLock n silence panel s = lockRaised n silence panel s := by
  simp [setLock, lockRaised, lockSet, hl, ho]

theorem setLock_lost (ho : s.di.lock = .locked) (hn : n.1 ≠ .locked) :
    setLock n silence panel s = capture .detectorLineLost 1 (lockRaised n silence panel s) := by
  simp [setLock, lockRaised, lockSet, hn, ho, hn.symm]

end

theorem exec_silenceTimerExpiry (hp : s.phase = .running) (hs : s.di.silence = some 0) :
    exec .silenceTimerExpiry s = .next (setLock (.silent, 0, 0) none s.di.panel s) := by
  simp [exec, execSilenceTimerExpiry, whenRunning, hp, silenceExpiry, timerDue, hs]

/-! ### Which frames are valid (R25) -/

theorem levelOf_levelCode (l : Level) : levelOf (levelCode l) = some l := by cases l <;> rfl

theorem levelOf_none : ∀ {n : Nat}, 3 < n → levelOf n = none
  | _ + 4, _ => rfl

theorem levelCode_le (l : Level) : levelCode l ≤ 3 := by cases l <;> decide

/-- A frame body is no valid frame, a REPORT in its ranges, or a SUPERVISE. -/
theorem readDetectorFrame_cases (body : List Byte) :
    readDetectorFrame body = none ∨
      (∃ h l level q : Byte, body = [0x10, h, l, level, q] ∧ level.toNat ≤ 3 ∧ q.toNat ≤ 63) ∨
      ∃ panel : Byte, body = [0x11, panel] := by
  unfold readDetectorFrame
  split
  · next k h l lev q =>
    by_cases hk : k = 0x10
    · by_cases hl : lev.toNat ≤ 3
      · by_cases hq : q.toNat ≤ 63
        · exact .inr (.inl ⟨h, l, lev, q, by rw [hk], hl, hq⟩)
        · left
          rw [if_pos hk]
          split
          · rw [if_neg hq]
          · rfl
      · left
        rw [if_pos hk, levelOf_none (Nat.lt_of_not_le hl)]
    · exact .inl (if_neg hk)
  · next k panel =>
    by_cases hk : k = 0x11
    · exact .inr (.inr ⟨panel, by rw [hk]⟩)
    · exact .inl (if_neg hk)
  · exact .inl rfl

/-- A REPORT frame's bytes are read as that report, when its sequence number is in range. -/
theorem readDetectorFrame_report {a q : Nat} (ha : a < 65536) (hq : q < 256) (l : Level) :
    readDetectorFrame ([0x10] ++ byte2 a ++ [byte1 (levelCode l), byte1 q]) =
      if q ≤ 63 then some (.report a l q) else none := by
  have hl : (byte1 (levelCode l)).toNat = levelCode l := byte1_toNat ((levelCode_le l).trans (by decide))
  simp [readDetectorFrame, byte2, hl, levelOf_levelCode, byte1_toNat (Nat.le_of_lt_succ hq),
    num2_byte2 (Nat.le_of_lt_succ ha)]

theorem detectorEvent_valid {body : List Byte} {f : DetectorFrame} (h : readDetectorFrame body = some f) :
    detectorEvent s (.frame body false) = detectorValid f s := by
  simp [detectorEvent, h]

theorem detectorEvent_invalid {body : List Byte} (h : readDetectorFrame body = none) :
    detectorEvent s (.frame body false) = detectorInvalid false s := by
  simp [detectorEvent, h]

/-- Settles O37, by the lock state and its counts, and by what a frame is read as. -/
theorem detector_line_lock : Obligations.detector_line_lock := by
  refine ⟨fun di => ⟨?_, ?_, ?_, ?_, ?_, ?_, ?_, ?_, ?_⟩, fun lock v i silence panel s => ⟨?_, ?_, ?_, ?_⟩,
    fun s err => ⟨rfl, fun hl hi => ?_⟩, fun s hp hs => ⟨fun hl => ?_, fun hl => ?_⟩,
    fun s a l q ha => ⟨fun hq => ?_, fun h1 h2 => ?_⟩, fun s => ⟨fun body => ⟨fun hr hn => ?_, rfl⟩, fun _ => rfl⟩,
    fun s panel => ?_⟩
  · exact fun hl => by simp [lockAfterValid, hl]
  · exact fun hl hv => by simp [lockAfterValid, hl, hv]
  · exact fun hl hv => by simp [lockAfterValid, hl, hv]
  · exact fun hl hv => by simp [lockAfterValid, hl, hv]
  · exact fun hl => by simp [lockAfterValid, hl]
  · exact fun hl => by simp [lockAfterInvalid, hl]
  · exact fun hl => by simp [lockAfterInvalid, hl]
  · exact fun hl hi => by simp [lockAfterInvalid, hl, hi]
  · exact fun hl hi => by simp [lockAfterInvalid, hl, hi]
  · exact setLock_same (n := (lock, v, i)) silence
  · exact setLock_panel (n := (lock, v, i)) silence
  · exact setLock_moves (n := (lock, v, i)) silence
  · exact fun hne ho => setLock_lost (n := (lock, v, i)) silence ho fun hn => hne (ho.trans hn.symm)
  · have hn : lockAfterInvalid s.di = (.seeking, 0, 0) := by simp [lockAfterInvalid, hl, hi]
    show setLock (lockAfterInvalid s.di) s.di.silence s.di.panel s = _
    rw [hn, setLock_lost _ hl (by simp)]
    rfl
  · rw [exec_silenceTimerExpiry hp hs, setLock_moves none (by simp [hl]) (by simp [hl])]
    rfl
  · rw [exec_silenceTimerExpiry hp hs, setLock_lost none hl (by simp)]
    rfl
  · rw [detectorEvent_valid ((readDetectorFrame_report ha (by omega) l).trans (if_pos hq))]
    rfl
  · exact detectorEvent_invalid ((readDetectorFrame_report ha h2 l).trans (if_neg (by omega)))
  · rcases readDetectorFrame_cases body with h | h | ⟨panel, h⟩
    · exact detectorEvent_invalid h
    · exact absurd h hr
    · exact absurd h (hn panel)
  · have hv : detectorEvent s (.frame [0x11, panel] false) =
        setLock (lockAfterValid s.di) (some (silenceTicks s)) (some panel.toNat) s := rfl
    rw [hv]
    simp [setLock_di]

/-! ## Contact channels (R31 to R35) -/

/-- What input `n` reads at a sample. -/
def sampledLevel (levels : BitVec 8) (n : Fin 8) : ContactLevel := if levels.getLsbD n then .closed else .opened

/-- A channel that an earlier sample left nothing of to accept or to report. -/
def Settled (c : Channel) : Prop := c.candidate ≠ .accepting ∧ ∀ w, c.width = some w → w < 320

theorem acceptChange_settled {n : Fin 8} (h : s.di.channels[n].candidate ≠ .accepting) : acceptChange n s = s := by
  unfold acceptChange
  dsimp only
  split
  · next hc _ => exact absurd hc h
  · rfl

theorem widthLimit_settled {n : Fin 8} (h : ∀ w, s.di.channels[n].width = some w → w < 320) : widthLimit n s = s := by
  unfold widthLimit
  dsimp only
  split
  · rfl
  · rfl
  · next w hw _ => rw [if_neg (Nat.not_le.2 (h w hw))]

/-- A settled channel's turn is its sample. -/
theorem contactTurn_settled (levels : BitVec 8) {n : Fin 8} (h : Settled s.di.channels[n]) :
    contactTurn levels s n = setChannel n (sampleChannel s.di.channels[n] (sampledLevel levels n)) s := by
  obtain ⟨hc, hw⟩ := h
  unfold contactTurn
  rw [acceptChange_settled hc, widthLimit_settled hw]
  rfl

/-- A channel read after one is replaced. -/
theorem setChannel_get (n m : Fin 8) (c : Channel) :
    (setChannel n c s).di.channels[m] = if m = n then c else s.di.channels[m] := by
  by_cases h : m = n
  · subst h
    simp [setChannel]
  · have : n.val ≠ m.val := fun e => h (Fin.ext e).symm
    simp [setChannel, h, Vector.getElem_set_ne _ _ this]

/-- Turns of different settled channels: each is sampled, and nothing but the channels changes. -/
theorem foldl_contactTurn (levels : BitVec 8) (ns : List (Fin 8)) : ∀ {s : State}, ns.Nodup →
    (∀ m ∈ ns, Settled s.di.channels[m]) →
    ∃ channels : Vector Channel 8,
      ns.foldl (contactTurn levels) s = { s with di := { s.di with channels := channels } } ∧
      ∀ m : Fin 8, channels[m] =
        if m ∈ ns then sampleChannel s.di.channels[m] (sampledLevel levels m) else s.di.channels[m] := by
  induction ns with
  | nil => exact fun _ _ => ⟨_, rfl, fun m => by simp⟩
  | cons n ns ih =>
    intro s hd hs
    obtain ⟨hn, hd⟩ := List.nodup_cons.1 hd
    have other : ∀ m ∈ ns, m ≠ n := fun m hm e => hn (e ▸ hm)
    rw [List.foldl_cons, contactTurn_settled levels (hs n List.mem_cons_self)]
    have later : ∀ m ∈ ns, ∀ c, Settled (setChannel n c s).di.channels[m] := fun m hm c => by
      rw [setChannel_get, if_neg (other m hm)]
      exact hs m (List.mem_cons_of_mem _ hm)
    obtain ⟨channels, h, hc⟩ := ih hd fun m hm =>
      later m hm (sampleChannel s.di.channels[n] (sampledLevel levels n))
    refine ⟨channels, h, fun m => ?_⟩
    rw [hc, setChannel_get]
    by_cases hm : m = n
    · subst hm
      simp [hn]
    · simp [hm]

/-- The sampling instant of settled channels (R32). -/
theorem sampleContacts_settled (levels : BitVec 8) (h : ∀ m : Fin 8, Settled s.di.channels[m]) :
    ∃ channels : Vector Channel 8,
      sampleContacts levels s = { s with di := { s.di with channels := channels } } ∧
      ∀ m : Fin 8, channels[m] = sampleChannel s.di.channels[m] (sampledLevel levels m) := by
  obtain ⟨channels, e, hc⟩ := foldl_contactTurn levels [0, 1, 2, 3, 4, 5, 6, 7] (by decide) fun m _ => h m
  refine ⟨channels, e, fun m => ?_⟩
  rw [hc, if_pos]
  revert m
  decide

/-- A settled channel's sample (R32, R34): the candidate, and the width count one higher. -/
theorem sampleChannel_settled {c : Channel} {l : ContactLevel} (level : ContactLevel) (h : Settled c)
    (ha : c.accepted = some l) :
    sampleChannel c level =
      { c with
        candidate := if level = l then .absent else if c.candidate = .absent then .present else .accepting
        width := c.width.map (· + 1) } := by
  obtain ⟨hc, hw⟩ := h
  have hwidth : (c.width.map fun w => min 320 (w + 1)) = c.width.map (· + 1) :=
    Option.map_congr fun w h => Nat.min_eq_right (hw w h)
  simp only [sampleChannel, ha, hwidth]
  cases hcand : c.candidate with
  | absent => simp
  | present => simp
  | accepting => exact absurd hcand hc

/-- What an accepted change calls for, by the channel's mode (R33, R34). -/
theorem acceptedReport_eq (c : Channel) (new : ContactLevel) :
    acceptedReport c new =
      match c.mode with
      | .off => none
      | .levelOpenAlarm => some (if new = .opened then .alarm else .normal)
      | .levelClosedAlarm => some (if new = .closed then .alarm else .normal)
      | .pulse =>
        if new = .closed then none
        else match c.width with
          | none => none
          | some w =>
            if w ≤ 12 then none else if w ≤ 63 then some .normal else if w ≤ 319 then some .alarm else some .fault := by
  unfold acceptedReport
  cases c.mode <;> cases new <;> cases c.width <;> rfl

theorem otherLevel_eq (l : ContactLevel) : otherLevel l = if l = .opened then .closed else .opened := by
  cases l <;> rfl

theorem acceptedWidth_eq (c : Channel) (new : ContactLevel) :
    acceptedWidth c new = if c.mode = .pulse ∧ new = .closed then some 0 else none := by
  unfold acceptedWidth
  cases c.mode <;> cases new <;> rfl

theorem exec_contactChangeAccepted {n : Fin 8} {old : ContactLevel} (hp : s.phase = .running)
    (hc : s.di.channels[n].candidate = .accepting) (ha : s.di.channels[n].accepted = some old) :
    exec (.contactChangeAccepted n) s =
      .next (contactReport n s.di.channels[n].address (acceptedReport s.di.channels[n] (otherLevel old))
        (setChannel n
          { s.di.channels[n] with
            accepted := some (otherLevel old), candidate := .absent
            width := acceptedWidth s.di.channels[n] (otherLevel old) } s)) := by
  simp only [exec, execContactChangeAccepted, whenRunning, hp, if_true, acceptChange, hc, ha]

theorem exec_pulseWidthLimit {n : Fin 8} (hp : s.phase = .running) (hc : s.di.channels[n].candidate ≠ .accepting)
    (hw : s.di.channels[n].width = some 320) :
    exec (.pulseWidthLimit n) s =
      .next (contactReport n s.di.channels[n].address (some .fault)
        (setChannel n { s.di.channels[n] with width := none } s)) := by
  have : widthLimit n s = contactReport n s.di.channels[n].address (some .fault)
      (setChannel n { s.di.channels[n] with width := none } s) := by
    unfold widthLimit
    dsimp only
    split
    · next h => exact absurd h hc
    · next h _ => cases h.symm.trans hw
    · next w h _ =>
      obtain rfl : w = 320 := Option.some.inj (h.symm.trans hw)
      rfl
  simp [exec, execPulseWidthLimit, whenRunning, hp, this]

/-- Settles O38, by the channel's accepted level, its mode and its width. -/
theorem contact_channels : Obligations.contact_channels := by
  refine ⟨fun s levels n hp hs => ?_, fun s n old hp hc ha => ?_, fun s n hp hc hw => ?_⟩
  · obtain ⟨channels, h, hch⟩ := sampleContacts_settled levels hs
    have hn : channels[n] = sampleChannel s.di.channels[n] (sampledLevel levels n) := hch n
    refine ⟨_, congrArg Host.Outcome.next (whenRunning_running hp _), ?_⟩
    rw [h]
    refine ⟨rfl, rfl, rfl, rfl, fun ha => ?_, fun l ha => ?_⟩
    · refine hn.trans ?_
      simp only [sampleChannel, ha]
    · exact hn.trans (sampleChannel_settled _ (hs n) ha)
  · rw [exec_contactChangeAccepted hp hc ha, acceptedReport_eq, acceptedWidth_eq, otherLevel_eq]
    rfl
  · exact exec_pulseWidthLimit hp hc hw

/-! ## Takes (R41, R43) -/

/-- Settles O39, by the mark of the head entry. -/
theorem take_begins : Obligations.take_begins := by
  intro s e rest hp ht hr
  refine ⟨fun hu => ?_, fun hu => ?_⟩ <;> simp [exec, execTakeBegin, whenRunning, hp, takeBegin, ht, hr, hu]

/-- No record gives way exactly when none is at NORMAL. -/
theorem oldestNormal_none {ds : Slots DetectorRec} (h : ∀ a r, (a, r) ∈ ds → r.level ≠ .normal) :
    oldestNormal ds = none := by
  cases ho : oldestNormal ds with
  | none => rfl
  | some best =>
    obtain ⟨r, hr, hn, _⟩ := mem_of_oldestNormal ho
    exact absurd hn (h _ _ hr)

/-- With a record at NORMAL one gives way, and none at NORMAL is older, or as old and of a lower address (R43). -/
theorem oldestNormal_oldest {ds : Slots DetectorRec} {b : Nat} {x : DetectorRec} (hx : (b, x) ∈ ds)
    (hn : x.level = .normal) :
    ∃ best, oldestNormal ds = some best ∧ (best.1 < x.time ∨ (best.1 = x.time ∧ best.2 ≤ b)) := by
  induction ds generalizing b x with
  | nil => simp at hx
  | cons d rest ih =>
    obtain ⟨a, r⟩ := d
    unfold oldestNormal
    rcases List.mem_cons.1 hx with h | h
    · cases h
      split
      · exact ⟨_, if_pos hn, by simp⟩
      · next best _ =>
        split
        · exact ⟨_, rfl, by simp⟩
        · next hb =>
          refine ⟨_, rfl, ?_⟩
          simp only [hn, true_and] at hb
          omega
    · obtain ⟨best, hb, hle⟩ := ih h hn
      rw [hb]
      dsimp only
      split
      · next hr =>
        refine ⟨_, rfl, ?_⟩
        dsimp only
        omega
      · exact ⟨_, rfl, hle⟩

/-- The record at NORMAL that no other precedes is the one that gives way. -/
theorem oldestNormal_eq {ds : Slots DetectorRec} {a : Nat} {r : DetectorRec} (ha : (a, r) ∈ ds) (hr : r.level = .normal)
    (h : ∀ b x, (b, x) ∈ ds → x.level = .normal → r.time < x.time ∨ (r.time = x.time ∧ a ≤ b)) :
    oldestNormal ds = some (r.time, a) := by
  obtain ⟨best, ho, hle⟩ := oldestNormal_oldest ha hr
  obtain ⟨x, hx, hn, ht⟩ := mem_of_oldestNormal ho
  have := h _ _ hx hn
  rw [ho]
  exact congrArg some (Prod.ext (by omega) (by dsimp only; omega))

theorem tableTake_evicts {e : PendingEntry} (h : slotGet s.zh.detectors e.address = none)
    (hl : 256 ≤ s.zh.detectors.length) {best : Nat × Nat} (ho : oldestNormal s.zh.detectors = some best) :
    tableTake e s =
      applyTake e (createdRecord e) { s with zh := { s.zh with detectors := slotErase s.zh.detectors best.2 } } := by
  simp [tableTake, h, Config.maxDetectors, Nat.not_lt.2 hl, ho]

theorem tableTake_untracked {e : PendingEntry} (h : slotGet s.zh.detectors e.address = none)
    (hl : 256 ≤ s.zh.detectors.length) (ho : oldestNormal s.zh.detectors = none) :
    tableTake e s = untrackedTake e s := by
  simp [tableTake, h, Config.maxDetectors, Nat.not_lt.2 hl, ho]

/-- An evaluation leaves the untracked-alarm flag (R49 to R52). -/
theorem evaluated_untracked (z : ZoneRun) (c : Conditions) (peak : Level) (a b : Nat) :
    (evaluated z c peak a b).untracked = z.untracked := by
  unfold evaluated
  (repeat' split) <;> rfl

/-- A zone's record once its untracked-alarm flag is set (R57). -/
theorem setUntracked_zh (zone : Nat) (s : State) :
    (setUntracked zone s).zh = { s.zh with zones := s.zh.zones.modify zone fun z => { z with untracked := true } } := by
  unfold setUntracked
  split
  · next z h => rw [List.modify_eq_set_getElem?, h]; rfl
  · next h => rw [List.modify_eq_self (List.getElem?_eq_none_iff.1 h)]

theorem untrackedTake_fc (e : PendingEntry) (s : State) :
    (untrackedTake e s).fc = (capture .detectorTableFull e.address s).fc := by
  unfold untrackedTake setUntracked
  dsimp only
  (repeat' split) <;> simp

theorem untrackedTake_take (e : PendingEntry) (s : State) : (untrackedTake e s).zh.take = s.zh.take := by
  unfold untrackedTake
  obtain ⟨_, _, h⟩ := evaluateZone_zh _ e.zone e.peak
  rw [h]
  dsimp only
  split <;> simp [setUntracked_zh]

/-- An untracked take at ALARM leaves the flag of its zone set (R43, R57). -/
theorem untrackedTake_untracked {e : PendingEntry} {z : ZoneRun} (hpk : e.peak = .alarm)
    (h : (untrackedTake e s).zh.zones[e.zone]? = some z) : z.untracked = true := by
  unfold untrackedTake at h
  obtain ⟨_, _, hz⟩ := evaluateZone_zh (setUntracked e.zone (capture .detectorTableFull e.address s)) e.zone e.peak
  simp only [hpk, if_true] at h hz
  rw [hz, setUntracked_zh] at h
  simp only [List.getElem?_modify_eq, Option.map_eq_map, Option.map_map, Option.map_eq_some_iff] at h
  obtain ⟨y, _, rfl⟩ := h
  exact evaluated_untracked _ _ _ _ _

/-- Settles O41, by whether a record is at NORMAL. -/
theorem take_with_full_table : Obligations.take_with_full_table := by
  intro s e hp ht hu hg hl _
  refine ⟨fun a r ha hr ho => ?_, fun hn => ?_⟩ <;> rw [exec_takeComplete_mapped hp ht hu]
  · rw [tableTake_evicts (s := takeEnded s) hg hl (oldestNormal_eq ha hr ho)]
    rfl
  · refine ⟨_, rfl, ?_⟩
    rw [tableTake_untracked (s := takeEnded s) hg hl (oldestNormal_none hn)]
    exact ⟨untrackedTake_detectors _ e, untrackedTake_take e _, untrackedTake_fc e _,
      fun z hpk hz => untrackedTake_untracked hpk hz⟩

end Sys2Proof.Machine
end

section
/-! SUPPORT. Frames as their characters arrive, and the gap rule (R25, R120, R137, R155, R183): O23, O24. -/

namespace Sys2Proof.Machine

/-! ## The characters of a whole frame (R182 to R184) -/

/-- A character that the part sends in a format has no error in it. -/
theorem charError_sendChar (f : Format) (b : Byte) : charError f (sendChar f b) = false := by
  unfold charError sendChar
  cases f.parity <;> simp

/-- The characters after a whole frame's SYNC and LENGTH: its body and its check value. -/
def frameTail (f : Format) (body : List Byte) : List RxChar :=
  (body ++ byte2 (crc16 (byte1 body.length :: body))).map (sendChar f)

theorem frameChars_eq (f : Format) (body : List Byte) :
    frameChars f body = sendChar f syncByte :: sendChar f (byte1 body.length) :: frameTail f body := by
  simp [frameChars, frameBytes, frameTail]

theorem frameTail_length (f : Format) (body : List Byte) : (frameTail f body).length = body.length + 2 := by
  simp [frameTail, byte2]

theorem sendChar_data (f : Format) (b : Byte) : (sendChar f b).data = b := rfl

theorem map_sendChar_data (f : Format) (bs : List Byte) : (bs.map (sendChar f)).map (·.data) = bs := by
  simp [Function.comp_def, sendChar_data]

section
variable {body : List Byte} (f : Format) (h1 : 1 ≤ body.length) (h2 : body.length ≤ 250)
include h1 h2

/-- The LENGTH character of a body of 1 to 250 bytes begins a frame, and says the body's length. -/
theorem length_byte_fits :
    (byte1 body.length).toNat = body.length ∧ ¬ (body.length = 0 ∨ 250 < body.length) :=
  ⟨byte1_toNat (by omega), by omega⟩

/-- The characters after a whole frame's SYNC amount to that frame. -/
theorem tryFrame_whole :
    tryFrame f (sendChar f (byte1 body.length) :: frameTail f body) = .complete body false (body.length + 3) := by
  obtain ⟨hn, hfits⟩ := length_byte_fits h1 h2
  have htake : (frameTail f body).take body.length = body.map (sendChar f) := by simp [frameTail]
  have hdrop : (frameTail f body).drop body.length =
      (byte2 (crc16 (byte1 body.length :: body))).map (sendChar f) := by simp [frameTail]
  have herr : (sendChar f (byte1 body.length) :: frameTail f body).any (charError f) = false := by
    simp [frameTail, charError_sendChar]
  unfold tryFrame
  simp only [sendChar_data, hn, if_neg hfits, frameTail_length, Nat.lt_irrefl, if_false]
  rw [htake, hdrop, map_sendChar_data, List.take_of_length_le (by simp [byte2]), map_sendChar_data, if_pos rfl,
    List.take_of_length_le (frameTail_length f body).le, herr]

/-- Fewer characters than a whole frame has after its SYNC amount to no frame yet. -/
theorem tryFrame_part {p : List RxChar} (hp : p <+: sendChar f (byte1 body.length) :: frameTail f body)
    (hl : p.length < body.length + 3) : tryFrame f p = .incomplete := by
  cases p with
  | nil => rfl
  | cons c tail =>
    obtain ⟨rfl, htail⟩ := List.cons_prefix_cons.1 hp
    obtain ⟨hn, hfits⟩ := length_byte_fits h1 h2
    unfold tryFrame
    simp only [sendChar_data, hn, if_neg hfits]
    exact if_pos (by simpa using hl)

end

/-- Characters that belong to a frame already handed on are passed over. -/
theorem scan_skip (f : Format) (cs : List RxChar) : scan f cs.length cs = ([], []) := by
  induction cs with
  | nil => rfl
  | cons c cs ih => exact ih

section
variable {body : List Byte} (f : Format) (h1 : 1 ≤ body.length) (h2 : body.length ≤ 250)
include h1 h2

/-- A whole frame is handed on, and nothing of it is retained (R183). -/
theorem scan_whole : scan f 0 (frameChars f body) = ([.frame body false], []) := by
  have hlen : (sendChar f (byte1 body.length) :: frameTail f body).length = body.length + 3 := by
    simp [frameTail_length]
  have hskip := scan_skip f (sendChar f (byte1 body.length) :: frameTail f body)
  rw [hlen] at hskip
  rw [frameChars_eq, scan]
  simp [sendChar_data, charError_sendChar, tryFrame_whole f h1 h2, hskip]

/-- A frame that is not whole yet is retained (R183). -/
theorem scan_part {p : List RxChar} (hp : p <+: frameChars f body) (hl : p.length < body.length + 4) :
    scan f 0 p = ([], p) := by
  rw [frameChars_eq] at hp
  cases p with
  | nil => rfl
  | cons c rest =>
    obtain ⟨rfl, hrest⟩ := List.cons_prefix_cons.1 hp
    rw [scan]
    simp [sendChar_data, charError_sendChar, tryFrame_part f h1 h2 hrest (by simpa using hl)]

end

/-! ## A receiver that is given a whole frame -/

/-- A line's receiver with some characters retained. -/
def retaining (id : LineId) (rx : List RxChar) (s : State) : State := s.onLine id fun l => { l with rx := rx }

theorem lineGet_lineSet (l : Lines) (id : LineId) (r : LineRec) : lineGet (lineSet l id r) id = r := by
  cases id <;> rfl

theorem lineSet_lineSet (l : Lines) (id : LineId) (r r' : LineRec) :
    lineSet (lineSet l id r) id r' = lineSet l id r' := by
  cases id <;> rfl

theorem lineSet_lineGet (l : Lines) (id : LineId) : lineSet l id (lineGet l id) = l := by
  cases id <;> rfl

theorem onLine_line (s : State) (id : LineId) (f : LineRec → LineRec) :
    lineGet (s.onLine id f).lines id = f (lineGet s.lines id) := lineGet_lineSet _ _ _

theorem retaining_retaining (s : State) (id : LineId) (rx rx' : List RxChar) :
    retaining id rx' (retaining id rx s) = retaining id rx' s := by
  simp only [retaining, State.onLine, lineGet_lineSet, lineSet_lineSet]

theorem retaining_self {s : State} {id : LineId} {rx : List RxChar} (h : (lineGet s.lines id).rx = rx) :
    retaining id rx s = s := by
  subst h
  simp only [retaining, State.onLine]
  rw [show ({ lineGet s.lines id with rx := (lineGet s.lines id).rx } : LineRec) = lineGet s.lines id from rfl,
    lineSet_lineGet]

/-- A frame's characters, taken one by one by a receiver that retains nothing, come to the one event that the receiver
hands on at the last of them. `char` is the owner's act at a character, `event` its act at what the receiver hands
on. -/
theorem foldl_whole {s : State} {id : LineId} {char : State → RxChar → State} {event : State → RxEvent → State}
    {f : Format} {body : List Byte} (h1 : 1 ≤ body.length) (h2 : body.length ≤ 250)
    (hrx : (lineGet s.lines id).rx = [])
    (hpart : ∀ p c, p ++ [c] <+: frameChars f body → receiveChar f p c = ([], p ++ [c]) →
      char (retaining id p s) c = retaining id (p ++ [c]) s)
    (hlast : ∀ p c, p ++ [c] = frameChars f body → receiveChar f p c = ([.frame body false], []) →
      char (retaining id p s) c = event s (.frame body false)) :
    (frameChars f body).foldl char s = event s (.frame body false) := by
  have hlen : (frameChars f body).length = body.length + 4 := by simp [frameChars_eq, frameTail_length]
  have taken : ∀ p : List RxChar, p <+: frameChars f body → p.length < body.length + 4 →
      p.foldl char s = retaining id p s := by
    intro p
    induction p using List.reverseRecOn with
    | nil => exact fun _ _ => (retaining_self hrx).symm
    | append_singleton p c ih =>
      intro hp hl
      rw [List.foldl_append, ih ((List.prefix_append _ _).trans hp) (by simp at hl; omega)]
      exact hpart p c hp (scan_part f h1 h2 hp hl)
  rcases List.eq_nil_or_concat (frameChars f body) with h | ⟨p, c, h⟩
  · simp [h] at hlen
  · have hl : p.length < body.length + 4 := by
      rw [h] at hlen
      simp at hlen
      omega
    rw [List.concat_eq_append] at h
    rw [h, List.foldl_append, taken p ⟨[c], h.symm⟩ hl]
    exact hlast p c h.symm (by rw [receiveChar, ← h, scan_whole f h1 h2])

/-! ## The owners of the lines -/

variable {s : State}

/-- Every character of a whole frame is without error. -/
theorem charError_of_mem {f : Format} {body : List Byte} {p : List RxChar} {c : RxChar}
    (h : p ++ [c] <+: frameChars f body) : charError f c = false := by
  obtain ⟨b, _, rfl⟩ := List.mem_map.1 (h.mem (List.mem_append_right p (List.mem_singleton_self c)))
  exact charError_sendChar f b

section
variable {body : List Byte} (h1 : 1 ≤ body.length) (h2 : body.length ≤ 250)
include h1 h2

theorem foldl_messageChar (hrx : s.lines.message.rx = []) :
    (frameChars s.lines.message.inUse body).foldl messageChar s = messageEvent s (.frame body false) := by
  have hchar : ∀ p c, messageChar (retaining .message p s) c =
      (receiveChar s.lines.message.inUse p c).1.foldl messageEvent
        (retaining .message (receiveChar s.lines.message.inUse p c).2 s) := fun _ _ => rfl
  refine foldl_whole (id := .message) h1 h2 hrx (fun p c _ h => ?_) fun p c _ h => ?_ <;> rw [hchar, h]
  · rfl
  · rw [retaining_self (id := .message) hrx]
    rfl

theorem foldl_detectorChar (hrx : s.lines.detector.rx = []) (hm : s.lines.detector.mark = .running) :
    (frameChars s.lines.detector.inUse body).foldl detectorChar s = detectorEvent s (.frame body false) := by
  have hchar : ∀ p c, detectorChar (retaining .detector p s) c =
      (receiveChar s.lines.detector.inUse p c).1.foldl detectorEvent
        (retaining .detector (receiveChar s.lines.detector.inUse p c).2 s) := fun p c => by
    have : (retaining .detector p s).lines.detector.mark = .running := hm
    simp only [detectorChar, this]
    rfl
  refine foldl_whole (id := .detector) h1 h2 hrx (fun p c _ h => ?_) fun p c _ h => ?_ <;> rw [hchar, h]
  · rfl
  · rw [retaining_self (id := .detector) hrx]
    rfl

theorem foldl_advertChar {port : PeerPort} (hrx : (lineGet s.lines (portLine port)).rx = [])
    (hm : s.mark (portLine port) = .running) :
    (frameChars (lineGet s.lines (portLine port)).inUse body).foldl (advertChar port) s =
      advertEvent port s (.frame body false) := by
  have hchar : ∀ p c, advertChar port (retaining (portLine port) p s) c =
      (receiveChar (lineGet s.lines (portLine port)).inUse p c).1.foldl (advertEvent port)
        (retaining (portLine port) (receiveChar (lineGet s.lines (portLine port)).inUse p c).2 s) := fun p c => by
    have : lineGet (retaining (portLine port) p s).lines (portLine port) =
        { lineGet s.lines (portLine port) with rx := p } := onLine_line _ _ _
    have hm' : (lineGet s.lines (portLine port)).mark = .running := hm
    simp only [advertChar, this, hm']
    exact congrArg (List.foldl (advertEvent port) · _) (retaining_retaining s _ p _)
  refine foldl_whole (id := portLine port) h1 h2 hrx (fun p c _ h => ?_) fun p c _ h => ?_ <;> rw [hchar, h]
  · rfl
  · rw [retaining_self hrx]
    rfl

end

/-! ### The sign line: no frame is being sent, and the window is open or there is none -/

/-- The frame on the line, where there is one, is being sent: what the end of an exchange leaves. -/
def SendingOnly (c : SignLine) : Prop := ∀ e, c.exchange = some e → e.phase = .sending

theorem entryFrame_sending (c : SignLine) (e : OrderEntry) : (entryFrame c e).phase = .sending := by
  unfold entryFrame
  (repeat' split) <;> rfl

theorem sendingOnly_beginEntry (c : SignLine) : SendingOnly (beginEntry c) := by
  unfold beginEntry
  split
  · rintro _ ⟨⟩
    exact entryFrame_sending _ _
  · rintro _ ⟨⟩

/-- A cycle that starts with no frame on the line sends its first frame, or none. -/
theorem sendingOnly_cycleStart (h : s.slc.exchange = none) : SendingOnly (cycleStart s).slc := by
  unfold cycleStart
  split
  · rintro _ ⟨⟩
    rfl
  · split
    · exact sendingOnly_beginEntry _
    · intro e he
      simp [h] at he

theorem sendingOnly_cycleEnd (h : s.slc.exchange = none) : SendingOnly (cycleEnd s).slc := by
  have idle : SendingOnly s.slc := fun e he => by simp [h] at he
  unfold cycleEnd
  dsimp only
  split
  · exact idle
  · split
    · exact sendingOnly_cycleStart h
    · split
      · exact sendingOnly_cycleStart h
      · exact idle

/-- The end of an exchange leaves no frame on the line, or one that is being sent. -/
theorem sendingOnly_exchangeEnded (s : State) : SendingOnly (exchangeEnded s).slc := by
  have idle : SendingOnly (s.onSlc fun c => { c with exchange := none }).slc := by rintro _ ⟨⟩
  unfold exchangeEnded
  dsimp only
  split
  · exact idle
  · split
    · exact sendingOnly_cycleStart rfl
    · exact idle
  · split
    · exact sendingOnly_cycleStart rfl
    · split
      · exact sendingOnly_beginEntry _
      · exact sendingOnly_cycleEnd rfl

/-- A frame to be drained is drained only where there is one. -/
theorem drainEnded_none (h : ∀ e, s.slc.exchange = some e → e.phase ≠ .drain) : drainEnded s = s := by
  unfold drainEnded
  split
  · next e he => rw [if_neg fun hd => h e he hd.1]
  · rfl

/-- A frame handed on leaves no frame to be drained. -/
theorem signEvent_noDrain (h : ∀ e, s.slc.exchange = some e → e.phase = .window none) (ev : RxEvent) :
    ∀ e, (signEvent s ev).slc.exchange = some e → e.phase ≠ .drain := by
  have before : ∀ e, s.slc.exchange = some e → e.phase ≠ .drain := fun e he => by simp [h e he]
  unfold signEvent
  split
  · next body e he =>
    split
    · split
      · exact fun e' he' => by simp [sendingOnly_exchangeEnded _ e' he']
      · simp [setPhase, State.onSlc, he]
      · exact before
    · exact before
  · exact before

theorem charErrorIn_none {c : RxChar} (h : charError s.lines.sign.inUse c = false) : charErrorIn c s = s := by
  unfold charErrorIn
  split
  · simp [errorInFrame, h]
  · rfl

theorem foldl_signChar {body : List Byte} (h1 : 1 ≤ body.length) (h2 : body.length ≤ 250)
    (hrx : s.lines.sign.rx = []) (hm : s.lines.sign.mark = .running)
    (hw : ∀ e, s.slc.exchange = some e → e.phase = .window none) :
    (frameChars s.lines.sign.inUse body).foldl signChar s = signEvent s (.frame body false) := by
  have hrec : ∀ p, signReceives (retaining .sign p s) = true := fun p => by
    unfold signReceives
    split
    · next e he => simp [hw e he]
    · exact decide_eq_true hm
  have hchar : ∀ p c, p ++ [c] <+: frameChars s.lines.sign.inUse body → signChar (retaining .sign p s) c =
      drainEnded ((receiveChar s.lines.sign.inUse p c).1.foldl signEvent
        (retaining .sign (receiveChar s.lines.sign.inUse p c).2 s)) := fun p c hp => by
    rw [signChar, if_pos (hrec p), charErrorIn_none (s := retaining .sign p s) (charError_of_mem hp)]
    rfl
  refine foldl_whole (id := .sign) h1 h2 hrx (fun p c hp h => ?_) fun p c hp h => ?_
  · rw [hchar p c hp, h]
    exact drainEnded_none fun e he => by simp [hw e he]
  · rw [hchar p c (hp ▸ List.prefix_refl _), h, retaining_self (id := .sign) hrx]
    exact drainEnded_none (signEvent_noDrain hw _)

/-- Settles O23, line by line. -/
theorem frame_received : Obligations.frame_received := by
  intro s body hp h1 h2
  have running : ∀ f : State → State, Host.Outcome.next (whenRunning f s) = (.next (f s) : Result) := fun f =>
    congrArg Host.Outcome.next (whenRunning_running hp f)
  refine ⟨fun hrx => ?_, fun hrx hm => ?_, fun hrx hm hw => ?_, fun port hrx hm => ?_, rfl, rfl, rfl, ?_, fun h => ?_⟩
  · exact (running _).trans (congrArg _ (foldl_messageChar h1 h2 hrx))
  · exact (running _).trans (congrArg _ (foldl_detectorChar h1 h2 hrx hm))
  · exact (running _).trans (congrArg _ (foldl_signChar h1 h2 hrx hm hw))
  · exact (running _).trans (congrArg _ (foldl_advertChar h1 h2 hrx hm))
  · rintro kind tag fields rfl
    rfl
  · obtain ⟨b, rfl⟩ := List.length_eq_one_iff.1 h
    rfl

/-! ## The gap rule (R183) -/

theorem exec_frameGapAbort {id : LineId} (hp : s.phase = .running) (h : (lineGet s.lines id).rx ≠ []) :
    exec (.frameGapAbort id) s = .next
      (match id with
        | .message => retaining .message [] s
        | .detector =>
          detectorInvalid (s.lines.detector.rx.any (charError s.lines.detector.inUse)) (retaining .detector [] s)
        | .sign => drainEnded (retaining .sign [] s)
        | .peerA => advertGap .a s
        | .peerB => advertGap .b s) := by
  have hne : (lineGet s.lines id).rx.isEmpty = false := by simpa using h
  refine congrArg Host.Outcome.next ((whenRunning_running hp _).trans ?_)
  cases id <;> simp only [gapAbort, hne] <;> rfl

/-- The gap rule at a peer port (R137). -/
theorem exec_portGapAbort {port : PeerPort} (hp : s.phase = .running)
    (h : (lineGet s.lines (portLine port)).rx ≠ []) :
    exec (.frameGapAbort (portLine port)) s = .next (advertGap port s) := by
  rw [exec_frameGapAbort hp h]
  cases port <;> rfl

theorem advertGap_eq (port : PeerPort) (s : State) :
    advertGap port s =
      if portInUse s port = true ∧
          (lineGet s.lines (portLine port)).rx.any (charError (lineGet s.lines (portLine port)).inUse) = true then
        capture .lineCharError (portNumber port) (retaining (portLine port) [] s)
      else retaining (portLine port) [] s := by
  simp only [advertGap, Bool.and_eq_true, And.comm (a := portInUse s port = true)]
  rfl

/-- Settles O24, line by line. -/
theorem gap_abort : Obligations.gap_abort := by
  intro s hp
  refine ⟨fun h => ?_, fun h => ?_, fun h he => ?_, fun e h he hd => ?_, fun port h => ?_⟩
  · exact exec_frameGapAbort (id := .message) hp h
  · exact exec_frameGapAbort (id := .detector) hp h
  · rw [exec_frameGapAbort (id := .sign) hp h]
    exact congrArg _ (drainEnded_none he)
  · rw [exec_frameGapAbort (id := .sign) hp h]
    have hx : (retaining .sign [] s).slc.exchange = some e := he
    have hrx : (retaining .sign [] s).lines.sign.rx = [] := rfl
    simp only [drainEnded, hx, hd, hrx, and_self, if_true]
    rfl
  · refine ⟨_, exec_portGapAbort hp h, ?_⟩
    rw [advertGap_eq]
    have hline : (lineGet (retaining (portLine port) [] s).lines (portLine port)).rx = [] := by
      rw [retaining, onLine_line]
    split
    · exact ⟨hline, rfl, rfl, rfl⟩
    · exact ⟨hline, rfl, rfl, rfl⟩

end Sys2Proof.Machine
end

section
/-! SUPPORT. LINE SETUP, LINE HALT, LINE RUN and RESTART (R28, R130, R131, R140, R142, R163 to R167): O52, O53. -/

namespace Sys2Proof.Machine

variable {s : State}

/-! ## Numbers and codes of a line's settings -/

/-- A number's bytes are those of its low part under its high one. -/
theorem byte1_add_mul (k n : Nat) : byte1 (k * 256 + n) = byte1 n := by
  refine BitVec.eq_of_toNat_eq ?_
  simp only [byte1, BitVec.toNat_ofNat]
  omega

theorem byte3_num3 (a b c : Byte) : byte3 (num3 a b c) = [a, b, c] := by
  have hlow : num2 b c < 65536 := by
    have := b.isLt
    have := c.isLt
    unfold num2
    omega
  have h1 : num3 a b c / 65536 = a.toNat := by unfold num3; omega
  have h2 : num3 a b c / 256 = a.toNat * 256 + num2 b c / 256 := by unfold num3; omega
  have h3 : num3 a b c = a.toNat * 256 * 256 + num2 b c := by unfold num3; omega
  rw [byte3, byte2, h1, h2, byte1_add_mul, byte1_num2_high, h3, byte1_add_mul, byte1_num2, byte1_toNat_self]

theorem parityOf_none : ∀ {n : Nat}, 3 < n → parityOf n = none
  | _ + 4, _ => rfl

theorem contactModeOf_none : ∀ {n : Nat}, 3 < n → contactModeOf n = none
  | _ + 4, _ => rfl

theorem parityCode_of {n : Nat} {p : Parity} (h : parityOf n = some p) : parityCode p = n := by
  unfold parityOf at h
  split at h <;> cases h <;> rfl

theorem contactModeCode_of {n : Nat} {m : ContactMode} (h : contactModeOf n = some m) : contactModeCode m = n := by
  unfold contactModeOf at h
  split at h <;> cases h <;> rfl

theorem lineOf_none : ∀ {n : Nat}, 4 < n → lineOf n = none
  | _ + 5, _ => rfl

theorem lineOf_lineNumber (id : LineId) : lineOf (lineNumber id) = some id := by cases id <;> rfl

theorem lineOf_isSome : ∀ {n : Nat}, n ≤ 4 → ∃ id, lineOf n = some id
  | 0, _ => ⟨_, rfl⟩
  | 1, _ => ⟨_, rfl⟩
  | 2, _ => ⟨_, rfl⟩
  | 3, _ => ⟨_, rfl⟩
  | 4, _ => ⟨_, rfl⟩

/-- A format body that names no speed, parity or stop bits. -/
theorem readFormat_none {s1 s2 s3 par stop : Byte}
    (h : num3 s1 s2 s3 ∉ [1200, 2400, 4800, 9600, 19200, 38400, 57600, 115200] ∨ 3 < par.toNat ∨
      (stop.toNat ≠ 1 ∧ stop.toNat ≠ 2)) : readFormat s1 s2 s3 par stop = none := by
  unfold readFormat
  split
  · next hs hp ht =>
    rcases h with h | h | h
    · have : speedOf (num3 s1 s2 s3) = none := if_neg fun hc => h (List.contains_iff_mem.1 hc)
      simp [this] at hs
    · simp [parityOf_none h] at hp
    · have : stopOf stop.toNat = none := if_neg fun hc => hc.elim h.1 h.2
      simp [this] at ht
  · rfl

theorem readFormat_some {s1 s2 s3 par stop : Byte} {parity : Parity}
    (hs : num3 s1 s2 s3 ∈ [1200, 2400, 4800, 9600, 19200, 38400, 57600, 115200]) (hp : parityOf par.toNat = some parity)
    (ht : stop.toNat = 1 ∨ stop.toNat = 2) :
    readFormat s1 s2 s3 par stop = some { speed := num3 s1 s2 s3, parity := parity, stop := stop.toNat } := by
  have h1 : speedOf (num3 s1 s2 s3) = some (num3 s1 s2 s3) := if_pos (List.contains_iff_mem.2 hs)
  have h2 : stopOf stop.toNat = some stop.toNat := if_pos ht
  simp [readFormat, h1, h2, hp]

/-! ## LINE SETUP (R163, R164, R31) -/

section
variable {line : Nat} {f : Option Format}

theorem setupFormat_noLine (h : 12 < line) : setupFormat line f s = turnedAway .badValue s := if_pos h

theorem setupFormat_contact (h1 : 5 ≤ line) (h2 : line ≤ 12) : setupFormat line f s = turnedAway .badLength s := by
  simp [setupFormat, Nat.not_lt.2 h2, lineOf_none h1]

theorem setupFormat_badValue (h : line ≤ 4) : setupFormat line none s = turnedAway .badValue s := by
  obtain ⟨id, hid⟩ := lineOf_isSome h
  simp [setupFormat, show ¬ 12 < line by omega, hid]

theorem setupFormat_message (format : Format) :
    setupFormat 0 (some format) s =
      answered (0 :: formatBytes s.lines.message.format)
        { s with mp := { s.mp with deferred := .formatAfterReply format.speed format.parity format.stop } } := rfl

theorem setupFormat_line {id : LineId} (hid : id ≠ .message) (format : Format) :
    setupFormat (lineNumber id) (some format) s =
      if s.mark id = .running then turnedAway .busy s
      else
        answered (byte1 (lineNumber id) :: formatBytes format) (s.onLine id fun l => { l with format := format }) := by
  cases id with
  | message => exact absurd rfl hid
  | _ => rfl

theorem setupContact_noLine {mode : Option ContactMode} {a : Nat} (h : 12 < line) :
    setupContact line mode a s = turnedAway .badValue s := if_pos h

theorem setupContact_serial {mode : Option ContactMode} {a : Nat} (h : line ≤ 4) :
    setupContact line mode a s = turnedAway .badLength s := by
  simp [setupContact, show ¬ 12 < line by omega, show line < 5 by omega]

theorem setupContact_badValue {mode : Option ContactMode} {a : Nat} (h1 : 5 ≤ line) (h2 : line ≤ 12)
    (h : mode = none ∨ 1023 < a) : setupContact line mode a s = turnedAway .badValue s := by
  simp only [setupContact, if_neg (Nat.not_lt.2 h2), if_neg (Nat.not_lt.2 h1)]
  rcases h with rfl | h
  · rfl
  · cases mode with
    | none => rfl
    | some m => exact if_pos h

theorem setupContact_channel {n : Fin 8} {m : ContactMode} {a : Nat} (ha : a ≤ 1023) :
    setupContact (5 + n.val) (some m) a s =
      answered ([byte1 (5 + n.val), byte1 (contactModeCode m)] ++ byte2 a) (setChannel n (startChannel m a) s) := by
  simp [setupContact, show ¬ 12 < 5 + n.val by omega, show ¬ 5 + n.val < 5 by omega, Nat.not_lt.2 ha]

end

/-- The answer to a LINE SETUP. -/
theorem answers_lineSetup {tag : Byte} {fields out : List Byte} {st : ReplyStatus} {t : State} (hs : Ready s)
    (hw : t.mp.waiting = none)
    (h : ∀ r : Request, answerLineSetup fields (inHand r s) = { state := inHand r t, status := st, fields := out }) :
    Answers (.lineSetup tag fields) s st out t :=
  answers_of _ { kind := 0x1B, tag := tag, fields := fields } s t st out rfl hs hw (h _)

/-- Settles O52, test by test. -/
theorem line_setup : Obligations.line_setup := by
  intro tag line s hs
  obtain ⟨_, _, hw, _, _⟩ := id hs
  refine ⟨fun s1 s2 s3 par stop => ⟨fun h => ?_, fun h1 h2 => ?_, fun h1 h2 => ?_, fun parity hsp hpa hst =>
    ⟨fun h => ?_, fun id hid h => ⟨fun hm => ?_, fun hm => ?_⟩⟩⟩,
    fun mode a1 a2 => ⟨fun h => ?_, fun h => ?_, fun h1 h2 h => ?_, fun n m h hm ha => ?_⟩, fun fields h5 h3 => ?_⟩
  · exact answers_lineSetup hs hw fun r => setupFormat_noLine h
  · exact answers_lineSetup hs hw fun r => setupFormat_contact h1 h2
  · refine answers_lineSetup hs hw fun r => ?_
    exact (congrArg (setupFormat line.toNat · (inHand r s)) (readFormat_none h2)).trans (setupFormat_badValue h1)
  · obtain rfl : line = 0 := toNat_eq_zero.1 h
    refine answers_lineSetup hs hw fun r => ?_
    exact (congrArg (setupFormat 0 · (inHand r s)) (readFormat_some hsp hpa hst)).trans (setupFormat_message _)
  · refine answers_lineSetup hs hw fun r => ?_
    have e : (inHand r s).mark id = .running := hm
    show setupFormat line.toNat (readFormat s1 s2 s3 par stop) (inHand r s) = _
    rw [readFormat_some hsp hpa hst, h, setupFormat_line hid, if_pos e]
    rfl
  · refine answers_lineSetup hs hw fun r => ?_
    have e : (inHand r s).mark id = .halted := hm
    show setupFormat line.toNat (readFormat s1 s2 s3 par stop) (inHand r s) = _
    rw [readFormat_some hsp hpa hst, h, setupFormat_line hid, if_neg (by simp [e]), ← h]
    simp only [formatBytes, byte3_num3, parityCode_of hpa, byte1_toNat_self]
    rfl
  · exact answers_lineSetup hs hw fun r => setupContact_noLine h
  · exact answers_lineSetup hs hw fun r => setupContact_serial h
  · exact answers_lineSetup hs hw fun r => setupContact_badValue h1 h2 (h.imp_left contactModeOf_none)
  · refine answers_lineSetup hs hw fun r => ?_
    show setupContact line.toNat (contactModeOf mode.toNat) (num2 a1 a2) (inHand r s) = _
    rw [hm, h, setupContact_channel ha, ← h, byte1_toNat_self, contactModeCode_of hm, byte1_toNat_self, byte2_num2]
    cases m <;> rfl
  · refine answers_lineSetup hs hw fun r => ?_
    unfold answerLineSetup
    split
    · next hf => exact absurd (congrArg List.length (List.cons.inj hf).2) h5
    · next hf => exact absurd (congrArg List.length (List.cons.inj hf).2) h3
    · rfl

/-! ## LINE HALT and LINE RUN with a request in hand -/

/-- The lock machine's change in its order: the Intake, LINE_STATE, DETECTOR_LINE_LOST (R29, R30, log entry 11). -/
theorem setLock_eq (n : LockState × Nat × Nat) (t : Timer) (p : Option Nat) (s : State) :
    setLock n t p s =
      if s.di.lock = .locked ∧ n.1 ≠ .locked then
        capture .detectorLineLost 1 (raiseIf (decide (s.di.lock ≠ n.1 ∨ (s.di.panel.isSome ∧ s.di.panel ≠ p)))
          (.lineState 1 (.lock n.1) p) (lockSet n t p s))
      else raiseIf (decide (s.di.lock ≠ n.1 ∨ (s.di.panel.isSome ∧ s.di.panel ≠ p)))
        (.lineState 1 (.lock n.1) p) (lockSet n t p s) := by
  simp only [raiseIf, decide_eq_true_eq]
  rfl

section
variable (r : Request) (s : State)

theorem wantSolveIf_inHand (c : Bool) : wantSolveIf c (inHand r s) = inHand r (wantSolveIf c s) := by
  cases c <;> rfl

theorem setLock_inHand (n : LockState × Nat × Nat) (t : Timer) (p : Option Nat) :
    setLock n t p (inHand r s) = inHand r (setLock n t p s) := by
  have hset : lockSet n t p (inHand r s) = inHand r (lockSet n t p s) := rfl
  rw [setLock_eq, setLock_eq, hset, raiseIf_inHand, capture_inHand]
  exact (apply_ite (inHand r) _ _ _).symm

theorem setLock_waiting (n : LockState × Nat × Nat) (t : Timer) (p : Option Nat) :
    (setLock n t p s).mp.waiting = s.mp.waiting := by
  rw [setLock_eq]
  split
  · rw [capture_waiting, raiseIf_waiting]
    rfl
  · exact raiseIf_waiting _ _ _

theorem setPort_inHand (port : PeerPort) (st : PortState) (adv : Nat → Option Advertisement) :
    setPort port st adv (inHand r s) = inHand r (setPort port st adv s) := by
  simp only [setPort]
  rw [← raiseIf_inHand, ← wantSolveIf_inHand, ← raiseIf_inHand, onPort_inHand]
  rfl

theorem setPort_waiting (port : PeerPort) (st : PortState) (adv : Nat → Option Advertisement) :
    (setPort port st adv s).mp.waiting = s.mp.waiting := by
  simp only [setPort]
  rw [raiseIf_waiting, wantSolveIf_mp, raiseIf_waiting]
  exact congrArg MessagePort.waiting (onPort_mp _ _ _)

theorem sendTrigger_plan {p : Plan} (h : s.ps.active = some p) (port : PeerPort) :
    sendTrigger port s =
      if expectedId p.header port = 0 ∨ s.mark (portLine port) = .halted then s
      else if (portGet s.pp port).spacing.isNone && (portGet s.pp port).sending.isNone then
        s.onPort port fun r =>
          { r with sending := some { frame := buildAdvert p s.rsv.published port r.state, former := false } }
      else s.onPort port fun r => { r with sendPending := true } := by
  simp only [sendTrigger, h]

theorem sendTrigger_inHand (port : PeerPort) : sendTrigger port (inHand r s) = inHand r (sendTrigger port s) := by
  cases hp : s.ps.active with
  | none =>
    have hp' : (inHand r s).ps.active = none := hp
    simp only [sendTrigger, hp, hp']
  | some p =>
    rw [sendTrigger_plan s hp, sendTrigger_plan (inHand r s) hp, onPort_inHand, onPort_inHand]
    simp only [apply_ite (inHand r)]
    rfl

theorem cycleStart_inHand : cycleStart (inHand r s) = inHand r (cycleStart s) := by
  have e : ∀ x : State, cycleStart x =
      (x.ps.active.elim (x.onSlc fallbackStart) fun p =>
        x.rsv.published.elim x fun set =>
          x.onSlc fun c => beginEntry (cycleStartOn p set x.rsv.epoch x.zh.evac c)) := fun x => by
    unfold cycleStart
    cases x.ps.active with
    | none => rfl
    | some p => cases x.rsv.published <;> rfl
  rw [e, e]
  show s.ps.active.elim _ _ = _
  cases s.ps.active with
  | none => rfl
  | some p =>
    show s.rsv.published.elim _ _ = inHand r (s.rsv.published.elim _ _)
    cases s.rsv.published <;> rfl

end

/-! ## A port that is halted (R140, R142, R148) -/

/-- A halted port's record and line, before its state is looked at. -/
def closedLine (port : PeerPort) (s : State) : State :=
  (s.onLine (portLine port) fun l => { l with mark := .halted, rx := [] }).onPort port fun r =>
    { r with age := none, advertise := none, spacing := none, sendPending := false, sending := none }

/-- PEER_DOWN is captured for a port in use that was not DOWN. -/
def peerLost (port : PeerPort) (s : State) : Bool :=
  portInUse s port && decide ((portGet s.pp port).state ≠ .down)

/-- A halted port before it goes DOWN: the line closed, PEER_DOWN captured. -/
def beforeDown (port : PeerPort) (s : State) : State :=
  if peerLost port s then capture .peerDown (portNumber port) (closedLine port s) else closedLine port s

theorem haltPort_eq (port : PeerPort) (s : State) :
    haltPort port s = setPort port .down noAdvert (beforeDown port s) := rfl

theorem beforeDown_inHand (r : Request) (port : PeerPort) (s : State) :
    beforeDown port (inHand r s) = inHand r (beforeDown port s) := by
  have hc : closedLine port (inHand r s) = inHand r (closedLine port s) := by
    rw [closedLine, closedLine, ← onPort_inHand]
    rfl
  unfold beforeDown
  rw [hc, capture_inHand]
  exact (apply_ite (inHand r) _ _ _).symm

theorem beforeDown_waiting (port : PeerPort) (s : State) : (beforeDown port s).mp.waiting = s.mp.waiting := by
  have hc : (closedLine port s).mp = s.mp := onPort_mp _ _ _
  unfold beforeDown
  split
  · rw [capture_waiting, hc]
  · rw [hc]

/-- The detector line halted, before its lock state is looked at. -/
def detectorClosed (s : State) : State := s.onLine .detector fun l => { l with mark := .halted, rx := [] }

theorem haltDetector_eq (s : State) :
    haltDetector s = setLock (.silent, 0, 0) none (detectorClosed s).di.panel (detectorClosed s) := rfl

theorem haltLine_inHand (r : Request) (id : LineId) (s : State) :
    haltLine id (inHand r s) = inHand r (haltLine id s) := by
  have port : ∀ p, haltPort p (inHand r s) = inHand r (haltPort p s) := fun p => by
    rw [haltPort_eq, beforeDown_inHand, setPort_inHand, haltPort_eq]
  cases id with
  | message => rfl
  | detector => exact setLock_inHand r (detectorClosed s) _ _ _
  | sign => rfl
  | peerA => exact port .a
  | peerB => exact port .b

theorem haltLine_waiting (id : LineId) (s : State) : (haltLine id s).mp.waiting = s.mp.waiting := by
  have port : ∀ p, (haltPort p s).mp.waiting = s.mp.waiting := fun p =>
    (setPort_waiting _ _ _ _).trans (beforeDown_waiting p s)
  cases id with
  | message => rfl
  | detector => exact setLock_waiting (detectorClosed s) _ _ _
  | sign => rfl
  | peerA => exact port .a
  | peerB => exact port .b

/-- A halted line's mark (R163). -/
theorem haltLine_mark {id : LineId} (hid : id ≠ .message) (s : State) : (haltLine id s).mark id = .halted := by
  cases id with
  | message => exact absurd rfl hid
  | detector =>
    simp only [haltLine, haltDetector, State.mark, setLock_lines]
    rfl
  | sign => rfl
  | peerA =>
    simp only [haltLine, haltPort_eq, State.mark, setPort_lines, beforeDown]
    split <;> rfl
  | peerB =>
    simp only [haltLine, haltPort_eq, State.mark, setPort_lines, beforeDown]
    split <;> rfl

/-! ### What a port's state and advertisements change -/

section
variable (port : PeerPort) (st : PortState) (adv : Nat → Option Advertisement)

theorem raiseIf_mp (c : Bool) (b : NoticeBody) (s : State) :
    (raiseIf c b s).mp = if c then raiseIn s.mp b s.zh.clock s.tb.seconds else s.mp := by
  cases c <;> rfl

theorem setPort_pp (s : State) :
    (setPort port st adv s).pp =
      { (s.onPort port fun r => { r with state := st }).pp with
        portals := updatePortals s.ps.active port adv s.pp.portals } := by
  simp [setPort]

theorem setPort_rsv (s : State) :
    (setPort port st adv s).rsv =
      if seedDataChanged s.pp.portals (updatePortals s.ps.active port adv s.pp.portals) then (wantSolve s).rsv
      else s.rsv := by
  simp only [setPort, raiseIf_rsv, wantSolveIf]
  split
  · simp [wantSolve]
  · simp

/-- The notices of a port that takes a state, on whatever state has the same Message Port, clock and seconds. -/
theorem setPort_mp {s u : State} (hmp : s.mp = u.mp) (hzh : s.zh = u.zh) (htb : s.tb = u.tb) :
    (setPort port st adv s).mp =
      let after := updatePortals s.ps.active port adv s.pp.portals
      (raiseIf
        (decide ((portGet s.pp port).state = .up ∧ st ≠ .up) || !(changedExits s.pp.portals after).isEmpty)
        (.portalChange port st (liveOnPort s.ps.active port after) (changedExits s.pp.portals after).head?)
        (raiseIf (decide ((portGet s.pp port).state ≠ st)) (.lineState (portNumber port) (.port st) none) u)).mp := by
  simp [setPort, raiseIf_mp, hmp, hzh, htb]

end

/-! ### The advertisements of a port that goes DOWN -/

section
variable {p : Plan} {port : PeerPort}

theorem onPort_eq_isSome (p : Plan) (exit : Nat) (port : PeerPort) :
    onPort p exit port = (portalOnPort p exit port).isSome := by
  unfold onPort portalOnPort
  cases portalOf p exit with
  | none => rfl
  | some f => by_cases h : f.port = port <;> simp [h]

/-- Every portal of a port that goes DOWN is UNKNOWN (R141). -/
theorem updatePortals_unknown {portals : List PortalRun} {r : PortalRun}
    (hr : r ∈ updatePortals (some p) port noAdvert portals) (ho : onPort p r.exit port = true) :
    r.advertisement = none := by
  obtain ⟨x, _, rfl⟩ := List.mem_map.1 hr
  rw [onPort_eq_isSome] at ho
  dsimp only at ho ⊢
  cases hx : portalOnPort p x.exit port with
  | none => simp [hx] at ho
  | some f => rfl

theorem liveOnPort_down (plan : Option Plan) (portals : List PortalRun) :
    liveOnPort plan port (updatePortals plan port noAdvert portals) = 0 := by
  cases plan with
  | none => rfl
  | some p =>
    simp only [liveOnPort, List.length_eq_zero_iff, List.filter_eq_nil_iff, Bool.and_eq_true, not_and]
    intro r hr ho
    rw [← onPort_eq_isSome] at ho
    simp [updatePortals_unknown hr ho]

theorem updatePortals_length (plan : Option Plan) (adv : Nat → Option Advertisement) (portals : List PortalRun) :
    (updatePortals plan port adv portals).length = portals.length := by simp [updatePortals]

end

/-- The first exit whose portal's advertisement differs. -/
def firstChanged (old new : List PortalRun) : Option Nat :=
  ((old.zip new).find? fun x => decide (x.1.advertisement ≠ x.2.advertisement)).map (·.1.exit)

theorem changedExits_head? (old new : List PortalRun) : (changedExits old new).head? = firstChanged old new := by
  rw [changedExits, List.head?_map, List.head?_filter, firstChanged]

theorem changedExits_isEmpty (old new : List PortalRun) :
    (!(changedExits old new).isEmpty) = decide (firstChanged old new ≠ none) := by
  rw [← changedExits_head?]
  cases changedExits old new <;> rfl

/-- Seed data change exactly where the lists of seed data differ (R142). -/
theorem seedDataChanged_iff {old : List PortalRun} : ∀ {new : List PortalRun}, new.length = old.length →
    (seedDataChanged old new = true ↔
      old.map (fun r => seedData r.advertisement) ≠ new.map fun r => seedData r.advertisement) := by
  induction old with
  | nil =>
    intro new h
    obtain rfl := List.length_eq_zero_iff.1 h
    simp [seedDataChanged]
  | cons r old ih =>
    intro new h
    obtain _ | ⟨x, new⟩ := new
    · simp at h
    · have := ih (by simpa using h)
      simp only [seedDataChanged, List.zip_cons_cons, List.any_cons, Bool.or_eq_true, decide_eq_true_eq] at this ⊢
      rw [this]
      simp only [List.map_cons, ne_eq, List.cons.injEq, not_and_or]

/-! ## The answers of LINE HALT and LINE RUN -/

theorem markedLine_of {line : Byte} {id : LineId} (hid : id ≠ .message) (h : line.toNat = lineNumber id) :
    markedLine line = some id := by
  have hne : line ≠ 0 := fun e => by
    subst e
    cases id with
    | message => exact hid rfl
    | _ => cases h
  rw [markedLine, if_neg hne, h, lineOf_lineNumber]

theorem markedLine_none {line : Byte} (h : line = 0 ∨ 4 < line.toNat) : markedLine line = none := by
  rcases h with rfl | h
  · rfl
  · simp only [markedLine, lineOf_none h, ite_self]

section
variable {line : Byte} {id : LineId}

theorem answerLineHalt_noLine (h : markedLine line = none) : answerLineHalt [line] s = turnedAway .badValue s := by
  simp [answerLineHalt, h]

theorem answerLineRun_noLine (h : markedLine line = none) : answerLineRun [line] s = turnedAway .badValue s := by
  simp [answerLineRun, h]

theorem answerLineHalt_halted (h : markedLine line = some id) (hm : s.mark id = .halted) :
    answerLineHalt [line] s = answered [line, 1] s := by
  simp [answerLineHalt, h, hm, markAnswer, lineMarkCode, byte1]

theorem answerLineRun_running (h : markedLine line = some id) (hm : s.mark id = .running) :
    answerLineRun [line] s = answered [line, 0] s := by
  simp [answerLineRun, h, hm, markAnswer, lineMarkCode, byte1]

theorem answerLineHalt_refused (h : markedLine line = some .sign) (hm : s.mark .sign = .running)
    (ha : s.zh.evac = .active) : answerLineHalt [line] s = turnedAway .refused s := by
  simp [answerLineHalt, h, hm, ha]

theorem answerLineHalt_halts (h : markedLine line = some id) (hid : id ≠ .message) (hm : s.mark id = .running)
    (hs : id = .sign → s.zh.evac ≠ .active) : answerLineHalt [line] s = answered [line, 1] (haltLine id s) := by
  have hrefuse : ¬ (id = .sign ∧ s.zh.evac = .active) := fun ⟨h1, h2⟩ => hs h1 h2
  simp [answerLineHalt, h, hm, hrefuse, markAnswer, haltLine_mark hid, lineMarkCode, byte1]

theorem answerLineRun_runs (h : markedLine line = some id) (hm : s.mark id = .halted)
    (hr : (runLine id s).mark id = .running) : answerLineRun [line] s = answered [line, 0] (runLine id s) := by
  simp [answerLineRun, h, hm, markAnswer, hr, lineMarkCode, byte1]

end

/-- A line that is halted answers with its mark, its owner having halted it. -/
theorem answers_halts {tag line : Byte} {id : LineId} (hs : Ready s) (hid : id ≠ .message)
    (h : line.toNat = lineNumber id) (hm : s.mark id = .running) (hsign : id = .sign → s.zh.evac ≠ .active) :
    Answers (.lineHalt tag [line]) s .ok [line, 1] (haltLine id s) := by
  have ⟨_, _, hw, _, _⟩ := hs
  refine answers_of _ _ s _ _ _ rfl hs ((haltLine_waiting _ _).trans hw) ?_
  rw [← haltLine_inHand]
  exact answerLineHalt_halts (s := inHand _ s) (markedLine_of hid h) hid hm hsign

/-- A line that is run answers with its mark, its owner having run it. -/
theorem answers_runs {tag line : Byte} {id : LineId} {t : State} (hs : Ready s) (hid : id ≠ .message)
    (h : line.toNat = lineNumber id) (hm : s.mark id = .halted) (ht : t.mp.waiting = none)
    (hmark : t.mark id = .running) (hrun : ∀ r, runLine id (inHand r s) = inHand r t) :
    Answers (.lineRun tag [line]) s .ok [line, 0] t := by
  refine answers_of _ _ s _ _ _ rfl hs ht ?_
  rw [← hrun]
  exact answerLineRun_runs (s := inHand _ s) (markedLine_of hid h) hm (by rw [hrun]; exact hmark)

/-! ## Halting the detector line (R28, R30) -/

/-- LINE_STATE of the detector line going SILENT, where it was not. -/
def silentTold (s : State) : State :=
  if s.di.lock = .silent then s else raise (.lineState 1 (.lock .silent) s.di.panel) s

/-- What the halt of the detector line captures and tells, by the lock state it ends. -/
theorem haltDetector_told (s : State) :
    (s.di.lock ≠ .locked → (haltDetector s).fc = s.fc ∧ (haltDetector s).mp = (silentTold s).mp) ∧
    (s.di.lock = .locked → (haltDetector s).fc = (capture .detectorLineLost 1 s).fc ∧
      (haltDetector s).mp = (capture .detectorLineLost 1 (silentTold s)).mp) := by
  have hh := haltDetector_eq s
  refine ⟨fun hl => ?_, fun hl => ?_⟩
  · by_cases hs : s.di.lock = .silent
    · rw [hh, setLock_same (n := (.silent, 0, 0)) none (s := detectorClosed s) hs (.inr rfl), silentTold, if_pos hs]
      exact ⟨rfl, rfl⟩
    · rw [hh, setLock_moves (n := (.silent, 0, 0)) none (s := detectorClosed s) hs hl, silentTold, if_neg hs]
      exact ⟨rfl, rfl⟩
  · rw [hh, setLock_lost none (s := detectorClosed s) hl (by simp), silentTold, if_neg (by simp [hl])]
    exact ⟨rfl, rfl⟩

/-! ## Running the sign line and a peer port (R131, R148) -/

/-- A line that runs: its receiver hunts in the format stored (R166). -/
def runningLine (id : LineId) (s : State) : State :=
  s.onLine id fun l => { l with mark := .running, inUse := l.format, rx := [] }

/-- The sign line running, and the refresh timer restarted. -/
def signRefreshed (s : State) : State :=
  { runningLine .sign s with slc := { s.slc with refresh := refreshSetting s } }

theorem runSign_quiet (h : s.slc.exchange = none) :
    runSign s =
      if s.slc.cycle = .idle then cycleStart (signRefreshed s) else runningLine .sign s := by
  have hd : drainEnded (runningLine .sign s) = runningLine .sign s := drainEnded_none fun e he => by
    cases h.symm.trans he
  have hr : requestStart (signRefreshed s) = cycleStart (signRefreshed s) := by
    have hx : (signRefreshed s).slc.exchange = none := h
    simp [requestStart, hx]
  show (if s.slc.cycle = .idle then requestStart (restartRefresh (drainEnded (runningLine .sign s)))
    else drainEnded (runningLine .sign s)) = _
  rw [hd, ← hr]
  rfl

theorem runPort_eq (port : PeerPort) (s : State) :
    runPort port s =
      if portInUse s port then
        sendTrigger port ((runningLine (portLine port) s).onPort port fun r =>
          { r with advertise := some (advertiseTicks s) })
      else runningLine (portLine port) s := rfl

section
variable (r : Request) (s : State)

theorem runSign_inHand (h : s.slc.exchange = none) : runSign (inHand r s) = inHand r (runSign s) := by
  have hr : signRefreshed (inHand r s) = inHand r (signRefreshed s) := rfl
  rw [runSign_quiet h, runSign_quiet (s := inHand r s) h, hr, cycleStart_inHand, apply_ite (inHand r)]
  rfl

theorem runSign_mp (h : s.slc.exchange = none) : (runSign s).mp = s.mp := by
  rw [runSign_quiet h]
  split
  · rw [cycleStart_mp]
    rfl
  · rfl

theorem runSign_mark (h : s.slc.exchange = none) : (runSign s).mark .sign = .running := by
  rw [runSign_quiet h, State.mark]
  split
  · rw [cycleStart_lines]
    rfl
  · rfl

theorem runPort_inHand (port : PeerPort) : runPort port (inHand r s) = inHand r (runPort port s) := by
  have hl : runningLine (portLine port) (inHand r s) = inHand r (runningLine (portLine port) s) := rfl
  rw [runPort_eq, runPort_eq, hl, onPort_inHand, sendTrigger_inHand]
  exact (apply_ite (inHand r) _ _ _).symm

theorem runPort_mp (port : PeerPort) : (runPort port s).mp = s.mp := by
  rw [runPort_eq]
  split
  · rw [sendTrigger_mp, onPort_mp]
    rfl
  · rfl

theorem runPort_mark (port : PeerPort) : (runPort port s).mark (portLine port) = .running := by
  have hl : (lineGet (runningLine (portLine port) s).lines (portLine port)).mark = .running := by
    rw [runningLine, onLine_line]
  rw [runPort_eq, State.mark]
  split
  · rw [sendTrigger_lines, onPort_lines, hl]
  · exact hl

end

theorem portLine_ne (port : PeerPort) : portLine port ≠ .message := by cases port <;> decide

theorem haltLine_port (port : PeerPort) (s : State) : haltLine (portLine port) s = haltPort port s := by
  cases port <;> rfl

theorem runLine_port (port : PeerPort) (s : State) : runLine (portLine port) s = runPort port s := by
  cases port <;> rfl

/-! ## Halting a peer port -/

section
variable (port : PeerPort) (s : State)

/-- PEER_DOWN, where it is captured at a halt. -/
def peerDownLost : State :=
  if portInUse s port = true ∧ (portGet s.pp port).state ≠ .down then capture .peerDown (portNumber port) s else s

/-- LINE_STATE of a port that goes DOWN, where it was not. -/
def portDownTold : State :=
  if (portGet s.pp port).state = .down then peerDownLost port s
  else raise (.lineState (portNumber port) (.port .down) none) (peerDownLost port s)

theorem peerLost_iff : peerLost port s = true ↔ portInUse s port = true ∧ (portGet s.pp port).state ≠ .down := by
  simp [peerLost]

theorem closedLine_mp : (closedLine port s).mp = s.mp := by simp [closedLine]
theorem closedLine_fc : (closedLine port s).fc = s.fc := by cases port <;> rfl

/-! ### A halted port before it goes DOWN -/

theorem beforeDown_ps : (beforeDown port s).ps = s.ps := by
  unfold beforeDown
  split <;> simp [closedLine]

theorem beforeDown_di : (beforeDown port s).di = s.di := by
  unfold beforeDown
  split <;> simp [closedLine]

theorem beforeDown_zh : (beforeDown port s).zh = s.zh := by
  unfold beforeDown
  split <;> simp [closedLine]

theorem beforeDown_rsv : (beforeDown port s).rsv = s.rsv := by
  unfold beforeDown
  split <;> simp [closedLine]

theorem beforeDown_slc : (beforeDown port s).slc = s.slc := by
  unfold beforeDown
  split <;> simp [closedLine]

theorem beforeDown_tb : (beforeDown port s).tb = s.tb := by
  unfold beforeDown
  split <;> simp [closedLine]

/-- A halt closes the port's record, and leaves its state and the portals for the port's going DOWN. -/
theorem beforeDown_pp :
    (beforeDown port s).pp = (s.onPort port fun r =>
      { r with age := none, advertise := none, spacing := none, sendPending := false, sending := none }).pp := by
  unfold beforeDown
  split <;> cases port <;> rfl

theorem beforeDown_fc : (beforeDown port s).fc = (peerDownLost port s).fc := by
  unfold beforeDown peerDownLost
  simp only [peerLost_iff]
  split
  · cases port <;> rfl
  · exact closedLine_fc port s

theorem beforeDown_mp : (beforeDown port s).mp = (peerDownLost port s).mp := by
  unfold beforeDown peerDownLost
  simp only [peerLost_iff]
  split
  · cases port <;> rfl
  · exact closedLine_mp port s

theorem beforeDown_state : (portGet (beforeDown port s).pp port).state = (portGet s.pp port).state := by
  rw [beforeDown_pp]
  cases port <;> rfl

theorem beforeDown_portals : (beforeDown port s).pp.portals = s.pp.portals := by
  rw [beforeDown_pp]
  cases port <;> rfl

/-! ### A halted port -/

theorem haltPort_port :
    portGet (haltPort port s).pp port =
      { portGet s.pp port with
        state := .down, age := none, advertise := none, spacing := none, sendPending := false, sending := none } := by
  rw [haltPort_eq, setPort_pp]
  have hp := beforeDown_pp port s
  cases port <;> simp only [State.onPort, portGet, hp]

theorem haltPort_portals :
    (haltPort port s).pp.portals = updatePortals s.ps.active port noAdvert s.pp.portals := by
  rw [haltPort_eq, setPort_pp, beforeDown_ps, beforeDown_portals]

theorem haltPort_fc : (haltPort port s).fc = (peerDownLost port s).fc := by
  rw [haltPort_eq, setPort_fc, beforeDown_fc]

theorem haltPort_rsv :
    (haltPort port s).rsv =
      if seedDataChanged s.pp.portals (haltPort port s).pp.portals then (wantSolve s).rsv else s.rsv := by
  rw [haltPort_portals, haltPort_eq, setPort_rsv, beforeDown_ps, beforeDown_portals, wantSolve, beforeDown_rsv]
  rfl

/-- The notices of a halt in their order: PEER_DOWN's, LINE_STATE, PORTAL_CHANGE (log entries 11, 30). -/
theorem haltPort_mp :
    (haltPort port s).mp =
      (raiseIf
        (decide ((portGet s.pp port).state = .up ∨ firstChanged s.pp.portals (haltPort port s).pp.portals ≠ none))
        (.portalChange port .down 0 (firstChanged s.pp.portals (haltPort port s).pp.portals))
        (portDownTold port s)).mp := by
  have htold : raiseIf (decide ((portGet s.pp port).state ≠ .down)) (.lineState (portNumber port) (.port .down) none)
      (peerDownLost port s) = portDownTold port s := by
    unfold raiseIf portDownTold
    by_cases h : (portGet s.pp port).state = .down <;> simp [h]
  have hlost : (peerDownLost port s).zh = s.zh ∧ (peerDownLost port s).tb = s.tb := by
    unfold peerDownLost
    split <;> exact ⟨rfl, rfl⟩
  rw [haltPort_portals, haltPort_eq,
    setPort_mp port .down noAdvert (beforeDown_mp port s) ((beforeDown_zh port s).trans hlost.1.symm)
      ((beforeDown_tb port s).trans hlost.2.symm),
    beforeDown_ps, beforeDown_portals, beforeDown_state]
  dsimp only
  rw [liveOnPort_down, changedExits_head?, changedExits_isEmpty, htold]
  simp

end

/-- PORTAL_CHANGE rises at a halt of a port that was UP or drops an advertisement (R142). -/
theorem haltPort_told (port : PeerPort) (s : State) :
    let first := firstChanged s.pp.portals (haltPort port s).pp.portals
    ((portGet s.pp port).state = .up ∨ first ≠ none →
      (haltPort port s).mp = (raise (.portalChange port .down 0 first) (portDownTold port s)).mp) ∧
    ((portGet s.pp port).state ≠ .up → first = none → (haltPort port s).mp = (portDownTold port s).mp) := by
  refine ⟨fun h => ?_, fun h1 h2 => ?_⟩ <;> rw [haltPort_mp, raiseIf]
  · rw [if_pos (decide_eq_true h)]
  · rw [if_neg (by simp [h1, h2])]

/-- With no plan, a halt of a port that is DOWN wants no solve and tells nothing. -/
theorem haltPort_noPlan {port : PeerPort} (hn : s.ps.active = none) (hd : (portGet s.pp port).state = .down) :
    (haltPort port s).rsv = s.rsv ∧ (haltPort port s).mp = s.mp := by
  have hportals : (haltPort port s).pp.portals = s.pp.portals := by
    rw [haltPort_portals, hn]
    exact List.map_id _
  have hself : firstChanged s.pp.portals s.pp.portals = none := by
    rw [← changedExits_head?, changedExits_self]
    rfl
  rw [haltPort_rsv, haltPort_mp, hportals, seedDataChanged_self, hself]
  simp [hd, raiseIf, portDownTold, peerDownLost]

/-- What a halt does to the solver, by whether it changes seed data (R142). -/
theorem haltPort_seeds (port : PeerPort) (s : State) :
    let seeds (x : State) := x.pp.portals.map fun r => r.advertisement.map fun a => (a.cost, a.hop)
    (seeds s ≠ seeds (haltPort port s) → (haltPort port s).rsv =
      { s.rsv with wanted := true, stale := if s.rsv.state = .solving then true else s.rsv.stale }) ∧
    (seeds s = seeds (haltPort port s) → (haltPort port s).rsv = s.rsv) := by
  have hlen : (haltPort port s).pp.portals.length = s.pp.portals.length := by
    rw [haltPort_portals, updatePortals_length]
  have hiff := seedDataChanged_iff hlen
  refine ⟨fun h => ?_, fun h => ?_⟩ <;> rw [haltPort_rsv]
  · rw [if_pos (hiff.2 h)]
    by_cases hs : s.rsv.state = .solving <;> simp [wantSolve, hs]
  · rw [if_neg fun hc => hiff.1 hc h]

/-! ## RESTART (R167) -/

/-- The answer to a RESTART. -/
theorem answers_restart {tag : Byte} {st : ReplyStatus} {t : State} (hs : Ready s) (hw : t.mp.waiting = none)
    (h : ∀ r : Request, answerRestart [] (inHand r s) = { state := inHand r t, status := st, fields := [] }) :
    Answers (.restart tag []) s st [] t :=
  answers_of _ { kind := 0x1E, tag := tag, fields := [] } s t st [] rfl hs hw (h _)

theorem answerRestart_active (h : s.zh.evac = .active) : answerRestart [] s = turnedAway .refused s := by
  simp [answerRestart, withoutFields_nil, h]

theorem answerRestart_storing (h : s.zh.evac ≠ .active) (hs : s.ps.storing = true) :
    answerRestart [] s = turnedAway .busy s := by
  simp [answerRestart, withoutFields_nil, h, hs]

theorem answerRestart_accepted (h : s.zh.evac ≠ .active) (hs : s.ps.storing = false) :
    answerRestart [] s = answered [] { s with mp := { s.mp with deferred := .restartAfterReply } } := by
  simp [answerRestart, withoutFields_nil, h, hs]

/-- Settles O53, line by line and mark by mark, and for RESTART by the evacuation state and the store. -/
theorem line_halt_run_and_restart : Obligations.line_halt_run_and_restart := by
  intro tag line s hs
  have ⟨_, _, hw, _, _⟩ := hs
  refine ⟨fun h => ⟨?_, ?_⟩, fun id hid h => ⟨fun hm => ?_, fun hm => ?_⟩, fun h hm => ?_, fun h hm ha => ?_,
    fun h hm ha => ?_, fun port h hm => ?_, fun h hm => ?_, fun h hm hx => ?_, fun port h hm => ?_, fun ha => ?_,
    fun ha hst => ?_, fun ha hst => ?_⟩
  · exact turnedAway_of _ _ rfl hs (answerLineHalt_noLine (markedLine_none h))
  · exact turnedAway_of _ _ rfl hs (answerLineRun_noLine (markedLine_none h))
  · exact answers_of _ _ s _ _ _ rfl hs hw (answerLineHalt_halted (s := inHand _ s) (markedLine_of hid h) hm)
  · exact answers_of _ _ s _ _ _ rfl hs hw (answerLineRun_running (s := inHand _ s) (markedLine_of hid h) hm)
  · subst h
    refine ⟨_, answers_halts (id := .detector) hs (by simp) rfl hm (by simp), ?_⟩
    have hdi : (haltDetector s).di = { s.di with lock := .silent, validRun := 0, invalidRun := 0, silence := none } :=
      setLock_di _ _ _ _
    exact ⟨setLock_lines _ _ _ _, hdi, setLock_zh _ _ _ _, setLock_rsv _ _ _ _, setLock_slc _ _ _ _,
      setLock_pp _ _ _ _, setLock_ps _ _ _ _, haltDetector_told s⟩
  · have hl : markedLine line = some .sign := by rw [h]; rfl
    exact turnedAway_of _ _ rfl hs (answerLineHalt_refused (s := inHand _ s) hl hm ha)
  · subst h
    exact answers_halts (id := .sign) hs (by simp) rfl hm fun _ => ha
  · refine ⟨_, answers_halts hs (portLine_ne port) h hm (by cases port <;> simp [portLine]), ?_⟩
    have hmark := haltLine_mark (portLine_ne port) s
    rw [haltLine_port] at hmark ⊢
    have hport := haltPort_port port s
    have hlost : ∀ x : State, x = peerDownLost port s → (haltPort port s).fc = x.fc := fun x hx =>
      hx ▸ haltPort_fc port s
    refine ⟨by rw [hport], by rw [hport], by rw [hport], by rw [hport], by rw [hport], by rw [hport], hmark,
      fun p r hp hr ho => ?_, (setPort_zh _ _ _ _).trans (beforeDown_zh port s),
      (setPort_di _ _ _ _).trans (beforeDown_di port s), (setPort_slc _ _ _ _).trans (beforeDown_slc port s),
      (setPort_ps _ _ _ _).trans (beforeDown_ps port s), fun hu hd => ?_, fun h => ?_, fun p hp => ?_, fun hn hd => ?_⟩
    · rw [haltPort_portals, hp] at hr
      exact updatePortals_unknown hr ho
    · exact hlost _ (if_pos ⟨hu, hd⟩).symm
    · exact hlost _ (if_neg fun ⟨hu, hd⟩ => h.elim (by simp [hu]) hd).symm
    · obtain ⟨hwant, hkeep⟩ := haltPort_seeds port s
      obtain ⟨hraise, hquiet⟩ := haltPort_told port s
      exact ⟨hwant, hkeep, hraise, hquiet⟩
    · exact haltPort_noPlan hn hd
  · subst h
    exact answers_runs (id := .detector) hs (by simp) rfl hm hw rfl fun _ => rfl
  · subst h
    have hrun := answers_runs (tag := tag) (line := 2) (id := .sign) (t := runSign s) hs (by simp) rfl hm
      ((congrArg MessagePort.waiting (runSign_mp s hx)).trans hw) (runSign_mark s hx) fun r => runSign_inHand r s hx
    rw [runSign_quiet hx] at hrun
    exact hrun
  · refine answers_runs (t := runPort port s) hs (portLine_ne port) h hm
      ((congrArg MessagePort.waiting (runPort_mp s port)).trans hw) (runPort_mark s port) fun r => ?_
    rw [runLine_port, runPort_inHand]
  · exact answers_restart hs hw fun r => answerRestart_active (s := inHand r s) ha
  · exact answers_restart hs hw fun r => answerRestart_storing (s := inHand r s) ha hst
  · exact answers_restart hs hw fun r => answerRestart_accepted (s := inHand r s) ha hst

end Sys2Proof.Machine
end

section
/-! SUPPORT. What a zone's change of state comes to (R54, R59, R63), by the evacuation state and the state entered. -/

namespace Sys2Proof.Machine

variable {s : State} (zone : Nat) (a : ZoneState) {b : ZoneState}

theorem zoneChanged_active (h : s.zh.evac = .active) :
    zoneChanged zone a b s = raise (.zoneChange zone a b) (wantSolve s) := if_pos h

theorem zoneChanged_smoke (h : s.zh.evac ≠ .active) :
    zoneChanged zone a .smoke s = enterActive (.zone zone) (raise (.zoneChange zone a .smoke) (wantSolve s)) :=
  if_neg h

theorem zoneChanged_calm (h : s.zh.evac ≠ .active) (hb : b ≠ .smoke) :
    zoneChanged zone a b s =
      setEvac (derivedEvac s.zh.zones) (.zone zone) (raise (.zoneChange zone a b) (wantSolve s)) :=
  (if_neg h).trans (if_neg hb)

theorem zoneChanged_zh_active (h : s.zh.evac = .active) : (zoneChanged zone a b s).zh = s.zh := by
  rw [zoneChanged_active zone a h]
  rfl

theorem zoneChanged_zh_smoke (h : s.zh.evac ≠ .active) :
    (zoneChanged zone a .smoke s).zh =
      { s.zh with evac := .active, clock := { clockZero with running := true } } := by
  rw [zoneChanged_smoke zone a h, enterActive_zh]
  rfl

theorem zoneChanged_zh_calm (h : s.zh.evac ≠ .active) (hb : b ≠ .smoke) :
    (zoneChanged zone a b s).zh = { s.zh with evac := derivedEvac s.zh.zones } := by
  rw [zoneChanged_calm zone a h hb, setEvac_zh]
  rfl

end Sys2Proof.Machine
end

section
/-! SUPPORT. What every step keeps of the zones and the evacuation clock, of tallies and counters, and of the Timebase
(O4, O6, O7). -/

namespace Sys2Proof.Machine

/-! ## Zones: SMOKE only in ACTIVE, and each timer in its state (R46, R59) -/

/-- A zone's timers run only in their states (R46). -/
def TimersOk (z : ZoneRun) : Prop :=
  (z.suspect ≠ none → z.state = .suspect) ∧ (z.clearHold ≠ none → z.state = .clearing)

/-- A zone in SMOKE only while the hall is ACTIVE (R59), and every zone's timers in their states. -/
def ZonesOk (zh : Hazard) : Prop := SmokeActive zh ∧ ZoneTimersOk zh

theorem zoneTimersOk_iff (zh : Hazard) : ZoneTimersOk zh ↔ ∀ z ∈ zh.zones, TimersOk z := Iff.rfl

theorem timersOk_toSmoke (z : ZoneRun) : TimersOk (toSmoke z) := by simp [TimersOk, toSmoke]
theorem timersOk_toClear (z : ZoneRun) : TimersOk (toClear z) := by simp [TimersOk, toClear]
theorem timersOk_toSuspect (n : Nat) (z : ZoneRun) : TimersOk (toSuspect n z) := by simp [TimersOk, toSuspect]
theorem timersOk_toClearing (n : Nat) (z : ZoneRun) : TimersOk (toClearing n z) := by simp [TimersOk, toClearing]

/-- An evaluation leaves each timer in its state (R49 to R52). -/
theorem timersOk_evaluated {z : ZoneRun} (c : Conditions) (peak : Level) (m n : Nat) (h : TimersOk z) :
    TimersOk (evaluated z c peak m n) := by
  unfold evaluated
  split
  · split
    · split
      · exact timersOk_toSmoke z
      · exact timersOk_toSuspect m z
    · exact h
  · split
    · exact timersOk_toSmoke z
    · exact h
  · split
    · exact timersOk_toClearing n z
    · exact h
  · next hz =>
    split
    · exact timersOk_toSmoke z
    · split
      · exact ⟨h.1, fun _ => hz⟩
      · exact h

theorem timersOk_tickZone {z : ZoneRun} (h : TimersOk z) : TimersOk (tickZone z) := by
  simpa [TimersOk, tickZone] using h

theorem timersOk_carriedZone {old : Option ZoneRun} (setting : ZoneRec) (h : ∀ z, old = some z → TimersOk z) :
    TimersOk (carriedZone old setting) := by
  cases old with
  | none => simp [TimersOk, carriedZone]
  | some z => exact h z rfl

/-- A zone table that holds no zone in SMOKE outside ACTIVE, and timers in their states. -/
theorem zonesOk_iff (zh : Hazard) :
    ZonesOk zh ↔ ∀ z ∈ zh.zones, (z.state = .smoke → zh.evac = .active) ∧ TimersOk z := by
  simp only [ZonesOk, SmokeActive, zoneTimersOk_iff]
  grind

/-- A zone's record replaced keeps the zones in order where ACTIVE follows the new record and stays for the others. -/
theorem zonesOk_set {h k : Hazard} {zone : Nat} {b : ZoneRun} (ok : ZonesOk h) (hz : k.zones = h.zones.set zone b)
    (hs : b.state = .smoke → k.evac = .active) (ha : h.evac = .active → k.evac = .active) (hb : TimersOk b) :
    ZonesOk k := by
  rw [zonesOk_iff] at ok ⊢
  intro z hmem
  rw [hz] at hmem
  rcases List.mem_or_eq_of_mem_set hmem with hold | rfl
  · exact ⟨ha ∘ (ok z hold).1, (ok z hold).2⟩
  · exact ⟨hs, hb⟩

/-- A record of the zone table replaced, with the consequences of its change of state (R54, R59). -/
theorem zonesOk_updateZone {s : State} {zone : Nat} {a b : ZoneRun} (ok : ZonesOk s.zh)
    (ha : s.zh.zones[zone]? = some a) (hb : TimersOk a → TimersOk b) : ZonesOk (updateZone zone a b s).zh := by
  obtain ⟨hsmoke, htimers⟩ := (zonesOk_iff _).1 ok a (List.mem_of_getElem? ha)
  by_cases he : a.state = b.state
  · rw [updateZone_same _ _ _ _ he]
    exact zonesOk_set ok rfl (fun h => hsmoke (he.trans h)) id (hb htimers)
  rw [updateZone_diff _ _ _ _ he]
  by_cases hact : s.zh.evac = .active
  · rw [zoneChanged_zh_active (s := setZone zone b s) _ _ hact]
    exact zonesOk_set ok rfl (fun _ => hact) id (hb htimers)
  by_cases hnew : b.state = .smoke
  · rw [hnew, zoneChanged_zh_smoke (s := setZone zone b s) _ _ hact]
    exact zonesOk_set ok rfl (fun _ => rfl) (fun _ => rfl) (hb htimers)
  · rw [zoneChanged_zh_calm (s := setZone zone b s) _ _ hact hnew]
    exact zonesOk_set ok rfl (absurd · hnew) (absurd · hact) (hb htimers)

/-! ## The evacuation clock (R63) -/

theorem ClockOk.of_evac {h k : Hazard} (ok : ClockOk h) (hc : k.clock = h.clock)
    (he : k.evac = .active ↔ h.evac = .active) : ClockOk k :=
  ⟨hc ▸ ok.minutes, hc ▸ ok.seconds, hc ▸ ok.tenths, hc ▸ ok.running.trans he.symm⟩

/-- The clock that starts with ACTIVE. -/
theorem clockOk_started (h : Hazard) :
    ClockOk { h with evac := .active, clock := { clockZero with running := true } } := by
  constructor <;> simp [clockZero]

theorem clockOk_enterActive (c : EvacCause) (s : State) : ClockOk (enterActive c s).zh := by
  rw [enterActive_zh]
  exact clockOk_started s.zh

/-- The clock that holds its value as the hall leaves ACTIVE. -/
theorem clockOk_leaveActive (c : EvacCause) {s : State} (ok : ClockOk s.zh) : ClockOk (leaveActive c s).zh := by
  rw [leaveActive, setEvac_zh]
  exact ⟨ok.minutes, ok.seconds, ok.tenths, by simp [derivedEvac_ne_active]⟩

theorem clockOk_updateZone {s : State} (zone : Nat) (a b : ZoneRun) (ok : ClockOk s.zh) :
    ClockOk (updateZone zone a b s).zh := by
  by_cases he : a.state = b.state
  · rw [updateZone_same _ _ _ _ he]
    exact ok.of_evac rfl Iff.rfl
  rw [updateZone_diff _ _ _ _ he]
  by_cases hact : s.zh.evac = .active
  · rw [zoneChanged_zh_active (s := setZone zone b s) _ _ hact]
    exact ok.of_evac rfl Iff.rfl
  by_cases hnew : b.state = .smoke
  · rw [hnew, zoneChanged_zh_smoke (s := setZone zone b s) _ _ hact]
    exact clockOk_started _
  · rw [zoneChanged_zh_calm (s := setZone zone b s) _ _ hact hnew]
    exact ok.of_evac rfl (iff_of_false (derivedEvac_ne_active _) hact)

/-- The tenths that a clock shows. -/
def clockTenths (c : EvacClock) : Nat := c.minutes * 600 + c.seconds * 10 + c.tenths

/-- One tenth more, up to 99:59.9: the digits stay in their ranges, and the running mark as it was. -/
theorem advanceClock_spec {c : EvacClock} (hm : c.minutes ≤ 99) (hs : c.seconds ≤ 59) (ht : c.tenths ≤ 9) :
    (advanceClock c).minutes ≤ 99 ∧ (advanceClock c).seconds ≤ 59 ∧ (advanceClock c).tenths ≤ 9 ∧
      (advanceClock c).running = c.running ∧ clockTenths (advanceClock c) = min 59999 (clockTenths c + 1) := by
  unfold advanceClock clockTenths
  split
  · exact ⟨hm, hs, ht, rfl, by omega⟩
  · split
    · exact ⟨hm, hs, by dsimp only; omega, rfl, by dsimp only; omega⟩
    · split
      · exact ⟨hm, by dsimp only; omega, Nat.zero_le 9, rfl, by dsimp only; omega⟩
      · exact ⟨by dsimp only; omega, Nat.zero_le 59, Nat.zero_le 9, rfl, by dsimp only; omega⟩

theorem clockOk_tickHazard {h : Hazard} (ok : ClockOk h) : ClockOk (tickHazard h) := by
  obtain ⟨hm, hs, ht, hr⟩ := ok
  obtain ⟨hm', hs', ht', hr', _⟩ := advanceClock_spec hm hs ht
  unfold tickHazard
  by_cases ha : h.evac = .active
  · simp only [ha, if_true]
    exact ⟨hm', hs', ht', by rw [hr', hr]; simp [ha]⟩
  · simp only [ha, if_false]
    exact ⟨hm, hs, ht, hr⟩

/-! ## Tallies and counters (R175, R178) -/

/-- The record's part of a capture leaves tallies and counters (R176). -/
theorem recordIn_counts (fc : FaultCapture) (k : FaultKind) (subject seconds : Nat) :
    (recordIn fc k subject seconds).1.tallies = fc.tallies ∧
      (recordIn fc k subject seconds).1.counters = fc.counters := by
  unfold recordIn
  (repeat' split) <;> exact ⟨rfl, rfl⟩

theorem FaultsOk.of_same {a b : FaultCapture} (h : FaultsOk a) (ht : b.tallies = a.tallies)
    (hc : b.counters = a.counters) : FaultsOk b := ⟨ht ▸ h.tallies, hc ▸ h.counters⟩

/-- A tally counts to 255 (R175). -/
theorem faultsOk_tallyIn {fc : FaultCapture} (k : FaultKind) (h : FaultsOk fc) : FaultsOk (tallyIn fc k) := by
  refine ⟨fun j => ?_, h.counters⟩
  by_cases hj : k.idx = j
  · subst hj
    simp [tallyIn]
  · have : (tallyIn fc k).tallies[j] = fc.tallies[j] := by
      simp [tallyIn, Vector.getElem_set_ne, Fin.val_ne_of_ne hj]
    exact this ▸ h.tallies j

theorem faultsOk_capture {s : State} (k : FaultKind) (n : Nat) (h : FaultsOk s.fc) :
    FaultsOk (capture k n s).fc := by
  obtain ⟨ht, hc⟩ := recordIn_counts (tallyIn s.fc k) k n s.tb.seconds
  exact (faultsOk_tallyIn k h).of_same ht hc

/-- A counter counts to 16,777,215 (R178). -/
theorem countIn_le {c : Counter} (input : CounterInput) (n : Nat) (h : c.value ≤ Config.maxCount) :
    (countIn c input n).value ≤ Config.maxCount := by
  unfold countIn
  split
  · exact min_le_left _ _
  · exact h

theorem faultsOk_fire {s : State} (i : CounterInput) (n : Nat) (h : FaultsOk s.fc) : FaultsOk (fire i n s).fc := by
  refine ⟨h.tallies, fun j => ?_⟩
  rw [fire_counter]
  exact countIn_le i n (h.counters j)

theorem faultsOk_reset : FaultsOk State.reset.fc := by
  obtain ⟨_, _, _, _, _, _, _, hfaults, _⟩ := reset_has_every_property
  exact hfaults

theorem faultsOk_clearFaults {s : State} (zero ignore : Bool) (h : FaultsOk s.fc) :
    FaultsOk (clearFaults zero ignore s).fc := by
  cases zero with
  | false => exact h.of_same rfl rfl
  | true => exact ⟨faultsOk_reset.tallies, h.counters⟩

theorem faultsOk_setCounter {s : State} (n : Fin 2) (i : CounterInput) (h : FaultsOk s.fc) :
    FaultsOk (setCounter n i s).fc := by
  refine ⟨h.tallies, fun j => ?_⟩
  by_cases hj : n = j
  · subst hj
    simp [setCounter]
  · have : (setCounter n i s).fc.counters[j] = s.fc.counters[j] := by
      simp [setCounter, Vector.getElem_set_ne, Fin.val_ne_of_ne hj]
    exact this ▸ h.counters j

/-! ## The Timebase (R64, R65) -/

theorem timebaseOk_tickTimebase {t : Timebase} (h : TimebaseOk t) : TimebaseOk (tickTimebase t) := by
  obtain ⟨hstep, hsec⟩ := h
  unfold tickTimebase
  split
  · exact ⟨Nat.zero_le 9, min_le_left _ _⟩
  · exact ⟨by dsimp only; omega, hsec⟩

/-! ## What a change keeps -/

/-- The change from `s` to `t` keeps each of the four properties: it runs through the commands once for all of them. -/
structure KeepsRanges (s t : State) : Prop where
  zones    : ZonesOk s.zh → ZonesOk t.zh
  clock    : ClockOk s.zh → ClockOk t.zh
  faults   : FaultsOk s.fc → FaultsOk t.fc
  timebase : TimebaseOk s.tb → TimebaseOk t.tb

/-- The parts of a state of which the four properties speak. -/
def rangeParts (s : State) : (List ZoneRun × EvacState × EvacClock) × FaultCapture × Timebase :=
  ((s.zh.zones, s.zh.evac, s.zh.clock), s.fc, s.tb)

theorem ZonesOk.of_same {h k : Hazard} (ok : ZonesOk h) (hz : k.zones = h.zones) (he : k.evac = h.evac) :
    ZonesOk k := by
  rw [zonesOk_iff] at ok ⊢
  rwa [hz, he]

namespace KeepsRanges

variable {s t u : State}

theorem refl (s : State) : KeepsRanges s s := ⟨id, id, id, id⟩

theorem trans (h : KeepsRanges s t) (h' : KeepsRanges t u) : KeepsRanges s u :=
  ⟨h'.zones ∘ h.zones, h'.clock ∘ h.clock, h'.faults ∘ h.faults, h'.timebase ∘ h.timebase⟩

/-- A change that leaves the zones, the evacuation state and clock, Fault Capture and the Timebase. -/
theorem of_same (h : rangeParts t = rangeParts s) : KeepsRanges s t := by
  simp only [rangeParts, Prod.mk.injEq] at h
  obtain ⟨⟨hz, he, hc⟩, hf, ht⟩ := h
  exact ⟨fun ok => ok.of_same hz he, fun ok => ok.of_evac hc (by rw [he]), fun ok => hf ▸ ok, fun ok => ht ▸ ok⟩

/-- A change made on a state that has those parts of another. -/
theorem after (h : KeepsRanges t u) (e : rangeParts t = rangeParts s) : KeepsRanges s u := (of_same e).trans h

/-- A change followed by one that leaves those parts. -/
theorem then_same (h : KeepsRanges s t) (e : rangeParts u = rangeParts t) : KeepsRanges s u := h.trans (of_same e)

/-- A change of the Zone Hazard Unit alone. -/
theorem of_hazard (hf : t.fc = s.fc) (ht : t.tb = s.tb) (hz : ZonesOk s.zh → ZonesOk t.zh)
    (hc : ClockOk s.zh → ClockOk t.zh) : KeepsRanges s t := ⟨hz, hc, fun ok => hf ▸ ok, fun ok => ht ▸ ok⟩

/-- A change of tallies and counters alone. -/
theorem of_faults (hz : t.zh = s.zh) (ht : t.tb = s.tb) (hf : FaultsOk s.fc → FaultsOk t.fc) : KeepsRanges s t :=
  ⟨fun ok => hz ▸ ok, fun ok => hz ▸ ok, hf, fun ok => ht ▸ ok⟩

/-- A change followed by a capture. -/
theorem capture (h : KeepsRanges s t) (k : FaultKind) (n : Nat) : KeepsRanges s (capture k n t) :=
  h.trans (of_faults rfl rfl (faultsOk_capture k n))

/-- A change followed by a counter input's firing. -/
theorem fire (h : KeepsRanges s t) (i : CounterInput) (n : Nat) : KeepsRanges s (fire i n t) :=
  h.trans (of_faults rfl rfl (faultsOk_fire i n))

/-- A change followed by a flag's rise. -/
theorem raise (h : KeepsRanges s t) (b : NoticeBody) : KeepsRanges s (raise b t) := h.then_same rfl

/-- A change, or another that a condition puts in its place. -/
theorem ite {c : Prop} [Decidable c] (h : KeepsRanges s t) (h' : KeepsRanges s u) :
    KeepsRanges s (if c then t else u) := by
  split
  · exact h
  · exact h'

/-- A run of changes that each keep the four properties. -/
theorem foldl {α : Type} {f : State → α → State} (hf : ∀ s x, KeepsRanges s (f s x)) (xs : List α) :
    ∀ s : State, KeepsRanges s (xs.foldl f s) := by
  induction xs with
  | nil => exact refl
  | cons x xs ih => exact fun s => (hf s x).trans (ih _)

/-- What happens to a running part. -/
theorem whenRunning {f : State → State} (hf : ∀ s, KeepsRanges s (f s)) (s : State) :
    KeepsRanges s (whenRunning f s) := ite (hf s) (refl s)

end KeepsRanges

variable (s : State)

/-! ## Zones and the evacuation state -/

variable {s} in
theorem keepsRanges_updateZone {zone : Nat} {a b : ZoneRun} (ha : s.zh.zones[zone]? = some a)
    (hb : TimersOk a → TimersOk b) : KeepsRanges s (updateZone zone a b s) :=
  .of_hazard (by simp) (by simp) (zonesOk_updateZone · ha hb) (clockOk_updateZone zone a b)

variable {s} in
/-- A zone's record replaced by one of the same state. -/
theorem keepsRanges_setZone {zone : Nat} {a b : ZoneRun} (ha : s.zh.zones[zone]? = some a) (he : a.state = b.state)
    (hb : TimersOk a → TimersOk b) : KeepsRanges s (setZone zone b s) :=
  updateZone_same zone a b s he ▸ keepsRanges_updateZone ha hb

theorem keepsRanges_evaluateZone (zone : Nat) (peak : Level) : KeepsRanges s (evaluateZone zone peak s) := by
  unfold evaluateZone
  split
  · exact .refl s
  · next z hz => exact keepsRanges_updateZone hz (timersOk_evaluated _ _ _ _)

theorem keepsRanges_setUntracked (zone : Nat) : KeepsRanges s (setUntracked zone s) := by
  unfold setUntracked
  split
  · next z hz => exact keepsRanges_setZone hz rfl id
  · exact .refl s

theorem keepsRanges_suspectExpiry (zone : Nat) : KeepsRanges s (suspectExpiry zone s) := by
  unfold suspectExpiry
  split
  · exact .refl s
  · next z hz =>
    split
    · next hdue =>
      have hst : z.state = .suspect := by simp_all
      exact .ite (keepsRanges_setZone hz rfl fun h => ⟨fun _ => hst, h.2⟩)
        (keepsRanges_updateZone hz fun _ => timersOk_toClear z)
    · exact .refl s

theorem keepsRanges_clearHoldExpiry (zone : Nat) : KeepsRanges s (clearHoldExpiry zone s) := by
  unfold clearHoldExpiry
  split
  · exact .refl s
  · next z hz => exact .ite (keepsRanges_updateZone hz fun _ => timersOk_toClear z) (.refl s)

variable {s} in
theorem keepsRanges_forceSmoke {zone : Nat} {z : ZoneRun} (hz : s.zh.zones[zone]? = some z) :
    KeepsRanges s (forceSmoke zone z s) :=
  keepsRanges_updateZone hz fun _ => timersOk_toSmoke z

variable {s} in
theorem keepsRanges_forceClear {zone : Nat} {z : ZoneRun} (hz : s.zh.zones[zone]? = some z) :
    KeepsRanges s (forceClear zone z s) :=
  .after (keepsRanges_updateZone (s := { s with zh := { s.zh with detectors := zeroAlarms zone s.zh.detectors } })
    (b := { toClear z with untracked := false }) hz fun _ => timersOk_toClear z) rfl

theorem keepsRanges_checkNoRoute : KeepsRanges s (checkNoRoute s) := .of_same (by simp [rangeParts])

theorem keepsRanges_enterActive (c : EvacCause) : KeepsRanges s (enterActive c s) := by
  refine .of_hazard (by simp) (by simp) (fun ok => ?_) fun _ => clockOk_enterActive c s
  rw [zonesOk_iff, enterActive_zh] at *
  exact fun z hz => ⟨fun _ => rfl, (ok z hz).2⟩

variable {s} in
/-- ACTIVE is left only with no zone in SMOKE (R61). -/
theorem keepsRanges_leaveActive (c : EvacCause) (hno : ∀ z ∈ s.zh.zones, z.state ≠ .smoke) :
    KeepsRanges s (leaveActive c s) := by
  refine .of_hazard (by simp) (by simp) (fun ok => ?_) (clockOk_leaveActive c)
  rw [zonesOk_iff, leaveActive, setEvac_zh] at *
  exact fun z hz => ⟨fun h => absurd h (hno z hz), (ok z hz).2⟩

/-! ## Detector Intake -/

theorem keepsRanges_onLine (id : LineId) (f : LineRec → LineRec) : KeepsRanges s (s.onLine id f) := .of_same rfl

theorem keepsRanges_tableReport (a zone : Nat) (l : Level) (q : Option Nat) (src : Source) :
    KeepsRanges s (tableReport a zone l q src s) := by
  unfold tableReport
  split
  · exact ((KeepsRanges.refl _).fire _ _).after rfl
  · exact .ite (.of_same rfl) ((((KeepsRanges.refl s).capture _ _).fire _ _).raise _)

theorem keepsRanges_makeReport (a : Nat) (l : Level) (q : Option Nat) (src : Source) :
    KeepsRanges s (makeReport a l q src s) := by
  unfold makeReport
  split
  · exact (KeepsRanges.refl s).fire _ _
  · split
    · exact (KeepsRanges.refl s).capture _ _
    · exact keepsRanges_tableReport s _ _ _ _ _

theorem keepsRanges_setLock (n : LockState × Nat × Nat) (t : Timer) (p : Option Nat) :
    KeepsRanges s (setLock n t p s) := by
  unfold setLock
  dsimp only
  split
  · refine .capture ?_ _ _
    exact .ite (.of_same rfl) (.of_same rfl)
  · exact .ite (.of_same rfl) (.of_same rfl)

theorem keepsRanges_detectorValid (f : DetectorFrame) : KeepsRanges s (detectorValid f s) := by
  cases f with
  | supervise panel => exact keepsRanges_setLock s _ _ _
  | report a l q =>
    have hlock := keepsRanges_setLock s (lockAfterValid s.di) (some (silenceTicks s)) s.di.panel
    exact .ite (hlock.trans (keepsRanges_makeReport _ _ _ _ _)) hlock

theorem keepsRanges_detectorInvalid (err : Bool) : KeepsRanges s (detectorInvalid err s) :=
  (KeepsRanges.ite ((KeepsRanges.refl s).capture _ _) (KeepsRanges.refl s)).trans (keepsRanges_setLock _ _ _ _)

theorem keepsRanges_detectorEvent (e : RxEvent) : KeepsRanges s (detectorEvent s e) := by
  unfold detectorEvent
  split
  · exact keepsRanges_detectorInvalid s _
  · refine .ite (keepsRanges_detectorInvalid s _) ?_
    split
    · exact keepsRanges_detectorValid s _
    · exact keepsRanges_detectorInvalid s _

theorem keepsRanges_detectorChar (c : RxChar) : KeepsRanges s (detectorChar s c) := by
  unfold detectorChar
  dsimp only
  split
  · exact .refl s
  · exact (keepsRanges_onLine s _ _).trans (.foldl keepsRanges_detectorEvent _ _)

theorem keepsRanges_silenceExpiry : KeepsRanges s (silenceExpiry s) :=
  .ite (keepsRanges_setLock s _ _ _) (.refl s)

theorem keepsRanges_setChannel (n : Fin 8) (c : Channel) : KeepsRanges s (setChannel n c s) := .of_same rfl

theorem keepsRanges_contactReport (n : Fin 8) (a : Nat) (l : Option Level) :
    KeepsRanges s (contactReport n a l s) := by
  unfold contactReport
  split
  · exact .refl s
  · exact .ite (.refl s) (keepsRanges_makeReport s _ _ _ _)

theorem keepsRanges_acceptChange (n : Fin 8) : KeepsRanges s (acceptChange n s) := by
  unfold acceptChange
  dsimp only
  split
  · exact (keepsRanges_setChannel _ _ _).trans (keepsRanges_contactReport _ _ _ _)
  · exact .refl s

theorem keepsRanges_widthLimit (n : Fin 8) : KeepsRanges s (widthLimit n s) := by
  unfold widthLimit
  dsimp only
  split
  · exact .refl s
  · exact .refl s
  · exact .ite ((keepsRanges_setChannel _ _ _).trans (keepsRanges_contactReport _ _ _ _)) (.refl s)

theorem keepsRanges_sampleContacts (levels : BitVec 8) : KeepsRanges s (sampleContacts levels s) :=
  .foldl (fun s n => ((keepsRanges_acceptChange s n).trans (keepsRanges_widthLimit _ n)).trans
    (keepsRanges_setChannel _ _ _)) _ s

/-! ## Takes -/

theorem keepsRanges_takeBegin : KeepsRanges s (takeBegin s) := by
  unfold takeBegin
  split
  · next e rest _ _ =>
    have hhead : KeepsRanges s (fire .reportTaken 1 { s with di := { s.di with reports := rest } }) :=
      ((KeepsRanges.refl _).fire _ _).after rfl
    exact .ite (hhead.capture _ _) (hhead.then_same rfl)
  · exact .refl s

theorem keepsRanges_applyTake (e : PendingEntry) (r : DetectorRec) : KeepsRanges s (applyTake e r s) :=
  (keepsRanges_evaluateZone _ _ _).after rfl

theorem keepsRanges_untrackedTake (e : PendingEntry) : KeepsRanges s (untrackedTake e s) := by
  have hcap := (KeepsRanges.refl s).capture .detectorTableFull e.address
  exact (KeepsRanges.ite (hcap.trans (keepsRanges_setUntracked _ _)) hcap).trans (keepsRanges_evaluateZone _ _ _)

theorem keepsRanges_tableTake (e : PendingEntry) : KeepsRanges s (tableTake e s) := by
  unfold tableTake
  split
  · split
    · exact .refl s
    · exact ((KeepsRanges.refl s).capture _ _).trans (keepsRanges_applyTake _ _ _)
    · exact keepsRanges_applyTake s _ _
  · refine .ite (keepsRanges_applyTake s _ _) ?_
    split
    · exact (keepsRanges_applyTake _ _ _).after rfl
    · exact keepsRanges_untrackedTake s e

theorem keepsRanges_takeComplete : KeepsRanges s (takeComplete s) := by
  unfold takeComplete
  split
  · exact .refl s
  · exact .ite (((KeepsRanges.refl _).capture _ _).after rfl) ((keepsRanges_tableTake _ _).after rfl)

/-! ## Sign Line Controller -/

theorem keepsRanges_cycleStart : KeepsRanges s (cycleStart s) := .of_same (by simp [rangeParts])

theorem keepsRanges_requestStart : KeepsRanges s (requestStart s) := .of_same (by simp [rangeParts])

theorem keepsRanges_cycleEnd : KeepsRanges s (cycleEnd s) :=
  .ite (.of_same rfl) (.ite (((KeepsRanges.refl _).fire _ _).trans (keepsRanges_cycleStart _) |>.after rfl)
    (.ite ((keepsRanges_cycleStart _).after rfl) (.of_same rfl)))

theorem keepsRanges_cycleCut : KeepsRanges s (cycleCut s) := by
  have hcut (f : SignLine → SignLine) : KeepsRanges s (restartRefresh (fire .cycleCut 1 (s.onSlc f))) :=
    .after (((KeepsRanges.refl (s.onSlc f)).fire .cycleCut 1).then_same rfl) rfl
  exact (hcut _).trans (keepsRanges_cycleStart _)

theorem keepsRanges_exchangeEnded : KeepsRanges s (exchangeEnded s) := by
  unfold exchangeEnded
  dsimp only
  split
  · exact .of_same rfl
  · exact .ite ((keepsRanges_cycleStart _).after rfl) (.of_same rfl)
  · exact .ite ((keepsRanges_cycleCut _).after rfl) (.ite (.of_same rfl) ((keepsRanges_cycleEnd _).after rfl))

theorem keepsRanges_refreshExpiry : KeepsRanges s (refreshExpiry s) :=
  .of_same (by unfold refreshExpiry; dsimp only; (repeat' split) <;> simp [rangeParts])

theorem keepsRanges_signPublication : KeepsRanges s (signPublication s) := .of_same (by simp [rangeParts])

theorem keepsRanges_putSign (t : Target) (g : SignRun) : KeepsRanges s (putSign t g s) :=
  .of_same (by simp [rangeParts])

theorem keepsRanges_signTroubled (k : FaultKind) (i : Nat) (g : SignRun) : KeepsRanges s (signTroubled k i g s) :=
  ((KeepsRanges.refl s).capture k g.address).then_same rfl

theorem keepsRanges_replyTaken (t : Target) (lamp : Lamp) : KeepsRanges s (replyTaken t lamp s) := by
  unfold replyTaken
  split
  · exact .refl s
  · have hput := keepsRanges_putSign s t
    exact .ite ((hput _).trans (keepsRanges_signTroubled _ _ _ _)) (hput _)

theorem keepsRanges_signMissed (t : Target) (o : SignOutcome) : KeepsRanges s (signMissed t o s) := by
  unfold signMissed
  split
  · exact .refl s
  · have hput := fun g => ((KeepsRanges.refl s).fire .replyMissed 1).trans (keepsRanges_putSign _ t g)
    exact .ite ((hput _).trans (keepsRanges_signTroubled _ _ _ _)) (hput _)

theorem keepsRanges_recordSent (e : Exchange) : KeepsRanges s (recordSent e s) :=
  .of_same (by unfold recordSent; (repeat' split) <;> rfl)

theorem keepsRanges_showSent : KeepsRanges s (showSent s) := by
  unfold showSent
  split
  · exact .ite ((((KeepsRanges.refl s).fire _ _).trans (keepsRanges_recordSent _ _)).then_same rfl) (.refl s)
  · exact .refl s

theorem keepsRanges_fallbackSent : KeepsRanges s (fallbackSent s) := by
  unfold fallbackSent
  split
  · exact .ite (keepsRanges_exchangeEnded s) (.refl s)
  · exact .refl s

theorem keepsRanges_drainEnded : KeepsRanges s (drainEnded s) := by
  unfold drainEnded
  split
  · exact .ite (keepsRanges_exchangeEnded s) (.refl s)
  · exact .refl s

theorem keepsRanges_signEvent (ev : RxEvent) : KeepsRanges s (signEvent s ev) := by
  unfold signEvent
  split
  · refine .ite ?_ (.refl s)
    split
    · exact (keepsRanges_replyTaken s _ _).trans (keepsRanges_exchangeEnded _)
    · exact .of_same rfl
    · exact .refl s
  · exact .refl s

theorem keepsRanges_charErrorIn (c : RxChar) : KeepsRanges s (charErrorIn c s) := by
  unfold charErrorIn
  split
  · exact .ite (((KeepsRanges.refl _).capture _ _).after rfl) (.refl s)
  · exact .refl s

theorem keepsRanges_signChar (c : RxChar) : KeepsRanges s (signChar s c) :=
  .ite (((keepsRanges_charErrorIn s c).trans (keepsRanges_onLine _ _ _)).trans
    ((KeepsRanges.foldl keepsRanges_signEvent _ _).trans (keepsRanges_drainEnded _))) (.refl s)

theorem keepsRanges_windowClosed : KeepsRanges s (windowClosed s) := by
  unfold windowClosed
  split
  · split
    · have hmissed := keepsRanges_signMissed s
      exact .ite ((hmissed _ _).trans (keepsRanges_exchangeEnded _)) ((hmissed _ _).then_same rfl)
    · exact .refl s
    · exact .refl s
  · exact .refl s

theorem keepsRanges_signGap : KeepsRanges s (signGap s) :=
  (keepsRanges_onLine s _ _).trans (keepsRanges_drainEnded _)

theorem keepsRanges_emphasisExpiry (i : Nat) : KeepsRanges s (emphasisExpiry i s) := by
  unfold emphasisExpiry
  split
  · exact .ite (.of_same rfl) (.refl s)
  · exact .refl s

theorem keepsRanges_haltSign : KeepsRanges s (haltSign s) := .of_same rfl

theorem keepsRanges_runSign : KeepsRanges s (runSign s) := by
  have hrun := (keepsRanges_onLine s .sign fun l => { l with mark := .running, inUse := l.format, rx := [] }).trans
    (keepsRanges_drainEnded _)
  exact .ite (hrun.trans ((keepsRanges_requestStart _).after rfl)) hrun

/-! ## Peer Ports -/

theorem keepsRanges_setPort (port : PeerPort) (st : PortState) (adv : Nat → Option Advertisement) :
    KeepsRanges s (setPort port st adv s) := .of_same (by simp [rangeParts])

theorem keepsRanges_onPort (port : PeerPort) (f : PortRec → PortRec) : KeepsRanges s (s.onPort port f) :=
  .of_same (by simp [rangeParts])

theorem keepsRanges_sendTrigger (port : PeerPort) : KeepsRanges s (sendTrigger port s) :=
  .of_same (by simp [rangeParts])

theorem keepsRanges_advertTaken (port : PeerPort) (expected : Nat) (a : Advert) :
    KeepsRanges s (advertTaken port expected a s) := by
  have hport := fun f => ((KeepsRanges.refl s).fire .advertTaken 1).trans (keepsRanges_onPort _ port f)
  exact .ite ((hport _).trans (keepsRanges_setPort _ _ _ _))
    ((KeepsRanges.ite (hport _) ((hport _).capture _ _)).trans (keepsRanges_setPort _ _ _ _))

theorem keepsRanges_advertInvalid (port : PeerPort) (err : Bool) : KeepsRanges s (advertInvalid port err s) :=
  .ite ((KeepsRanges.refl s).capture _ _) (.refl s)

theorem keepsRanges_advertEvent (port : PeerPort) (ev : RxEvent) : KeepsRanges s (advertEvent port s ev) := by
  unfold advertEvent
  split
  · exact .refl s
  · refine .ite (.refl s) ?_
    split
    · exact keepsRanges_advertInvalid s _ _
    · refine .ite (keepsRanges_advertInvalid s _ _) ?_
      split
      · exact keepsRanges_advertTaken s _ _ _
      · exact keepsRanges_advertInvalid s _ _

theorem keepsRanges_advertChar (port : PeerPort) (c : RxChar) : KeepsRanges s (advertChar port s c) := by
  unfold advertChar
  dsimp only
  split
  · exact .refl s
  · exact (keepsRanges_onLine s _ _).trans (.foldl (keepsRanges_advertEvent · port) _ _)

theorem keepsRanges_advertGap (port : PeerPort) : KeepsRanges s (advertGap port s) := by
  have hline := keepsRanges_onLine s (portLine port)
  exact .ite ((hline _).capture _ _) (hline _)

theorem keepsRanges_ageExpiry (port : PeerPort) : KeepsRanges s (ageExpiry port s) :=
  .ite (((keepsRanges_onPort s _ _).capture _ _).trans (keepsRanges_setPort _ _ _ _)) (.refl s)

theorem keepsRanges_advertSent (port : PeerPort) : KeepsRanges s (advertSent port s) := by
  unfold advertSent
  split
  · exact .refl s
  · have hport := fun f => ((KeepsRanges.refl s).fire .advertSent 1).trans (keepsRanges_onPort _ port f)
    exact .ite (hport _) ((hport _).then_same rfl)

theorem keepsRanges_spacingExpiry (port : PeerPort) : KeepsRanges s (spacingExpiry port s) := by
  have hport := keepsRanges_onPort s port
  exact .ite (.ite ((hport _).trans (keepsRanges_sendTrigger _ _)) (hport _)) (.refl s)

theorem keepsRanges_advertiseExpiry (port : PeerPort) : KeepsRanges s (advertiseExpiry port s) :=
  .ite ((keepsRanges_onPort s _ _).trans (keepsRanges_sendTrigger _ _)) (.refl s)

theorem keepsRanges_haltPort (port : PeerPort) : KeepsRanges s (haltPort port s) := by
  have hport := fun f g => (keepsRanges_onLine s (portLine port) f).trans (keepsRanges_onPort _ port g)
  exact (KeepsRanges.ite ((hport _ _).capture _ _) (hport _ _)).trans (keepsRanges_setPort _ _ _ _)

theorem keepsRanges_runPort (port : PeerPort) : KeepsRanges s (runPort port s) := by
  have hline := keepsRanges_onLine s (portLine port)
  exact .ite (((hline _).trans (keepsRanges_onPort _ _ _)).trans (keepsRanges_sendTrigger _ _)) (hline _)

/-! ## Route Solver, Plan Store, the swap and the resets -/

theorem keepsRanges_solveStart : KeepsRanges s (solveStart s) := .of_same (by simp [rangeParts])

theorem keepsRanges_announce (c : Converged) (set : HeadingSet) (stale : Bool) :
    KeepsRanges s (announce c set stale s) := by
  have hdone := (KeepsRanges.refl s).fire .solveDone 1
  have hstale := KeepsRanges.ite (c := stale = true) (hdone.fire .solveStale 1) hdone
  have htold := fun b => (hstale.fire .headingChange (changedCount set)).raise b
  exact .ite ((htold _).trans (keepsRanges_checkNoRoute _)) (htold _)

theorem keepsRanges_publication (p : Plan) (snap : Snapshot) : KeepsRanges s (publication p snap s) := by
  have htold (c set stale) : KeepsRanges s (announce c set stale (publishSet c set s)) :=
    (keepsRanges_announce _ _ _ _).after rfl
  exact (((htold _ _ _).trans (keepsRanges_signPublication _)).trans (keepsRanges_sendTrigger _ _)).trans
    (keepsRanges_sendTrigger _ _)

/-- The swap keeps the evacuation state or derives it outside ACTIVE, and carries each zone's state and timers (R18). -/
theorem keepsRanges_swapTo (p : Plan) : KeepsRanges s (swapTo p s) := by
  refine .of_hazard (by simp) (by simp) (fun ok => ?_) fun ok => ?_ <;> rw [swapTo_zh]
  · rw [zonesOk_iff] at ok ⊢
    intro z hz
    obtain ⟨i, hi⟩ := List.mem_iff_getElem?.1 hz
    simp only [carryHazard, carriedZones_getElem?, Option.map_eq_some_iff] at hi
    obtain ⟨setting, _, rfl⟩ := hi
    have hold : ∀ y, s.zh.zones[i]? = some y → _ := fun y hy => ok y (List.mem_of_getElem? hy)
    refine ⟨fun hsmoke => if_pos ?_, timersOk_carriedZone setting fun y hy => (hold y hy).2⟩
    cases hy : s.zh.zones[i]? with
    | none => simp [hy, carriedZone] at hsmoke
    | some y => exact (hold y hy).1 (by simpa [hy, carriedZone] using hsmoke)
  · refine ok.of_evac rfl ?_
    by_cases ha : s.zh.evac = .active
    · simp [ha]
    · simp [ha, derivedEvac_ne_active]

theorem keepsRanges_swap : KeepsRanges s (swap s) := by
  unfold swap
  split
  · exact keepsRanges_swapTo s _
  · exact .refl s

theorem keepsRanges_solveEnd : KeepsRanges s (solveEnd s) := by
  unfold solveEnd
  split
  · exact .ite ((keepsRanges_swap _).after rfl)
      ((keepsRanges_publication s _ _).trans (keepsRanges_solveStart _))
  · exact .refl s

theorem keepsRanges_endCheck : KeepsRanges s (endCheck s) := .ite (.of_same rfl) (.refl s)

theorem keepsRanges_endStore (readBack : List Byte) : KeepsRanges s (endStore readBack s) :=
  .ite (.ite (.of_same rfl) (((KeepsRanges.refl _).capture _ _).after rfl)) (.refl s)

/-- After a reset every zone is CLEAR with its timers idle, the clock stands at 00:00.0 and the seconds at 0 (R18, R63,
R64); what is kept of Fault Capture was in its ranges. -/
theorem keepsRanges_blocksAfter (kind : ResetKind) (ph : Phase) (plan : Option Plan) (c : MemoryCondition)
    (m : PlanMemory) (k : Settings) (hk : FaultsOk s.fc → FaultsOk k.fc) :
    KeepsRanges s (blocksAfter kind ph plan c m k s) := by
  obtain ⟨_, _, _, hclock, _, _, _, _, htime, _⟩ := reset_has_every_property
  refine ⟨fun _ => ?_, fun _ => hclock.of_evac rfl Iff.rfl, hk, fun _ => htime⟩
  rw [zonesOk_iff]
  intro z hz
  cases plan with
  | none => cases hz
  | some p =>
    have hz' : z ∈ carriedZones [] p := hz
    rw [carriedZones_nil, List.mem_map] at hz'
    obtain ⟨setting, _, rfl⟩ := hz'
    simp [TimersOk]

theorem keepsRanges_resetWith (kind : ResetKind) (k : Settings) (m : PlanMemory)
    (hk : FaultsOk s.fc → FaultsOk k.fc) : KeepsRanges s (resetWith kind k m s) := by
  have hblocks := fun plan c => keepsRanges_blocksAfter s kind .loading plan c m k hk
  exact .ite ((hblocks _ _).capture _ _) (hblocks _ _)

/-! ## Timebase -/

theorem keepsRanges_tickAll : KeepsRanges s (tickAll s) := by
  refine ⟨fun ok => ?_, clockOk_tickHazard, id, timebaseOk_tickTimebase⟩
  rw [zonesOk_iff] at ok ⊢
  intro z hz
  obtain ⟨y, hy, rfl⟩ := List.mem_map.1 hz
  exact ⟨(ok y hy).1, timersOk_tickZone (ok y hy).2⟩

theorem keepsRanges_tickStart : KeepsRanges s (tickStart s) := .ite (keepsRanges_cycleStart s) (.refl s)

/-! ## Requests -/

theorem keepsRanges_withoutFields (fields : List Byte) {f : State → Answer} (hf : KeepsRanges s (f s).state) :
    KeepsRanges s (withoutFields fields s f).state := by
  unfold withoutFields
  split
  · exact hf
  · exact .refl s

theorem keepsRanges_withPlan {f : Plan → Answer} (hf : ∀ p, KeepsRanges s (f p).state) :
    KeepsRanges s (withPlan s f).state := by
  unfold withPlan
  split
  · exact .refl s
  · exact hf _

theorem keepsRanges_planPut (f : List Byte) : KeepsRanges s (answerPlanPut f s).state := by
  unfold answerPlanPut putStaged
  (repeat' split) <;> exact .of_same rfl

theorem keepsRanges_planActivate (f : List Byte) : KeepsRanges s (answerPlanActivate f s).state := by
  refine keepsRanges_withoutFields s f ?_
  dsimp only
  split
  · simp only [answered_state]
    split
    · exact (keepsRanges_swap _).after rfl
    · exact .of_same rfl
  · exact .refl s

theorem keepsRanges_exitSet (f : List Byte) : KeepsRanges s (answerExitSet f s).state := by
  unfold answerExitSet
  split
  · refine keepsRanges_withPlan s fun _ => ?_
    split <;> exact .of_same rfl
  · exact .refl s

theorem keepsRanges_zoneForce (f : List Byte) : KeepsRanges s (answerZoneForce f s).state := by
  unfold answerZoneForce
  split
  · refine keepsRanges_withPlan s fun _ => ?_
    split
    · next hz _ => exact keepsRanges_forceSmoke hz
    · next hz _ => exact keepsRanges_forceClear hz
    · exact .refl s
  · exact .refl s

theorem keepsRanges_zoneReset (f : List Byte) : KeepsRanges s (answerZoneReset f s).state := by
  unfold answerZoneReset
  split
  · refine keepsRanges_withPlan s fun _ => ?_
    split
    · exact .refl s
    · next z hz =>
      split
      · split
        · exact .refl s
        · exact keepsRanges_updateZone hz fun _ => timersOk_toClearing _ z
      · exact .refl s
  · exact .refl s

theorem keepsRanges_evacuate (f : List Byte) : KeepsRanges s (answerEvacuate f s).state :=
  keepsRanges_withoutFields s f (.ite (.of_same rfl) ((keepsRanges_enterActive _ _).after rfl))

theorem keepsRanges_standDown (f : List Byte) : KeepsRanges s (answerStandDown f s).state := by
  refine keepsRanges_withoutFields s f ?_
  split
  · split
    · exact .refl s
    · next hno => exact keepsRanges_leaveActive _ (by simpa using hno)
  · exact .refl s

theorem keepsRanges_faultClear (f : List Byte) : KeepsRanges s (answerFaultClear f s).state := by
  unfold answerFaultClear
  split
  · split
    · exact .of_faults rfl rfl (faultsOk_clearFaults _ _)
    · exact .refl s
  · exact .refl s

theorem keepsRanges_counterSetup (f : List Byte) : KeepsRanges s (answerCounterSetup f s).state := by
  unfold answerCounterSetup
  split
  · split
    · split
      · exact .of_faults rfl rfl (faultsOk_setCounter _ _)
      · exact .refl s
    · exact .refl s
  · exact .refl s

theorem keepsRanges_outputSetup (f : List Byte) : KeepsRanges s (answerOutputSetup f s).state := by
  unfold answerOutputSetup outputAnswer
  (repeat' split) <;> exact .of_faults rfl rfl fun ok => ok.of_same rfl rfl

theorem keepsRanges_lineSetup (f : List Byte) : KeepsRanges s (answerLineSetup f s).state := by
  unfold answerLineSetup setupFormat setupContact
  (repeat' split) <;> exact .of_same rfl

theorem keepsRanges_haltLine (id : LineId) : KeepsRanges s (haltLine id s) := by
  cases id with
  | message => exact .refl s
  | detector => exact (keepsRanges_onLine s _ _).trans (keepsRanges_setLock _ _ _ _)
  | sign => exact keepsRanges_haltSign s
  | peerA => exact keepsRanges_haltPort s _
  | peerB => exact keepsRanges_haltPort s _

theorem keepsRanges_runLine (id : LineId) : KeepsRanges s (runLine id s) := by
  cases id with
  | message => exact .refl s
  | detector => exact .of_same rfl
  | sign => exact keepsRanges_runSign s
  | peerA => exact keepsRanges_runPort s _
  | peerB => exact keepsRanges_runPort s _

theorem keepsRanges_lineHalt (f : List Byte) : KeepsRanges s (answerLineHalt f s).state := by
  unfold answerLineHalt
  repeat' split
  case' h_2.isFalse.isFalse => exact keepsRanges_haltLine _ _
  all_goals exact .refl s

theorem keepsRanges_lineRun (f : List Byte) : KeepsRanges s (answerLineRun f s).state := by
  unfold answerLineRun
  repeat' split
  case' h_2.isFalse => exact keepsRanges_runLine _ _
  all_goals exact .refl s

/-- The requests on the bank, groups, notices and line formats leave the four properties' parts; those that read leave
the state. -/
theorem keepsRanges_perform (r : Request) : KeepsRanges s (perform r s).state := by
  unfold perform performKind
  split
  case h_3 => exact keepsRanges_withoutFields s _ (by split <;> exact .of_same rfl)
  case h_4 => exact keepsRanges_withoutFields s _ (by (repeat' split) <;> exact .of_same rfl)
  case h_5 => exact keepsRanges_planActivate _ _
  case h_6 => exact keepsRanges_withoutFields s _ (by (repeat' split) <;> exact .of_same rfl)
  case h_7 => exact keepsRanges_planPut _ _
  case h_9 => exact keepsRanges_exitSet _ _
  case h_10 => exact keepsRanges_zoneForce _ _
  case h_11 => exact keepsRanges_zoneReset _ _
  case h_12 => exact keepsRanges_evacuate _ _
  case h_13 => exact keepsRanges_standDown _ _
  case h_14 => unfold answerGroupSet; (repeat' split) <;> exact .of_same rfl
  case h_20 => unfold answerNoticeSetup; (repeat' split) <;> exact .of_same rfl
  case h_21 => unfold answerClearFlags; (repeat' split) <;> exact .of_same rfl
  case h_23 => exact keepsRanges_faultClear _ _
  case h_24 => exact keepsRanges_counterSetup _ _
  case h_26 => exact keepsRanges_outputSetup _ _
  case h_27 => exact keepsRanges_lineSetup _ _
  case h_28 => exact keepsRanges_lineHalt _ _
  case h_29 => exact keepsRanges_lineRun _ _
  case h_30 => exact keepsRanges_withoutFields s _ (by (repeat' split) <;> exact .of_same rfl)
  all_goals simpa using KeepsRanges.refl s

/-! ## The Message Port -/

theorem keepsRanges_takeNext : KeepsRanges s (takeNext s) := by
  unfold takeNext
  split
  · exact (keepsRanges_perform s _).then_same rfl
  · exact .refl s

theorem keepsRanges_receiveRequest (r : Request) : KeepsRanges s (receiveRequest r s) := by
  unfold receiveRequest
  split
  · exact (keepsRanges_takeNext _).after rfl
  · split
    · exact (keepsRanges_takeNext _).after rfl
    · exact ((KeepsRanges.refl s).capture _ _).raise _

theorem keepsRanges_messageEvent (e : RxEvent) : KeepsRanges s (messageEvent s e) := by
  unfold messageEvent
  split
  · exact .refl s
  · refine .ite ((KeepsRanges.refl s).capture _ _) ?_
    split
    · exact keepsRanges_receiveRequest s _
    · exact .refl s

theorem keepsRanges_messageChar (c : RxChar) : KeepsRanges s (messageChar s c) :=
  (keepsRanges_onLine s _ _).trans (.foldl keepsRanges_messageEvent _ _)

theorem keepsRanges_noticeStart : KeepsRanges s (noticeStart s) := .of_same (by simp [rangeParts])

theorem keepsRanges_takeOrNotice (first : Bool) : KeepsRanges s (takeOrNotice first s) := by
  cases first with
  | false => exact keepsRanges_takeNext s
  | true => exact (keepsRanges_noticeStart s).trans (keepsRanges_takeNext _)

theorem keepsRanges_replySent (first : Bool) : KeepsRanges s (replySent first s) :=
  .ite ((keepsRanges_takeOrNotice _ _).after rfl) (.refl s)

theorem keepsRanges_messageFormatChange (first : Bool) : KeepsRanges s (messageFormatChange first s) := by
  unfold messageFormatChange
  split
  · exact (keepsRanges_takeOrNotice _ _).after rfl
  · exact .refl s

theorem keepsRanges_noticeSent : KeepsRanges s (noticeSent s) := by
  unfold noticeSent
  split <;> exact .of_same rfl

theorem keepsRanges_gapAbort (line : LineId) : KeepsRanges s (gapAbort line s) := by
  refine .ite (.refl s) ?_
  cases line with
  | message => exact keepsRanges_onLine s _ _
  | detector => exact (keepsRanges_onLine s _ _).trans (keepsRanges_detectorInvalid _ _)
  | sign => exact keepsRanges_signGap s
  | peerA => exact keepsRanges_advertGap s _
  | peerB => exact keepsRanges_advertGap s _

/-! ## Every command, and the step -/

/-- Every command has a next state, and keeps the four properties. -/
theorem keepsRanges_exec (c : Instr) : ∃ t, exec c s = .next t ∧ KeepsRanges s t := by
  cases hr : requestOf c with
  | some r => exact ⟨_, exec_request c r s hr, .whenRunning (keepsRanges_receiveRequest · r) s⟩
  | none =>
    cases c
    case powerOn => exact ⟨_, rfl, keepsRanges_resetWith _ _ _ _ fun _ => faultsOk_reset⟩
    case resetLine => exact ⟨_, rfl, .ite (.refl s) (keepsRanges_resetWith _ _ _ _ fun _ => faultsOk_reset)⟩
    case restartBegin =>
      exact ⟨_, rfl, .whenRunning (fun s => .ite (keepsRanges_resetWith _ _ _ _ id) (.refl s)) s⟩
    case resetLineAsserted =>
      exact ⟨_, rfl, .ite (.refl s) (keepsRanges_blocksAfter _ _ _ _ _ _ _ fun _ => faultsOk_reset)⟩
    case powerLoss => exact ⟨_, rfl, keepsRanges_blocksAfter _ _ _ _ _ _ _ fun _ => faultsOk_reset⟩
    case startUpLoadEnd => exact ⟨_, rfl, .ite (.of_same rfl) (.refl s)⟩
    case tenthTick =>
      refine ⟨_, rfl, ?_⟩
      split
      · exact .refl s
      · exact .refl s
      · exact keepsRanges_tickAll s
      · exact (keepsRanges_tickAll s).trans (keepsRanges_tickStart _)
    case messageFrameReceived cs => exact ⟨_, rfl, .whenRunning (.foldl keepsRanges_messageChar cs) s⟩
    case detectorFrameReceived cs => exact ⟨_, rfl, .whenRunning (.foldl keepsRanges_detectorChar cs) s⟩
    case signFrameReceived cs => exact ⟨_, rfl, .whenRunning (.foldl keepsRanges_signChar cs) s⟩
    case advertReceived port cs => exact ⟨_, rfl, .whenRunning (.foldl (keepsRanges_advertChar · port) cs) s⟩
    case replySent first => exact ⟨_, rfl, .whenRunning (keepsRanges_replySent · first) s⟩
    case messagePortFormatChange first =>
      exact ⟨_, rfl, .whenRunning (keepsRanges_messageFormatChange · first) s⟩
    case noticeFrameStart => exact ⟨_, rfl, .whenRunning keepsRanges_noticeStart s⟩
    case frameGapAbort line => exact ⟨_, rfl, .whenRunning (keepsRanges_gapAbort · line) s⟩
    case silenceTimerExpiry => exact ⟨_, rfl, .whenRunning keepsRanges_silenceExpiry s⟩
    case contactChangeAccepted n => exact ⟨_, rfl, .whenRunning (keepsRanges_acceptChange · n) s⟩
    case pulseWidthLimit n => exact ⟨_, rfl, .whenRunning (keepsRanges_widthLimit · n) s⟩
    case takeBegin => exact ⟨_, rfl, .whenRunning keepsRanges_takeBegin s⟩
    case takeComplete => exact ⟨_, rfl, .whenRunning keepsRanges_takeComplete s⟩
    case suspectTimerExpiry z => exact ⟨_, rfl, .whenRunning (keepsRanges_suspectExpiry · z) s⟩
    case clearHoldTimerExpiry z => exact ⟨_, rfl, .whenRunning (keepsRanges_clearHoldExpiry · z) s⟩
    case planCheckEnd => exact ⟨_, rfl, .whenRunning keepsRanges_endCheck s⟩
    case planStoreEnd bs => exact ⟨_, rfl, .whenRunning (keepsRanges_endStore · bs) s⟩
    case solveStart => exact ⟨_, rfl, .whenRunning keepsRanges_solveStart s⟩
    case solveEnd => exact ⟨_, rfl, .whenRunning keepsRanges_solveEnd s⟩
    case refreshTimerExpiry => exact ⟨_, rfl, .whenRunning keepsRanges_refreshExpiry s⟩
    case showFrameSent => exact ⟨_, rfl, .whenRunning keepsRanges_showSent s⟩
    case replyWindowClose => exact ⟨_, rfl, .whenRunning keepsRanges_windowClosed s⟩
    case fallbackFrameSent => exact ⟨_, rfl, .whenRunning keepsRanges_fallbackSent s⟩
    case emphasisTimerExpiry i => exact ⟨_, rfl, .whenRunning (keepsRanges_emphasisExpiry · i) s⟩
    case ageTimerExpiry port => exact ⟨_, rfl, .whenRunning (keepsRanges_ageExpiry · port) s⟩
    case advertTimerExpiry port => exact ⟨_, rfl, .whenRunning (keepsRanges_advertiseExpiry · port) s⟩
    case spacingTimerExpiry port => exact ⟨_, rfl, .whenRunning (keepsRanges_spacingExpiry · port) s⟩
    case advertFrameSent port => exact ⟨_, rfl, .whenRunning (keepsRanges_advertSent · port) s⟩
    case contactSample levels => exact ⟨_, rfl, .whenRunning (keepsRanges_sampleContacts · levels) s⟩
    case noticeFrameSent => exact ⟨_, rfl, .whenRunning keepsRanges_noticeSent s⟩
    all_goals cases hr

/-- A step keeps the four properties, as the command that it takes from the queue does. -/
theorem keepsRanges_step {s t : State} (h : step s = .next t) : KeepsRanges s t := by
  unfold step at h
  split at h
  · cases h
    exact .refl s
  · next c rest _ =>
    obtain ⟨u, hu, ok⟩ := keepsRanges_exec { s with pending := rest } c
    rw [hu] at h
    cases h
    exact ok.after rfl

/-- Settles O4: a step keeps every zone in SMOKE within ACTIVE and each zone timer within its state. -/
theorem step_keeps_zones_ok : Obligations.step_keeps_zones_ok :=
  fun _ _ hsmoke htimers h => (keepsRanges_step h).zones ⟨hsmoke, htimers⟩

/-- Settles O6: a step keeps tallies, counters, the tick pattern and the seconds in their ranges. -/
theorem step_keeps_counts_ok : Obligations.step_keeps_counts_ok :=
  fun _ _ hfaults htime h => ⟨(keepsRanges_step h).faults hfaults, (keepsRanges_step h).timebase htime⟩

/-- Settles O7: a step keeps the clock in its range, running exactly in ACTIVE. -/
theorem step_keeps_clock_ok : Obligations.step_keeps_clock_ok := fun _ _ hclock h => (keepsRanges_step h).clock hclock

end Sys2Proof.Machine
end

section
/-! SUPPORT. EXIT SET, ZONE FORCE, ZONE RESET, EVACUATE and STAND DOWN (R54 to R63, R71, R76, R102, R108): O42, O43,
O44. -/

namespace Sys2Proof.Machine

variable {s : State}

/-! ## Shared operations -/

/-- A wanted solve makes a running one stale (R76). -/
theorem wantSolve_rsv (s : State) :
    (wantSolve s).rsv =
      { s.rsv with wanted := true, stale := if s.rsv.state = .solving then true else s.rsv.stale } := by
  by_cases h : s.rsv.state = .solving <;> simp [wantSolve, h]

theorem updateZone_waiting (s : State) (zone : Nat) (a b : ZoneRun) :
    (updateZone zone a b s).mp.waiting = s.mp.waiting := by
  unfold updateZone
  split
  · rfl
  · exact zoneChanged_waiting (setZone zone b s) _ _ _

theorem leaveActive_inHand (r : Request) (s : State) (c : EvacCause) :
    leaveActive c (inHand r s) = inHand r (leaveActive c s) := by
  unfold leaveActive
  rw [← setEvac_inHand]
  rfl

theorem enterActive_waiting (s : State) (c : EvacCause) : (enterActive c s).mp.waiting = s.mp.waiting :=
  (checkNoRoute_waiting _).trans (raise_waiting _ _)

theorem leaveActive_waiting (s : State) (c : EvacCause) : (leaveActive c s).mp.waiting = s.mp.waiting :=
  setEvac_waiting _ _ _

/-- Leaving ACTIVE changes the evacuation state, so EVAC_STATE rises (R61, R62). -/
theorem leaveActive_active (c : EvacCause) (h : s.zh.evac = .active) :
    leaveActive c s =
      raise (.evacState .active (derivedEvac s.zh.zones) false c)
        { s with
          zh := { s.zh with
            declaration := false, evac := derivedEvac s.zh.zones, clock := { s.zh.clock with running := false } }
          slc := { s.slc with signs := s.slc.signs.map fun g => { g with emphasis := none } } } := by
  have hne : s.zh.evac ≠ derivedEvac s.zh.zones := h ▸ (derivedEvac_ne_active _).symm
  rw [leaveActive, setEvac_diff]
  · dsimp only
    rw [h]
  · exact hne

/-! ## EXIT SET (R71) -/

section
variable {p : Plan} (h : s.ps.active = some p) {a b : Byte}
include h

theorem answerExitSet_badValue (hv : s.rsv.exits.length ≤ a.toNat ∨ 2 < b.toNat) :
    answerExitSet [a, b] s = turnedAway .badValue s := by
  rw [answerExitSet, withPlan_some h]
  rcases hv with ha | hb
  · rw [List.getElem?_eq_none ha]
  · rw [exitStateOf_none hb]
    split
    · next e => cases e
    · rfl

theorem answerExitSet_ok {prev st : ExitState} (ha : s.rsv.exits[a.toNat]? = some prev)
    (hb : exitStateOf b.toNat = some st) :
    answerExitSet [a, b] s = answered [byte1 (exitStateCode prev)] (setExit a.toNat st s) := by
  rw [answerExitSet, withPlan_some h, ha, hb]

/-! ## ZONE FORCE (R55) -/

theorem answerZoneForce_badValue (hv : s.zh.zones.length ≤ a.toNat ∨ 1 < b.toNat) :
    answerZoneForce [a, b] s = turnedAway .badValue s := by
  rw [answerZoneForce, withPlan_some h]
  rcases hv with ha | hb
  · rw [List.getElem?_eq_none ha]
  · split
    · next e => omega
    · next e => omega
    · rfl

theorem answerZoneForce_smoke {z : ZoneRun} (hz : s.zh.zones[a.toNat]? = some z) :
    answerZoneForce [a, 0] s = answered [] (forceSmoke a.toNat z s) := by
  rw [answerZoneForce, withPlan_some h, hz]
  rfl

theorem answerZoneForce_clear {z : ZoneRun} (hz : s.zh.zones[a.toNat]? = some z) :
    answerZoneForce [a, 1] s = answered [] (forceClear a.toNat z s) := by
  rw [answerZoneForce, withPlan_some h, hz]
  rfl

/-! ## ZONE RESET (R56) -/

theorem answerZoneReset_badValue (hz : s.zh.zones.length ≤ a.toNat) :
    answerZoneReset [a] s = turnedAway .badValue s := by
  rw [answerZoneReset, withPlan_some h, List.getElem?_eq_none hz]

theorem answerZoneReset_refused {z : ZoneRun} (hz : s.zh.zones[a.toNat]? = some z) (hs : z.state = .smoke)
    (ha : (conditions s.zh.detectors a.toNat z).alarm = true) : answerZoneReset [a] s = turnedAway .refused s := by
  simp only [answerZoneReset, withPlan_some h, hz, hs, ha, if_true]

theorem answerZoneReset_clearing {z : ZoneRun} (hz : s.zh.zones[a.toNat]? = some z) (hs : z.state = .smoke)
    (ha : ¬ (conditions s.zh.detectors a.toNat z).alarm = true) :
    answerZoneReset [a] s =
      answered [] (updateZone a.toNat z (toClearing (timingTicks p.header.clearHold) z) s) := by
  simp only [answerZoneReset, withPlan_some h, hz, hs, ha, if_true, clearHoldTicks, h]
  rfl

theorem answerZoneReset_other {z : ZoneRun} (hz : s.zh.zones[a.toNat]? = some z) (hs : z.state ≠ .smoke) :
    answerZoneReset [a] s = answered [] s := by
  simp only [answerZoneReset, withPlan_some h, hz, hs, if_false]

end

/-! ## EVACUATE and STAND DOWN (R60, R61) -/

theorem answerEvacuate_active (h : s.zh.evac = .active) :
    answerEvacuate [] s = answered [] { s with zh := { s.zh with declaration := true } } := by
  simp only [answerEvacuate, withoutFields_nil, h, if_true]

theorem answerEvacuate_enters (h : s.zh.evac ≠ .active) :
    answerEvacuate [] s = answered [] (enterActive .evacuate { s with zh := { s.zh with declaration := true } }) := by
  simp only [answerEvacuate, withoutFields_nil, h, if_false]

theorem answerStandDown_idle (h : s.zh.evac ≠ .active) : answerStandDown [] s = answered [] s := by
  simp only [answerStandDown, withoutFields_nil, h, if_false]

theorem answerStandDown_refused (h : s.zh.evac = .active) (hz : ∃ z ∈ s.zh.zones, z.state = .smoke) :
    answerStandDown [] s = turnedAway .refused s := by
  have hany : (s.zh.zones.any fun z => decide (z.state = .smoke)) = true := by simpa using hz
  simp only [answerStandDown, withoutFields_nil, h, hany, if_true]

theorem answerStandDown_leaves (h : s.zh.evac = .active) (hz : ∀ z ∈ s.zh.zones, z.state ≠ .smoke) :
    answerStandDown [] s = answered [] (leaveActive .standDown s) := by
  have hany : ¬ (s.zh.zones.any fun z => decide (z.state = .smoke)) = true := by simpa using hz
  simp only [answerStandDown, withoutFields_nil, h, if_true, if_neg hany]

/-! ## The three statements -/

/-- A request that replaces a zone's record is answered OK with its change's consequences. -/
theorem answers_updateZone {c : Instr} {r : Request} (hr : requestOf c = some r) (hs : Ready s) {t : State}
    (ht : t.mp.waiting = none) (zone : Nat) (a b : ZoneRun)
    (hp : performKind r.kind.toNat r.fields (inHand r s) = answered [] (updateZone zone a b (inHand r t))) :
    Answers c s .ok [] (updateZone zone a b t) :=
  answers_of c r s _ _ _ hr hs ((updateZone_waiting t zone a b).trans ht)
    (hp.trans (by rw [updateZone_inHand]; rfl))

/-- Settles O42, by the plan, the index and the code. -/
theorem exit_set_and_zone_force : Obligations.exit_set_and_zone_force := by
  intro tag a b s hs
  obtain ⟨_, _, hw, _, _⟩ := id hs
  refine ⟨fun hn => ⟨?_, ?_⟩, fun hp => ?_⟩
  · exact turnedAway_of _ _ rfl hs (withPlan_none (s := inHand _ s) hn _)
  · exact turnedAway_of _ _ rfl hs (withPlan_none (s := inHand _ s) hn _)
  obtain ⟨p, hp⟩ := Option.ne_none_iff_exists'.1 hp
  refine ⟨fun hv => ?_, fun prev st ha hb => ?_, fun hv => ?_, fun z hz => ⟨?_, ?_⟩⟩
  · exact turnedAway_of _ _ rfl hs (answerExitSet_badValue (s := inHand _ s) hp hv)
  · refine answers_of _ _ s _ _ _ rfl hs hw ((answerExitSet_ok (s := inHand _ s) hp ha hb).trans ?_)
    have hrsv := wantSolve_rsv { s with rsv := { s.rsv with exits := s.rsv.exits.set a.toNat st } }
    dsimp only at hrsv
    rw [← hrsv]
    rfl
  · exact turnedAway_of _ _ rfl hs (answerZoneForce_badValue (s := inHand _ s) hp hv)
  · rintro rfl
    exact answers_updateZone (c := .zoneForce tag [a, 0]) rfl hs hw a.toNat z (toSmoke z)
      (answerZoneForce_smoke (s := inHand _ s) hp hz)
  · rintro rfl
    exact answers_updateZone (c := .zoneForce tag [a, 1]) rfl hs
      (t := { s with zh := { s.zh with detectors := zeroAlarms a.toNat s.zh.detectors } }) hw a.toNat z
      { toClear z with untracked := false } (answerZoneForce_clear (s := inHand _ s) hp hz)

/-- Settles O43, by the zone's state and by whether alarm is present. -/
theorem zone_reset : Obligations.zone_reset := by
  intro tag a s hs
  obtain ⟨_, _, hw, _, _⟩ := id hs
  refine ⟨fun hn => ?_, fun p hp => ⟨fun hz => ?_, fun z hz => ⟨fun hst ha => ?_, fun hst ha => ?_, fun hst => ?_⟩⟩⟩
  · exact turnedAway_of _ _ rfl hs (withPlan_none (s := inHand _ s) hn _)
  · exact turnedAway_of _ _ rfl hs (answerZoneReset_badValue (s := inHand _ s) hp hz)
  · exact turnedAway_of _ _ rfl hs
      (answerZoneReset_refused (s := inHand _ s) hp hz hst ((conditions_alarm _ _ _).2 ha))
  · have hanswer := answers_updateZone (c := .zoneReset tag [a]) rfl hs hw a.toNat z
      (toClearing (timingTicks p.header.clearHold) z)
      (answerZoneReset_clearing (s := inHand _ s) hp hz hst (mt (conditions_alarm _ _ _).1 ha))
    rw [updateZone_diff _ _ _ _ (by simp [hst, toClearing]), hst] at hanswer
    exact hanswer
  · exact answers_of _ _ s _ _ _ rfl hs hw (answerZoneReset_other (s := inHand _ s) hp hz hst)

/-- Settles O44, by the evacuation state and, for STAND DOWN in ACTIVE, by the zones. -/
theorem evacuate_and_stand_down : Obligations.evacuate_and_stand_down := by
  intro tag s hs
  obtain ⟨_, _, hw, _, _⟩ := id hs
  refine ⟨fun ha => ?_, fun ha => ?_, fun ha => ?_, fun ha hz => ?_, fun ha hz => ?_⟩
  · exact answers_of _ _ s _ _ _ rfl hs hw (answerEvacuate_active (s := inHand _ s) ha)
  · refine answers_of _ _ s (enterActive .evacuate { s with zh := { s.zh with declaration := true } }) _ _ rfl hs
      ((enterActive_waiting _ _).trans hw) ((answerEvacuate_enters (s := inHand _ s) ha).trans ?_)
    rw [← enterActive_inHand]
    rfl
  · exact answers_of _ _ s _ _ _ rfl hs hw (answerStandDown_idle (s := inHand _ s) ha)
  · exact turnedAway_of _ _ rfl hs (answerStandDown_refused (s := inHand _ s) ha hz)
  · have hanswer := answers_of (.standDown tag []) _ s (leaveActive .standDown s) .ok [] rfl hs
      ((leaveActive_waiting _ _).trans hw)
      ((answerStandDown_leaves (s := inHand _ s) ha hz).trans (by rw [leaveActive_inHand]; rfl))
    rw [leaveActive_active _ ha] at hanswer
    exact hanswer

end Sys2Proof.Machine
end

section
/-! SUPPORT. The consequences of a zone's change, and the notices among them (R54, R59, R62, R63, R76, R108): O45. -/

namespace Sys2Proof.Machine

/-! ## NO_ROUTE (R108) -/

/-- The nodes that NO_ROUTE looks for: those of kind NONE at which a sign stands. -/
theorem signedNone_eq (p : Plan) (set : HeadingSet) :
    signedNone p set = (List.range p.header.nodeCount).filter fun u =>
      decide ((headingAt set u).choice = .none ∧ ∃ g ∈ p.signs, g.node = u) := by
  refine List.filter_congr fun u _ => ?_
  rw [Bool.eq_iff_iff]
  simp [isNone]

section
variable {s : State}

theorem checkNoRoute_unpublished (h : s.ps.active = none ∨ s.rsv.published = none) : checkNoRoute s = s := by
  unfold checkNoRoute
  split
  · next hp hset => simp [hp, hset] at h
  · rfl

variable {p : Plan} {set : HeadingSet} (hp : s.ps.active = some p) (hset : s.rsv.published = some set)
include hp hset

theorem checkNoRoute_routed (hn : signedNone p set = []) : checkNoRoute s = s := by
  simp only [checkNoRoute, hp, hset, noRouteBody, hn]

theorem checkNoRoute_raises {u : Nat} {rest : List Nat} {g : SignRec} (hn : signedNone p set = u :: rest)
    (hg : p.signs.find? (fun x => decide (x.node = u)) = some g) :
    checkNoRoute s = raise (.noRoute s.rsv.epoch (rest.length + 1) u g.address) s := by
  simp only [checkNoRoute, hp, hset, noRouteBody, hn, hg]

end

/-- Looking for signed NONE nodes raises no other notice. -/
theorem checkNoRoute_other (s : State) {k : NoticeKind} (h : k ≠ .noRoute) :
    (checkNoRoute s).mp.kinds[k.idx] = s.mp.kinds[k.idx] := by
  rcases checkNoRoute_cases s with e | ⟨_, _, _, _, e⟩ <;> rw [e]
  exact raise_other _ _ _ h

/-! ## The notices of a zone's change -/

section
variable (zone : Nat) (prev new : ZoneState) (s : State)

/-- What a zone's change comes to before the evacuation state follows: a solve wanted and ZONE_CHANGE risen. -/
def zoneTold (zone : Nat) (prev new : ZoneState) (s : State) : State :=
  raise (.zoneChange zone prev new) (wantSolve s)

/-- The state in which EVAC_STATE has risen at a zone's change, the evacuation state and clock being as it leaves them. -/
def evacTold (zone : Nat) (prev new : ZoneState) (s : State) : State :=
  raise (.evacState s.zh.evac (zoneChanged zone prev new s).zh.evac s.zh.declaration (.zone zone))
    { zoneTold zone prev new s with zh := (zoneChanged zone prev new s).zh }

variable {s}

/-- The hall enters ACTIVE: EVAC_STATE rises, and NO_ROUTE is looked at after it (log entry 11). -/
theorem zoneChanged_enters (ha : s.zh.evac ≠ .active) :
    zoneChanged zone prev .smoke s = checkNoRoute (evacTold zone prev .smoke s) := by
  rw [evacTold, zoneChanged_zh_smoke zone prev ha, zoneChanged_smoke zone prev ha]
  rfl

/-- The evacuation state changes to ALERT or QUIET: EVAC_STATE rises. -/
theorem zoneChanged_derives (ha : s.zh.evac ≠ .active) (hn : new ≠ .smoke)
    (he : s.zh.evac ≠ derivedEvac s.zh.zones) :
    zoneChanged zone prev new s = evacTold zone prev new s := by
  rw [evacTold, zoneChanged_zh_calm zone prev ha hn, zoneChanged_calm zone prev ha hn, setEvac_diff]
  · rfl
  · exact he

/-- The evacuation state stays: nothing rises after ZONE_CHANGE. -/
theorem zoneChanged_stays (h : s.zh.evac = .active ∨ new ≠ .smoke ∧ s.zh.evac = derivedEvac s.zh.zones) :
    zoneChanged zone prev new s = zoneTold zone prev new s := by
  by_cases ha : s.zh.evac = .active
  · exact zoneChanged_active zone prev ha
  · obtain ⟨hn, he⟩ := h.resolve_left ha
    exact (zoneChanged_calm zone prev ha hn).trans (setEvac_same _ _ _ he)

/-- The three ways a zone's change can end. -/
theorem zoneChanged_cases (s : State) :
    (zoneChanged zone prev new s = zoneTold zone prev new s ∧ (zoneChanged zone prev new s).zh.evac = s.zh.evac) ∨
      zoneChanged zone prev new s = evacTold zone prev new s ∨
      (new = .smoke ∧ s.zh.evac ≠ .active ∧ zoneChanged zone prev new s = checkNoRoute (evacTold zone prev new s)) := by
  by_cases ha : s.zh.evac = .active
  · exact .inl ⟨zoneChanged_stays _ _ _ (.inl ha), by rw [zoneChanged_zh_active zone prev ha]⟩
  by_cases hn : new = .smoke
  · subst hn
    exact .inr (.inr ⟨rfl, ha, zoneChanged_enters _ _ ha⟩)
  by_cases he : s.zh.evac = derivedEvac s.zh.zones
  · exact .inl ⟨zoneChanged_stays _ _ _ (.inr ⟨hn, he⟩), by rw [zoneChanged_zh_calm zone prev ha hn, ← he]⟩
  · exact .inr (.inl (zoneChanged_derives _ _ _ ha hn he))

variable (s)

/-- After ZONE_CHANGE no other rise of a zone's change is of its kind. -/
theorem zoneChanged_zoneKind :
    (zoneChanged zone prev new s).mp.kinds[NoticeKind.zoneChange.idx] =
      (raise (.zoneChange zone prev new) (wantSolve s)).mp.kinds[NoticeKind.zoneChange.idx] := by
  have htold : (evacTold zone prev new s).mp.kinds[NoticeKind.zoneChange.idx] =
      (zoneTold zone prev new s).mp.kinds[NoticeKind.zoneChange.idx] := raise_other _ _ _ (by simp [NoticeBody.kind])
  rcases zoneChanged_cases zone prev new s with ⟨h, _⟩ | h | ⟨_, _, h⟩ <;> rw [h]
  · rfl
  · exact htold
  · exact (checkNoRoute_other _ (by simp)).trans htold

/-- EVAC_STATE's record after a zone's change that changes the evacuation state is the one of its rise. -/
theorem zoneChanged_evacKind (he : (zoneChanged zone prev new s).zh.evac ≠ s.zh.evac) :
    (zoneChanged zone prev new s).mp.kinds[NoticeKind.evacState.idx] =
      (evacTold zone prev new s).mp.kinds[NoticeKind.evacState.idx] := by
  rcases zoneChanged_cases zone prev new s with ⟨_, h⟩ | h | ⟨_, _, h⟩
  · exact absurd h he
  · rw [h]
  · rw [h]
    exact checkNoRoute_other _ (by simp)

theorem zoneTold_other {k : NoticeKind} (h : k ≠ .zoneChange) :
    (zoneTold zone prev new s).mp.kinds[k.idx] = s.mp.kinds[k.idx] := raise_other _ _ _ h

theorem evacTold_other {k : NoticeKind} (h : k ≠ .zoneChange) (h' : k ≠ .evacState) :
    (evacTold zone prev new s).mp.kinds[k.idx] = s.mp.kinds[k.idx] :=
  (raise_other _ _ _ h').trans (zoneTold_other zone prev new s h)

/-- NO_ROUTE's record is as it was unless the change enters ACTIVE with a published set. -/
theorem zoneChanged_noRouteKind
    (h : s.zh.evac = .active ∨ new ≠ .smoke ∨ s.ps.active = none ∨ s.rsv.published = none) :
    (zoneChanged zone prev new s).mp.kinds[NoticeKind.noRoute.idx] = s.mp.kinds[NoticeKind.noRoute.idx] := by
  have htold := evacTold_other zone prev new s (k := .noRoute) (by simp) (by simp)
  rcases zoneChanged_cases zone prev new s with ⟨e, _⟩ | e | ⟨hn, ha, e⟩ <;> rw [e]
  · exact zoneTold_other zone prev new s (by simp)
  · exact htold
  · rw [checkNoRoute_unpublished (s := evacTold zone prev new s) ((h.resolve_left ha).resolve_left (absurd hn))]
    exact htold

/-- A zone's change leaves the zones, the detectors, the take and the declaration. -/
theorem zoneChanged_keeps :
    (zoneChanged zone prev new s).zh.zones = s.zh.zones ∧
      (zoneChanged zone prev new s).zh.detectors = s.zh.detectors ∧
      (zoneChanged zone prev new s).zh.take = s.zh.take ∧
      (zoneChanged zone prev new s).zh.declaration = s.zh.declaration := by
  obtain ⟨evac, clock, h⟩ := zoneChanged_zh s zone prev new
  rw [h]
  exact ⟨rfl, rfl, rfl, rfl⟩

end

/-- Settles O45, by the evacuation state, the state entered, and what is published. -/
theorem zone_change_consequences : Obligations.zone_change_consequences := by
  refine ⟨signedNone_eq, fun zone prev new s => ?_⟩
  dsimp only
  obtain ⟨hzones, hdetectors, htake, hdeclaration⟩ := zoneChanged_keeps zone prev new s
  have hzone := zoneChanged_zoneKind zone prev new s
  have hevac := zoneChanged_evacKind zone prev new s
  refine ⟨?_, hzones, hdetectors, htake, hdeclaration, zoneChanged_zh_active zone prev, fun ha hn => ?_,
    fun ha hn => ?_, ?_, fun hf => ?_, fun he => ⟨?_, fun hf => ?_⟩, fun p set hp hset ha hn => ?_,
    zoneChanged_noRouteKind zone prev new s, by simp, by simp, by simp, by simp, by simp, by simp, by simp, by simp,
    by simp⟩
  · exact (evacAfterZone_rsv _ _ _).trans (wantSolve_rsv s)
  · subst hn
    rw [zoneChanged_zh_smoke zone prev ha]
    exact ⟨rfl, rfl⟩
  · rw [zoneChanged_zh_calm zone prev ha hn]
    exact ⟨rfl, rfl⟩
  · rw [hzone]
    exact raise_flag _ _
  · rw [hzone]
    exact raise_event _ _ hf
  · rw [hevac he]
    exact raise_flag _ _
  · rw [hevac he]
    refine raise_event _ _ ((congrArg KindRec.flag ?_).trans hf)
    exact zoneTold_other zone prev new s (k := .evacState) (by simp)
  · subst hn
    have hother := evacTold_other zone prev .smoke s (k := .noRoute) (by simp) (by simp)
    rw [zoneChanged_enters zone prev ha]
    refine ⟨fun hnone => ?_, fun u rest g hnone hg => ?_⟩
    · rw [checkNoRoute_routed (s := evacTold zone prev .smoke s) hp hset hnone]
      exact hother
    · rw [checkNoRoute_raises (s := evacTold zone prev .smoke s) hp hset hnone hg]
      exact ⟨raise_flag _ _, fun hf => raise_event _ _ ((congrArg KindRec.flag hother).trans hf)⟩

end Sys2Proof.Machine
end

section
/-! SUPPORT. The conditions of a zone, its evaluation by state, and the expiries of its timers (R47 to R53): O46. -/

namespace Sys2Proof.Machine

/-! ## Conditions (R47) -/

/-- The records of a zone. -/
def zoneRecords (dets : Slots DetectorRec) (zone : Nat) : List DetectorRec :=
  (dets.map (·.2)).filter fun r => decide (r.zone = zone)

theorem levelCount_zoneRecords (dets : Slots DetectorRec) (zone : Nat) (l : Level) :
    levelCount dets zone l = (zoneRecords dets zone).countP fun r => decide (r.level = l) := by
  rw [levelCount_eq, zoneRecords, List.filter_map, List.countP_map, List.countP_eq_length_filter]
  rfl

theorem any_zoneRecords (dets : Slots DetectorRec) (zone : Nat) (f : DetectorRec → Prop) [DecidablePred f] :
    dets.any (fun d => decide (d.2.zone = zone ∧ f d.2)) = true ↔ ∃ r ∈ zoneRecords dets zone, f r := by
  simp only [zoneRecords, List.any_eq_true, decide_eq_true_iff, List.mem_filter, List.mem_map]
  grind

section
variable (dets : Slots DetectorRec) (zone : Nat) (z : ZoneRun)

theorem conditions_alarm_count :
    (conditions dets zone z).alarm = true ↔
      1 ≤ (zoneRecords dets zone).countP (fun r => decide (r.level = .alarm)) ∨ z.untracked = true := by
  simp only [conditions, Bool.or_eq_true, decide_eq_true_iff, levelCount_zoneRecords]

theorem conditions_warning :
    (conditions dets zone z).warning = true ↔
      1 ≤ (zoneRecords dets zone).countP (fun r => decide (r.level = .prealarm)) +
        (zoneRecords dets zone).countP (fun r => decide (r.level = .alarm)) := by
  simp only [conditions, decide_eq_true_iff, levelCount_zoneRecords]

theorem conditions_degraded :
    (conditions dets zone z).degraded = true ↔
      1 ≤ (zoneRecords dets zone).countP (fun r => decide (r.level = .fault)) := by
  simp only [conditions, decide_eq_true_iff, levelCount_zoneRecords]

theorem conditions_confirmed :
    (conditions dets zone z).confirmed = true ↔
      2 ≤ (zoneRecords dets zone).countP (fun r => decide (r.level = .alarm)) ∨
        (∃ r ∈ zoneRecords dets zone, z.setting.confirmCount ≤ r.alarms) ∨
        ((conditions dets zone z).degraded = true ∧ (conditions dets zone z).alarm = true) ∨ z.untracked = true := by
  simp only [conditions, Bool.or_eq_true, Bool.and_eq_true, decide_eq_true_iff, levelCount_zoneRecords, or_assoc,
    any_zoneRecords dets zone fun r => z.setting.confirmCount ≤ r.alarms]

end

/-! ## An evaluation, by what it makes of the zone's record (R48) -/

theorem updateZone_toClear (zone : Nat) {z : ZoneRun} (s : State) {a : ZoneState} (ha : z.state = a)
    (hne : a ≠ .clear) :
    updateZone zone z (toClear z) s = zoneChanged zone a .clear (setZone zone (toClear z) s) := by
  subst ha
  exact updateZone_diff zone z (toClear z) s hne

section
variable {s : State} {zone : Nat} {z : ZoneRun} (hz : s.zh.zones[zone]? = some z)
include hz

theorem setZone_self : setZone zone z s = s := by
  have hset : s.zh.zones.set zone z = s.zh.zones := by
    obtain ⟨hlt, rfl⟩ := List.getElem?_eq_some_iff.1 hz
    exact List.set_getElem_self hlt
  rw [setZone, hset]

variable {peak : Level} {new : ZoneRun}

theorem evaluateZone_of (he : evaluatedIn s zone peak z = new) : evaluateZone zone peak s = updateZone zone z new s := by
  subst he
  simp only [evaluateZone, hz, evaluatedIn]

theorem evaluateZone_idle (he : evaluatedIn s zone peak z = z) : evaluateZone zone peak s = s := by
  rw [evaluateZone_of hz he, updateZone_same _ _ _ _ rfl, setZone_self hz]

theorem evaluateZone_stays (he : evaluatedIn s zone peak z = new) (hst : z.state = new.state) :
    evaluateZone zone peak s = setZone zone new s := by
  rw [evaluateZone_of hz he, updateZone_same _ _ _ _ hst]

theorem evaluateZone_moves {a : ZoneState} (ha : z.state = a) (he : evaluatedIn s zone peak z = new)
    (hst : a ≠ new.state) : evaluateZone zone peak s = zoneChanged zone a new.state (setZone zone new s) := by
  subst ha
  rw [evaluateZone_of hz he, updateZone_diff _ _ _ _ hst]

/-! ## The expiries of the two timers (R50, R52) -/

theorem suspectExpiry_warned (hst : z.state = .suspect) (hd : z.suspect = some 0)
    (hw : (conditions s.zh.detectors zone z).warning = true) :
    suspectExpiry zone s = setZone zone { z with suspect := some (suspectTicks s) } s := by
  simp [suspectExpiry, hz, timerDue, hst, hd, hw]

theorem suspectExpiry_clears (hst : z.state = .suspect) (hd : z.suspect = some 0)
    (hw : (conditions s.zh.detectors zone z).warning = false) :
    suspectExpiry zone s = zoneChanged zone .suspect .clear (setZone zone (toClear z) s) := by
  rw [← updateZone_toClear zone s hst (by simp)]
  simp [suspectExpiry, hz, timerDue, hst, hd, hw]

theorem clearHoldExpiry_clears (hst : z.state = .clearing) (hd : z.clearHold = some 0) :
    clearHoldExpiry zone s = zoneChanged zone .clearing .clear (setZone zone (toClear z) s) := by
  rw [← updateZone_toClear zone s hst (by simp)]
  simp [clearHoldExpiry, hz, timerDue, hst, hd]

end

/-- Settles O46: the four conditions, the evaluation by the zone's state, and the two timers. -/
theorem zone_evaluation : Obligations.zone_evaluation := by
  intro zone z s hz
  dsimp only
  refine ⟨conditions_alarm_count _ _ _, conditions_warning _ _ _, conditions_degraded _ _ _, ?_, fun peak => ?_,
    fun hrun hst hd => ⟨fun hw => ?_, fun hw => ?_⟩, fun hrun hst hd => ?_⟩
  · rw [conditions_confirmed, conditions_degraded, conditions_alarm_count]
    rfl
  · have hpeak : isWarningLevel peak = true ↔ peak = .prealarm ∨ peak = .alarm := by simp [isWarningLevel]
    rw [← hpeak]
    refine ⟨fun hst hw => ?_, fun hst hw hc => ?_, fun hst hw hc => ?_, fun hst hc => ?_, fun hst hc => ?_,
      fun hst ha hw hl => ?_, fun hst h => ?_, fun hst ha => ?_, fun hst ha hw => ?_, fun hst ha hw => ?_⟩
    · exact evaluateZone_idle hz (by simp [evaluatedIn, evaluated, hst, hw])
    · exact evaluateZone_moves hz hst (new := toSmoke z) (by simp [evaluatedIn, evaluated, hst, hw, hc])
        (by simp [toSmoke])
    · exact evaluateZone_moves hz hst (new := toSuspect (suspectTicks s) z)
        (by simp [evaluatedIn, evaluated, hst, hw, hc]) (by simp [toSuspect])
    · exact evaluateZone_moves hz hst (new := toSmoke z) (by simp [evaluatedIn, evaluated, hst, hc]) (by simp [toSmoke])
    · exact evaluateZone_idle hz (by simp [evaluatedIn, evaluated, hst, hc])
    · exact evaluateZone_moves hz hst (new := toClearing (clearHoldTicks s) z)
        (by simp [evaluatedIn, evaluated, hst, ha, hw, hl]) (by simp [toClearing])
    · exact evaluateZone_idle hz (by rcases h with h | h | h <;> simp [evaluatedIn, evaluated, hst, h])
    · exact evaluateZone_moves hz hst (new := toSmoke z) (by simp [evaluatedIn, evaluated, hst, ha]) (by simp [toSmoke])
    · exact evaluateZone_stays hz (by simp [evaluatedIn, evaluated, hst, ha, hw]) rfl
    · exact evaluateZone_idle hz (by simp [evaluatedIn, evaluated, hst, ha, hw])
  · exact congrArg _ ((whenRunning_running hrun _).trans (suspectExpiry_warned hz hst hd hw))
  · exact congrArg _ ((whenRunning_running hrun _).trans (suspectExpiry_clears hz hst hd hw))
  · exact congrArg _ ((whenRunning_running hrun _).trans (clearHoldExpiry_clears hz hst hd))

end Sys2Proof.Machine
end

section
/-! SUPPORT. The tenth tick (R53, R63 to R65, R126): O60. -/

namespace Sys2Proof.Machine

/-- A cycle start at a tick hangs on parts that the tick leaves (R126). -/
theorem tickStart_tickAll (s : State) :
    tickStart (tickAll s) =
      if s.slc.cycle = .idle ∧ s.mark .sign = .running ∧ backToBack s = true ∧ s.slc.exchange = none then
        cycleStart (tickAll s)
      else tickAll s := rfl

theorem exec_tenthTick_loading {s : State} (h : s.phase = .loading) : exec .tenthTick s = .next (tickAll s) := by
  simp only [exec, execTenthTick, h]

theorem exec_tenthTick_running {s : State} (h : s.phase = .running) :
    exec .tenthTick s = .next (tickStart (tickAll s)) := by
  simp only [exec, execTenthTick, h]

/-- Settles O60, by the phase and by whether a cycle starts; the clock by its digits. -/
theorem tenth_tick : Obligations.tenth_tick := by
  refine ⟨fun s => ?_, fun c hm hs ht => ?_⟩
  · intro down port clock starts ticked
    have hdown : down = tickTimer := by
      funext t
      match t with
      | none => rfl
      | some 0 => rfl
      | some (n + 1) => rfl
    have hticked : ticked = tickAll s := by
      simp only [ticked, port, clock, hdown]
      rfl
    rw [hticked]
    refine ⟨fun h hno => ?_, fun h hstart => ?_, exec_tenthTick_loading⟩
    · rw [exec_tenthTick_running h, tickStart_tickAll, if_neg hno]
    · rw [exec_tenthTick_running h, tickStart_tickAll, if_pos hstart]
  · obtain ⟨_, hs', ht', hr, hn⟩ := advanceClock_spec hm hs ht
    exact ⟨hs', ht', hr, hn⟩

end Sys2Proof.Machine
end

section
/-! SUPPORT. The order of cost pairs, their extension by an arc, and the seeds of exits and nodes (R66 to R74): O54. -/

namespace Sys2Proof.Machine

/-! ## The order of cost pairs (R66) -/

theorem costLt_iff (a b : Cost) : costLt a b = true ↔ a.x < b.x ∨ (a.x = b.x ∧ a.d < b.d) := decide_eq_true_iff

theorem not_costLt_iff (a b : Cost) : costLt a b = false ↔ b.x < a.x ∨ (b.x = a.x ∧ b.d ≤ a.d) := by
  rw [Bool.eq_false_iff, ne_eq, costLt_iff]
  omega

@[simp] theorem costLt_self (a : Cost) : costLt a a = false := by simp [costLt]

variable {a b c : Cost}

theorem costLt_asymm (h : costLt a b = true) : costLt b a = false := by
  rw [costLt_iff] at h
  rw [not_costLt_iff]
  omega

theorem not_costLt_trans (h : costLt a b = false) (h' : costLt b c = false) : costLt a c = false := by
  rw [not_costLt_iff] at *
  omega

theorem costLt_of_costLt_of_not (h : costLt a b = true) (h' : costLt c b = false) : costLt a c = true := by
  rw [not_costLt_iff] at h'
  rw [costLt_iff] at *
  omega

/-- Two costs neither of which is lower are one. -/
theorem cost_eq_of_not_costLt (h : costLt a b = false) (h' : costLt b a = false) : a = b := by
  obtain ⟨x, d⟩ := a
  obtain ⟨y, e⟩ := b
  rw [not_costLt_iff] at h h'
  simp only [Cost.mk.injEq] at *
  omega

/-! ## Extension (R67) -/

@[simp] theorem extend_unreachable (arc : Arc) : extend unreachable arc = unreachable := if_pos rfl

/-- A cost whose distance is below UNREACHABLE's extends in both parts, each to its own limit. -/
theorem extend_reachable (arc : Arc) (h : c.d ≤ 65534) :
    extend c arc = { x := min 65535 (c.x + arc.e), d := min 65534 (c.d + arc.le) } := by
  refine if_neg fun e => ?_
  rw [e] at h
  exact absurd h (by decide)

/-- Each part of an extended cost is its sum or, from there on, its limit. -/
theorem extend_saturates (arc : Arc) (h : c.d ≤ 65534) :
    extend c arc =
      { x := if c.x + arc.e < 65535 then c.x + arc.e else 65535
        d := if c.d + arc.le < 65534 then c.d + arc.le else 65534 } := by
  rw [extend_reachable arc h, Cost.mk.injEq]
  constructor <;> split <;> omega

/-! ## Seeds of exits (R72, R73) -/

/-- With the bias and the surcharge in their ranges a DOOR's seed stays far from the limit. -/
theorem doorSeed_distance_le {h : Header} {e : ExitRec} (hb : e.bias ≤ 4095) (hs : h.surcharge ≤ 4095)
    (st : ExitState) {c : Cost} (hc : doorSeed h e st = some c) : c.d ≤ 8190 := by
  cases st <;> cases hc <;> dsimp only <;> omega

/-- A CLOSED PORTAL gives no seed. -/
theorem portalSeed_closed (h : Header) (f : PortalFields) (adv : Option Advertisement) :
    portalSeed h f .closed adv = none := by
  unfold portalSeed
  split
  · rfl
  · exact ite_self none

/-- A PORTAL gives no seed that would be one hop too many or UNREACHABLE. -/
theorem portalSeed_far (h : Header) (f : PortalFields) (st : ExitState) {a : Advertisement}
    (hfar : 3 ≤ a.hop ∨ 65535 ≤ a.cost.d) : portalSeed h f st (some a) = none := by
  refine if_neg fun hnear => ?_
  have hhop : a.hop + 1 ≤ 3 := hnear.1
  have hdist := hnear.2
  omega

/-- A PORTAL's seed is its advertisement with the crossing, and the surcharge where it is RESTRICTED, one hop on. -/
theorem portalSeed_near (h : Header) (f : PortalFields) {a : Advertisement} (hhop : a.hop ≤ 2) (hd : a.cost.d < 65535) :
    portalSeed h f .opened (some a) = some ({ x := a.cost.x, d := min 65534 (a.cost.d + f.crossing) }, a.hop + 1) ∧
    portalSeed h f .restricted (some a) =
      some ({ x := a.cost.x, d := min 65534 (a.cost.d + f.crossing + h.surcharge) }, a.hop + 1) :=
  have hnear : a.hop + 1 ≤ Config.hopLimit ∧ a.cost.d < 65535 := ⟨Nat.succ_le_succ hhop, hd⟩
  ⟨if_pos hnear, if_pos hnear⟩

theorem portalSeed_hop_le {h : Header} {f : PortalFields} {st : ExitState} {adv : Option Advertisement}
    {r : Cost × Nat} (hr : portalSeed h f st adv = some r) : r.2 ≤ 3 := by
  cases adv with
  | none => cases hr
  | some a =>
    unfold portalSeed at hr
    dsimp only at hr
    split at hr
    · next hnear => cases st <;> cases hr <;> exact hnear.1
    · cases hr

/-! ## Seeds in a plan (R74) -/

section
variable {p : Plan} {snap : Snapshot} {exits : List ExitState} {portals : List (Nat × Option Advertisement)} {i : Nat}
  {e : ExitRec} {st : ExitState}

theorem exitSeed_of_door (he : p.exits[i]? = some e) (hst : exits[i]? = some st) (hdoor : e.portal = none) :
    exitSeed p exits portals i = (doorSeed p.header e st).map fun c => { exit := i, cost := c, hop := 0 } := by
  simp [exitSeed, he, hst, hdoor]

theorem exitSeed_of_portal {f : PortalFields} (he : p.exits[i]? = some e) (hst : exits[i]? = some st)
    (hf : e.portal = some f) :
    exitSeed p exits portals i = (portalSeed p.header f st (advertisementOf portals i)).map fun c =>
      { exit := i, cost := c.1, hop := c.2 } := by
  simp [exitSeed, he, hst, hf]

/-- A seed's origin is its exit, and its hop is within the limit. -/
theorem exitSeed_origin_hop {sd : Seed} (he : p.exits[i]? = some e) (hst : exits[i]? = some st)
    (hsd : exitSeed p exits portals i = some sd) : sd.exit = i ∧ sd.hop ≤ 3 := by
  cases hf : e.portal with
  | none =>
    rw [exitSeed_of_door he hst hf] at hsd
    obtain ⟨c, _, rfl⟩ := Option.map_eq_some_iff.1 hsd
    exact ⟨rfl, Nat.zero_le 3⟩
  | some f =>
    rw [exitSeed_of_portal he hst hf] at hsd
    obtain ⟨r, hr, rfl⟩ := Option.map_eq_some_iff.1 hsd
    exact ⟨rfl, portalSeed_hop_le hr⟩

/-- A node at which one exit stands has that exit's seed. -/
theorem nodeSeed_of_exit (he : p.exits[i]? = some e)
    (honly : ∀ (j : Nat) (d : ExitRec), p.exits[j]? = some d → d.node = e.node → j = i) :
    nodeSeed p snap e.node = exitSeed p snap.exits snap.portals i := by
  unfold nodeSeed
  rw [(List.find?_range_eq_some (i := i)).2]
  refine ⟨by simp [he], List.mem_range.2 (List.getElem?_eq_some_iff.1 he).1, fun j hj => ?_⟩
  have hno (d : ExitRec) (hd : p.exits[j]? = some d) : d.node ≠ e.node :=
    fun hnode => absurd (honly j d hd hnode) (Nat.ne_of_lt hj)
  cases hd : p.exits[j]? with
  | none => rfl
  | some d => simpa using hno d hd

theorem nodeSeed_of_no_exit {u : Nat} (h : ∀ e ∈ p.exits, e.node ≠ u) : nodeSeed p snap u = none := by
  unfold nodeSeed
  rw [List.find?_eq_none.2]
  intro j _
  have hno (d : ExitRec) (hd : p.exits[j]? = some d) : d.node ≠ u := h d (List.mem_of_getElem? hd)
  cases hd : p.exits[j]? with
  | none => simp
  | some d => simpa using hno d hd

end

/-- Settles O54: an extension part by part, a seed by the exit's kind and state, and a node's seed by the exits that
stand at it. -/
theorem cost_extension : Obligations.cost_extension := by
  refine ⟨fun c arc hx hd => ?_, fun arc => extend_unreachable arc, fun arc to_ from_ nodes h => if_neg (by simp [h]),
    fun h e => ⟨rfl, ?_, rfl, fun hb hs st c => doorSeed_distance_le hb hs st⟩, fun h f => ⟨fun _ => rfl, fun a => ?_⟩,
    fun s => rfl, fun p snap i e st he hst => ?_, fun p snap u => nodeSeed_of_no_exit⟩
  · refine ⟨extend_saturates arc hd, ?_⟩
    rw [not_costLt_iff, extend_reachable arc hd]
    refine ⟨by dsimp only; omega, by dsimp only; omega, fun hle _ hlow => by dsimp only; omega, fun he hlimit => ?_⟩
    obtain ⟨x, d⟩ := c
    simp only [Cost.mk.injEq] at *
    omega
  · show some ({ x := 0, d := min 65534 (e.bias + h.surcharge) } : Cost) = _
    rw [min_comm, min_def_lt]
  · refine ⟨portalSeed_closed h f _, fun hfar st => portalSeed_far h f st hfar, fun hhop hdist => ?_⟩
    simp only [portalSeed_near h f hhop hdist, min_comm 65534, min_def_lt, true_and]
  · refine ⟨exitSeed_of_door he hst, fun f adv hf hfind => ?_, fun sd => exitSeed_origin_hop he hst,
      nodeSeed_of_exit he⟩
    rw [exitSeed_of_portal he hst hf]
    simp [advertisementOf, hfind]

end Sys2Proof.Machine
end

section
/-! SUPPORT. Arc costs and relaxation (R68, R69, R79 to R81): no try raises a cost, so a pass that changes nothing
leaves no lower candidate. -/

namespace Sys2Proof.Machine

/-! ## Arc costs (R68, R69) -/

/-- An arc's distance is its length by the width class's factor, in eighths rounded up. -/
theorem arcDistance_bounds (l : LinkRec) :
    l.len * widthFactor l.width ≤ 8 * arcDistance l ∧ 8 * arcDistance l < l.len * widthFactor l.width + 8 := by
  unfold arcDistance
  omega

/-! ## One try (R79, R80) -/

section
variable (arc : Arc) (to_ from_ : Nat) (nodes : List NodeWork)

/-- The cost that a try offers its node. -/
def triedCost : Cost := extend (workAt nodes from_).cost arc

/-- A candidate that is not lower is not taken. -/
theorem relaxTry_keeps (h : costLt (triedCost arc from_ nodes) (workAt nodes to_).cost = false) :
    relaxTry arc to_ from_ nodes = nodes := if_neg (by simpa [triedCost] using h)

/-- A lower candidate is taken with its origin and hop. -/
theorem relaxTry_takes (h : costLt (triedCost arc from_ nodes) (workAt nodes to_).cost = true) :
    relaxTry arc to_ from_ nodes =
      nodes.set to_ { cost := triedCost arc from_ nodes, route := (workAt nodes from_).route } := if_pos h

@[simp] theorem relaxTry_length : (relaxTry arc to_ from_ nodes).length = nodes.length := by
  unfold relaxTry
  dsimp only
  split <;> simp

theorem workAt_set_self {u : Nat} (hu : u < nodes.length) (w : NodeWork) : workAt (nodes.set u w) u = w := by
  simp [workAt, hu]

theorem workAt_set_ne {u v : Nat} (h : v ≠ u) (w : NodeWork) : workAt (nodes.set v w) u = workAt nodes u := by
  simp [workAt, List.getElem?_set_ne h]

theorem workAt_relaxTry_ne {u : Nat} (h : u ≠ to_) : workAt (relaxTry arc to_ from_ nodes) u = workAt nodes u := by
  cases hlt : costLt (triedCost arc from_ nodes) (workAt nodes to_).cost with
  | false => rw [relaxTry_keeps arc to_ from_ nodes hlt]
  | true => rw [relaxTry_takes arc to_ from_ nodes hlt, workAt_set_ne nodes (Ne.symm h)]

end

/-! ## Costs only fall (R81) -/

/-- No node's cost is higher in `new`. -/
def NoHigher (old new : List NodeWork) : Prop :=
  ∀ u, costLt (workAt old u).cost (workAt new u).cost = false

/-- Nothing changed; or some node's cost is lower, and no node's is higher. -/
def Improves (old new : List NodeWork) : Prop :=
  new = old ∨ NoHigher old new ∧ ∃ u, costLt (workAt new u).cost (workAt old u).cost = true

section
variable {a b c : List NodeWork}

theorem NoHigher.refl (a : List NodeWork) : NoHigher a a := fun _ => costLt_self _

theorem NoHigher.trans (h : NoHigher a b) (h' : NoHigher b c) : NoHigher a c :=
  fun u => not_costLt_trans (h u) (h' u)

theorem Improves.refl (a : List NodeWork) : Improves a a := .inl rfl

theorem Improves.noHigher (h : Improves a b) : NoHigher a b := by
  rcases h with rfl | ⟨h, _⟩
  · exact .refl _
  · exact h

theorem Improves.trans (h : Improves a b) (h' : Improves b c) : Improves a c := by
  rcases h' with rfl | ⟨hle, u, hu⟩
  · exact h
  · exact .inr ⟨h.noHigher.trans hle, u, costLt_of_costLt_of_not hu (h.noHigher u)⟩

/-- What improves and can be improved back has not changed. -/
theorem Improves.antisymm (h : Improves a b) (h' : Improves b a) : b = a := by
  rcases h with h | ⟨_, u, hu⟩
  · exact h
  · rw [h'.noHigher u] at hu
    cases hu

end

theorem improves_relaxTry (arc : Arc) (to_ from_ : Nat) (nodes : List NodeWork) :
    Improves nodes (relaxTry arc to_ from_ nodes) := by
  cases hlt : costLt (triedCost arc from_ nodes) (workAt nodes to_).cost with
  | false => exact .inl (relaxTry_keeps arc to_ from_ nodes hlt)
  | true =>
    rcases Nat.lt_or_ge to_ nodes.length with hto | hto
    · have hself := workAt_set_self nodes hto { cost := triedCost arc from_ nodes, route := (workAt nodes from_).route }
      rw [← relaxTry_takes arc to_ from_ nodes hlt] at hself
      refine .inr ⟨fun u => ?_, to_, by rw [hself]; exact hlt⟩
      by_cases hu : u = to_
      · rw [hu, hself]
        exact costLt_asymm hlt
      · rw [workAt_relaxTry_ne arc to_ from_ nodes hu]
        exact costLt_self _
    · exact .inl (by rw [relaxTry_takes arc to_ from_ nodes hlt, List.set_eq_of_length_le hto])

/-- A node in the table that a try leaves as it was was offered no lower candidate. -/
theorem not_costLt_of_relaxTry_eq {arc : Arc} {to_ from_ : Nat} {nodes : List NodeWork} (hto : to_ < nodes.length)
    (h : relaxTry arc to_ from_ nodes = nodes) :
    costLt (triedCost arc from_ nodes) (workAt nodes to_).cost = false := by
  cases hlt : costLt (triedCost arc from_ nodes) (workAt nodes to_).cost with
  | false => rfl
  | true =>
    have hself := workAt_set_self nodes hto { cost := triedCost arc from_ nodes, route := (workAt nodes from_).route }
    rw [← relaxTry_takes arc to_ from_ nodes hlt, h] at hself
    rw [hself, costLt_self] at hlt
    cases hlt

/-! ## The two tries of a link, and a pass (R79) -/

section
variable (weights : List Nat) (nodes : List NodeWork) (l : LinkRec)

/-- The node table after the try toward A, where the link permits it. -/
def afterTowardA : List NodeWork :=
  if l.passage = .bToA then nodes else relaxTry (arcCost weights l) l.a l.b nodes

theorem relaxLink_eq :
    relaxLink weights nodes l =
      if l.passage = .aToB then afterTowardA weights nodes l
      else relaxTry (arcCost weights l) l.b l.a (afterTowardA weights nodes l) := by
  simp [relaxLink, afterTowardA, goesAB, goesBA]

theorem improves_afterTowardA : Improves nodes (afterTowardA weights nodes l) := by
  unfold afterTowardA
  split
  · exact .refl _
  · exact improves_relaxTry _ _ _ _

theorem improves_relaxLink_afterTowardA : Improves (afterTowardA weights nodes l) (relaxLink weights nodes l) := by
  rw [relaxLink_eq]
  split
  · exact .refl _
  · exact improves_relaxTry _ _ _ _

theorem improves_relaxLink : Improves nodes (relaxLink weights nodes l) :=
  (improves_afterTowardA weights nodes l).trans (improves_relaxLink_afterTowardA weights nodes l)

theorem improves_relaxPass (links : List LinkRec) : Improves nodes (relaxPass weights links nodes) :=
  List.foldlRecOn (motive := Improves nodes) links _ (.refl _) fun _ h l _ => h.trans (improves_relaxLink weights _ l)

@[simp] theorem relaxLink_length : (relaxLink weights nodes l).length = nodes.length := by
  unfold relaxLink
  dsimp only
  (repeat' split) <;> simp

@[simp] theorem relaxPass_length (links : List LinkRec) : (relaxPass weights links nodes).length = nodes.length :=
  List.foldlRecOn (motive := fun x : List NodeWork => x.length = nodes.length) links _ rfl fun _ h _ _ => by
    simpa using h

end

section
variable {weights : List Nat} {nodes : List NodeWork}

/-- A pass that changes nothing changed nothing at any link. -/
theorem relaxLink_eq_of_relaxPass_eq {links : List LinkRec} (h : relaxPass weights links nodes = nodes) :
    ∀ l ∈ links, relaxLink weights nodes l = nodes := by
  induction links with
  | nil => simp
  | cons k rest ih =>
    have hback : Improves (relaxLink weights nodes k) nodes := by
      have hrest := improves_relaxPass weights (relaxLink weights nodes k) rest
      rwa [show relaxPass weights rest (relaxLink weights nodes k) = nodes from h] at hrest
    have hk : relaxLink weights nodes k = nodes := (improves_relaxLink weights nodes k).antisymm hback
    have hpass : relaxPass weights rest nodes = nodes := by
      conv_lhs => rw [← hk]
      exact h
    intro l hl
    rcases List.mem_cons.1 hl with rfl | hl
    · exact hk
    · exact ih hpass l hl

/-- A link that changes nothing offers no lower candidate to either of its nodes. -/
theorem no_lower_of_relaxLink_eq {l : LinkRec} (h : relaxLink weights nodes l = nodes) (ha : l.a < nodes.length)
    (hb : l.b < nodes.length) :
    (l.passage ≠ .bToA → costLt (triedCost (arcCost weights l) l.b nodes) (workAt nodes l.a).cost = false) ∧
    (l.passage ≠ .aToB → costLt (triedCost (arcCost weights l) l.a nodes) (workAt nodes l.b).cost = false) := by
  have hA : afterTowardA weights nodes l = nodes := by
    refine (improves_afterTowardA weights nodes l).antisymm ?_
    have hback := improves_relaxLink_afterTowardA weights nodes l
    rwa [h] at hback
  constructor
  · intro hp
    refine not_costLt_of_relaxTry_eq ha ?_
    simpa [afterTowardA, hp] using hA
  · intro hp
    refine not_costLt_of_relaxTry_eq hb ?_
    simpa [relaxLink_eq, hA, hp] using h

end

/-! ## The passes of a solve (R81) -/

section
variable (weights : List Nat) (links : List LinkRec)

theorem relax_zero (made : Nat) (nodes : List NodeWork) :
    relax weights links 0 made nodes = { nodes := nodes, passes := made, limited := true } := rfl

/-- A pass that changes nothing is the last, and is counted. -/
theorem relax_ends (left made : Nat) {nodes : List NodeWork} (h : relaxPass weights links nodes = nodes) :
    relax weights links (left + 1) made nodes = { nodes := nodes, passes := made + 1, limited := false } := if_pos h

/-- A pass that changes something is followed by the others. -/
theorem relax_goes_on (left made : Nat) {nodes : List NodeWork} (h : relaxPass weights links nodes ≠ nodes) :
    relax weights links (left + 1) made nodes =
      relax weights links left (made + 1) (relaxPass weights links nodes) := if_neg h

/-- What the passes of a solve come to, when `left` more are allowed. -/
structure PassesOk (left made : Nat) (nodes : List NodeWork) (r : Converged) : Prop where
  length  : r.nodes.length = nodes.length
  count   : r.passes ≤ made + left
  falls   : NoHigher nodes r.nodes
  settled : r.limited = false → relaxPass weights links r.nodes = r.nodes
  used    : r.limited = true → r.passes = made + left

theorem passesOk_relax (left : Nat) :
    ∀ (made : Nat) (nodes : List NodeWork),
      PassesOk weights links left made nodes (relax weights links left made nodes) := by
  induction left with
  | zero => exact fun made nodes => ⟨rfl, Nat.le_refl _, .refl _, nofun, fun _ => rfl⟩
  | succ left ih =>
    intro made nodes
    by_cases h : relaxPass weights links nodes = nodes
    · rw [relax_ends weights links left made h]
      exact ⟨rfl, by dsimp only; omega, .refl _, fun _ => h, nofun⟩
    · rw [relax_goes_on weights links left made h]
      obtain ⟨hlen, hcount, hfalls, hsettled, hused⟩ := ih (made + 1) (relaxPass weights links nodes)
      exact ⟨by simpa using hlen, by omega, (improves_relaxPass weights nodes links).noHigher.trans hfalls, hsettled,
        fun hl => by rw [hused hl]; omega⟩

end

end Sys2Proof.Machine
end

section
/-! SUPPORT. The heading selection (R90 to R95): nodes are settled in order of rising cost, so that each record is the
one its node selects among the finished records. -/

namespace Sys2Proof.Machine

/-! ## The order in which nodes are settled (R90) -/

theorem insertByCost_perm (nodes : List NodeWork) (u : Nat) (l : List Nat) :
    (insertByCost nodes u l).Perm (u :: l) := by
  induction l with
  | nil => exact .refl _
  | cons v rest ih =>
    unfold insertByCost
    split
    · exact .refl _
    · exact (ih.cons v).trans (.swap u v rest)

/-- Among the nodes in this order no later one has a lower cost. -/
def CostSorted (nodes : List NodeWork) (order : List Nat) : Prop :=
  order.Pairwise fun u v => costLt (workAt nodes v).cost (workAt nodes u).cost = false

theorem costSorted_insertByCost {nodes : List NodeWork} (u : Nat) {l : List Nat} (h : CostSorted nodes l) :
    CostSorted nodes (insertByCost nodes u l) := by
  induction l with
  | nil => exact List.pairwise_singleton _ _
  | cons v rest ih =>
    obtain ⟨hv, hrest⟩ := List.pairwise_cons.1 h
    unfold insertByCost
    split
    · next hlt =>
      refine List.pairwise_cons.2 ⟨fun w hw => ?_, h⟩
      rcases List.mem_cons.1 hw with rfl | hw
      · exact costLt_asymm hlt
      · exact not_costLt_trans (hv w hw) (costLt_asymm hlt)
    · next hlt =>
      refine List.pairwise_cons.2 ⟨fun w hw => ?_, ih hrest⟩
      rcases List.mem_cons.1 ((insertByCost_perm nodes u rest).mem_iff.1 hw) with rfl | hw
      · simpa using hlt
      · exact hv w hw

theorem costOrder_perm (nodes : List NodeWork) : (costOrder nodes).Perm (List.range nodes.length) := by
  have h (l : List Nat) : ∀ acc : List Nat, (l.foldl (fun acc u => insertByCost nodes u acc) acc).Perm (l ++ acc) := by
    induction l with
    | nil => exact .refl
    | cons u rest ih =>
      exact fun acc => (ih _).trans (((insertByCost_perm nodes u acc).append_left rest).trans List.perm_middle)
  exact (h _ []).trans (.of_eq (List.append_nil _))

theorem costOrder_sorted (nodes : List NodeWork) : CostSorted nodes (costOrder nodes) :=
  List.foldlRecOn _ _ .nil fun _ h u _ => costSorted_insertByCost u h

theorem costOrder_nodup (nodes : List NodeWork) : (costOrder nodes).Nodup :=
  (costOrder_perm nodes).nodup_iff.2 List.nodup_range

/-! ## Records written one by one -/

section
variable {α : Type} (f : List α → Nat → α)

/-- Writes at each place of a list, in turn, what is computed from the list as it then stands. -/
def settleAll (order : List Nat) (records : List α) : List α :=
  order.foldl (fun chosen u => chosen.set u (f chosen u)) records

@[simp] theorem settleAll_length (order : List Nat) (records : List α) :
    (settleAll f order records).length = records.length :=
  List.foldlRecOn (motive := fun l : List α => l.length = records.length) order _ rfl fun _ h _ _ => by simpa using h

/-- A place that is not visited keeps its record. -/
theorem settleAll_getElem?_of_not_mem {order : List Nat} {v : Nat} (hv : v ∉ order) (records : List α) :
    (settleAll f order records)[v]? = records[v]? :=
  List.foldlRecOn (motive := fun l : List α => l[v]? = records[v]?) order _ rfl fun _ h u hu => by
    have hne : u ≠ v := fun e => hv (e ▸ hu)
    rwa [List.getElem?_set_ne hne]

/-- Of the places visited once each, one holds what was computed for it when all before it had been visited. -/
theorem settleAll_getElem? {before after : List Nat} {u : Nat} (hnodup : (before ++ u :: after).Nodup)
    (records : List α) (hu : u < records.length) :
    (settleAll f (before ++ u :: after) records)[u]? = some (f (settleAll f before records) u) := by
  have hafter : u ∉ after := (List.nodup_cons.1 (List.nodup_append.1 hnodup).2.1).1
  have hsplit : settleAll f (before ++ u :: after) records =
      settleAll f after ((settleAll f before records).set u (f (settleAll f before records) u)) := by
    simp [settleAll]
  rw [hsplit, settleAll_getElem?_of_not_mem f hafter, List.getElem?_set_self (by simpa using hu)]

end

/-! ## Candidates and selection see only nodes of lower cost (R90) -/

section
variable {p : Plan} {snap : Snapshot} {nodes : List NodeWork} {prev : Option HeadingSet} {u : Nat}

/-- Records alike in the choices at every node of lower cost than `u`'s. -/
def AgreeBelow (nodes : List NodeWork) (u : Nat) (a b : List Heading) : Prop :=
  ∀ v, costLt (workAt nodes v).cost (workAt nodes u).cost = true →
    headingAt { records := a, seeds := [] } v = headingAt { records := b, seeds := [] } v

theorem arcCandidate_congr {a b : List Heading} (h : AgreeBelow nodes u a b) (w : List Nat) (k : Nat) (l : LinkRec) :
    arcCandidate w nodes a u k l = arcCandidate w nodes b u k l := by
  unfold arcCandidate
  split
  · rfl
  · next v _ =>
    split
    · next hlt => rw [h v hlt]
    · rfl

theorem selectNode_congr {a b : List Heading} (h : AgreeBelow nodes u a b) :
    selectNode p snap nodes prev a u = selectNode p snap nodes prev b u := by
  have hc : candidates p snap nodes a u = candidates p snap nodes b u := by
    simp only [candidates, arcCandidate_congr h]
  simp only [selectNode, hc]

theorem selectHeadings_eq (p : Plan) (snap : Snapshot) (nodes : List NodeWork) (prev : Option HeadingSet) :
    selectHeadings p snap nodes prev =
      settleAll (selectNode p snap nodes prev) (costOrder nodes) (unsettled nodes.length) := rfl

@[simp] theorem selectHeadings_length (p : Plan) (snap : Snapshot) (nodes : List NodeWork) (prev : Option HeadingSet) :
    (selectHeadings p snap nodes prev).length = nodes.length := by
  simp [selectHeadings_eq, unsettled]

/-- The finished record of a node is what it selects among the finished records: those of lower cost, the only ones it
looks at, were settled before it and stay. -/
theorem headingAt_selectHeadings (seeds : List SeedNote) (hu : u < nodes.length) :
    headingAt { records := selectHeadings p snap nodes prev, seeds := seeds } u =
      selectNode p snap nodes prev (selectHeadings p snap nodes prev) u := by
  have hmem : u ∈ costOrder nodes := (costOrder_perm nodes).mem_iff.2 (List.mem_range.2 hu)
  obtain ⟨before, after, horder⟩ := List.append_of_mem hmem
  have hnodup : (before ++ u :: after).Nodup := horder ▸ costOrder_nodup nodes
  have hsorted : CostSorted nodes (before ++ u :: after) := horder ▸ costOrder_sorted nodes
  have hnow : (selectHeadings p snap nodes prev)[u]? = some (selectNode p snap nodes prev
      (settleAll (selectNode p snap nodes prev) before (unsettled nodes.length)) u) := by
    rw [selectHeadings_eq, horder, settleAll_getElem? _ hnodup _ (by simpa [unsettled] using hu)]
  have hagree : AgreeBelow nodes u (settleAll (selectNode p snap nodes prev) before (unsettled nodes.length))
      (selectHeadings p snap nodes prev) := by
    intro v hlt
    have hlater : v ∉ u :: after := by
      intro hv
      rcases List.mem_cons.1 hv with rfl | hv
      · simp at hlt
      · have hle := (List.pairwise_cons.1 (List.pairwise_append.1 hsorted).2.1).1 v hv
        rw [hlt] at hle
        cases hle
    have hstays := settleAll_getElem?_of_not_mem (selectNode p snap nodes prev) hlater
      (settleAll (selectNode p snap nodes prev) before (unsettled nodes.length))
    simp only [headingAt, List.getD_eq_getElem?_getD, ← hstays, selectHeadings_eq, horder]
    simp [settleAll]
  rw [← selectNode_congr hagree]
  simp [headingAt, hnow]

/-- A node outside the table has no record. -/
theorem headingAt_selectHeadings_of_le (seeds : List SeedNote) (hu : nodes.length ≤ u) :
    headingAt { records := selectHeadings p snap nodes prev, seeds := seeds } u =
      { cost := unreachable, choice := .none, changed := false } := by
  simp [headingAt, hu, unreachable]

end

/-! ## The candidates of a node (R90) -/

section
variable {p : Plan} {snap : Snapshot} {nodes : List NodeWork} {prev : Option HeadingSet} {chosen : List Heading}
  {u : Nat}

/-- Link `k` gives node `u` a candidate of cost `c` with this origin and hop, among these records. -/
def ArcGives (p : Plan) (snap : Snapshot) (nodes : List NodeWork) (chosen : List Heading) (u k : Nat) (c : Cost)
    (route : Nat × Nat) : Prop :=
  ∃ l v, p.links[k]? = some l ∧ farNode l u = some v ∧ costLt (workAt nodes v).cost (workAt nodes u).cost = true ∧
    routeOf (headingAt { records := chosen, seeds := [] } v).choice = some route ∧
    c = extend (workAt nodes v).cost (arcCost snap.weights l)

/-- A link gives one candidate at most. -/
theorem ArcGives.unique {k : Nat} {c d : Cost} {route other : Nat × Nat} (h : ArcGives p snap nodes chosen u k c route)
    (h' : ArcGives p snap nodes chosen u k d other) : c = d ∧ route = other := by
  obtain ⟨l, v, hl, hv, _, hr, rfl⟩ := h
  obtain ⟨l', v', hl', hv', _, hr', rfl⟩ := h'
  cases hl.symm.trans hl'
  cases hv.symm.trans hv'
  exact ⟨rfl, Option.some.inj (hr.symm.trans hr')⟩

theorem arcCandidate_iff (w : List Nat) (k : Nat) (l : LinkRec) (c : RouteCandidate) :
    arcCandidate w nodes chosen u k l = some c ↔
      ∃ v, farNode l u = some v ∧ costLt (workAt nodes v).cost (workAt nodes u).cost = true ∧
        routeOf (headingAt { records := chosen, seeds := [] } v).choice = some c.route ∧
        c.link = some k ∧ c.cost = extend (workAt nodes v).cost (arcCost w l) := by
  obtain ⟨link, cost, route⟩ := c
  unfold arcCandidate
  cases farNode l u with
  | none => simp
  | some v =>
    simp only [Option.some.injEq, exists_eq_left']
    split
    · next hlt =>
      split
      · next r hr => simp [hlt, hr, eq_comm, and_comm, and_left_comm]
      · next hr => simp [hr]
    · next hlt => simp [hlt]

/-- The candidate that a node's seed is. -/
def seedCandidate (sd : Seed) : RouteCandidate := { link := none, cost := sd.cost, route := (sd.exit, sd.hop) }

theorem candidates_eq (p : Plan) (snap : Snapshot) (nodes : List NodeWork) (chosen : List Heading) (u : Nat) :
    candidates p snap nodes chosen u = ((nodeSeed p snap u).map seedCandidate).toList ++
      p.links.zipIdx.filterMap fun lk => arcCandidate snap.weights nodes chosen u lk.2 lk.1 := by
  unfold candidates
  cases nodeSeed p snap u <;> rfl

theorem mem_candidates_iff (c : RouteCandidate) :
    c ∈ candidates p snap nodes chosen u ↔
      (∃ sd, nodeSeed p snap u = some sd ∧ c = seedCandidate sd) ∨
        ∃ k, c.link = some k ∧ ArcGives p snap nodes chosen u k c.cost c.route := by
  rw [candidates_eq, List.mem_append, Option.mem_toList, List.mem_filterMap]
  refine or_congr ?_ ⟨?_, ?_⟩
  · rw [Option.map_eq_some_iff]
    exact exists_congr fun _ => and_congr_right fun _ => eq_comm
  · rintro ⟨⟨l, k⟩, hlk, hc⟩
    obtain ⟨v, hv, hlt, hroute, hlink, hcost⟩ := (arcCandidate_iff _ _ _ _).1 hc
    exact ⟨k, hlink, l, v, List.mem_zipIdx_iff_getElem?.1 hlk, hv, hlt, hroute, hcost⟩
  · rintro ⟨k, hlink, l, v, hl, hv, hlt, hroute, hcost⟩
    exact ⟨(l, k), List.mem_zipIdx_iff_getElem?.2 hl, (arcCandidate_iff _ _ _ _).2 ⟨v, hv, hlt, hroute, hlink, hcost⟩⟩

theorem ArcGives.mem_candidates {k : Nat} {c : Cost} {route : Nat × Nat}
    (h : ArcGives p snap nodes chosen u k c route) :
    { link := some k, cost := c, route := route } ∈ candidates p snap nodes chosen u :=
  (mem_candidates_iff _).2 (.inr ⟨k, rfl, h⟩)

/-- The candidate `b` stands for a link, and `a` for the seed or a link of lower index. -/
def ComesBefore (a b : RouteCandidate) : Prop := ∃ k, b.link = some k ∧ ∀ j, a.link = some j → j < k

/-- The seed comes first and then the arcs by rising link index (R90). -/
theorem candidates_ordered : (candidates p snap nodes chosen u).Pairwise ComesBefore := by
  have hidx : p.links.zipIdx.Pairwise fun a b => a.2 < b.2 := by
    rw [← List.pairwise_map (f := Prod.snd), List.zipIdx_map_snd]
    exact List.pairwise_lt_range'
  rw [candidates_eq, List.pairwise_append]
  refine ⟨?_, List.pairwise_filterMap.2 (hidx.imp fun hlt c hc d hd => ?_), fun a ha d hd => ?_⟩
  · cases nodeSeed p snap u <;> simp
  · obtain ⟨_, _, _, _, hclink, _⟩ := (arcCandidate_iff _ _ _ _).1 hc
    obtain ⟨_, _, _, _, hdlink, _⟩ := (arcCandidate_iff _ _ _ _).1 hd
    refine ⟨_, hdlink, fun j hj => ?_⟩
    cases hclink.symm.trans hj
    exact hlt
  · obtain ⟨lk, _, hd⟩ := List.mem_filterMap.1 hd
    obtain ⟨_, _, _, _, hdlink, _⟩ := (arcCandidate_iff _ _ _ _).1 hd
    obtain ⟨sd, _, rfl⟩ := Option.map_eq_some_iff.1 (Option.mem_toList.1 ha)
    exact ⟨_, hdlink, fun j hj => by cases hj⟩

/-! ## The best candidate and the held one (R91, R92) -/

theorem bestCandidate_eq_none_iff (cs : List RouteCandidate) : bestCandidate cs = none ↔ cs = [] := by
  cases cs with
  | nil => simp [bestCandidate]
  | cons c rest =>
    unfold bestCandidate
    split
    · simp
    · split <;> simp

/-- The best candidate is one of them, none is lower, and those of its cost come after it in any order that the list
follows. -/
theorem bestCandidate_spec {R : RouteCandidate → RouteCandidate → Prop} {cs : List RouteCandidate}
    (hord : cs.Pairwise R) : ∀ {b : RouteCandidate}, bestCandidate cs = some b →
    b ∈ cs ∧ (∀ c ∈ cs, costLt c.cost b.cost = false) ∧ ∀ c ∈ cs, c.cost = b.cost → c = b ∨ R b c := by
  induction cs with
  | nil => exact fun h => by cases h
  | cons c rest ih =>
    intro b hb
    obtain ⟨hc, hrest⟩ := List.pairwise_cons.1 hord
    unfold bestCandidate at hb
    split at hb
    · next hnone =>
      cases hb
      rw [bestCandidate_eq_none_iff] at hnone
      subst hnone
      simp
    · next d hd =>
      obtain ⟨hmem, hmin, hfirst⟩ := ih hrest hd
      split at hb <;> cases hb
      · next hlt =>
        refine ⟨.tail _ hmem, fun e he => ?_, fun e he heq => ?_⟩ <;> rcases List.mem_cons.1 he with rfl | he
        · exact costLt_asymm hlt
        · exact hmin e he
        · rw [heq, costLt_self] at hlt
          cases hlt
        · exact hfirst e he heq
      · next hlt =>
        rw [Bool.not_eq_true] at hlt
        refine ⟨.head _, fun e he => ?_, fun e he _ => ?_⟩ <;> rcases List.mem_cons.1 he with rfl | he
        · exact costLt_self _
        · exact not_costLt_trans (hmin e he) hlt
        · exact .inl rfl
        · exact .inr (hc e he)

/-- What hysteresis holds is a candidate for the previous heading's link, of the best exposure and within the margin. -/
theorem heldCandidate_spec {margin : Nat} {before : Choice} {best c : RouteCandidate} {cs : List RouteCandidate}
    (h : heldCandidate margin before best cs = some c) :
    c ∈ cs ∧ (∃ k o hop, before = .link k o hop ∧ c.link = some k) ∧ c.cost.x = best.cost.x ∧
      c.cost.d ≤ best.cost.d + margin := by
  unfold heldCandidate at h
  split at h
  · next k o hop =>
    split at h
    · next d hd =>
      split at h <;> cases h
      next hwithin =>
      exact ⟨List.mem_of_find?_eq_some hd, ⟨k, o, hop, rfl, by simpa using List.find?_some hd⟩, hwithin⟩
    · cases h
  · cases h

/-! ## The record that a node selects (R91 to R94) -/

/-- The candidate that a node takes: the one that hysteresis holds, or the best. -/
def pickedCandidate (margin : Nat) (before : Choice) (best : RouteCandidate) (cs : List RouteCandidate) :
    RouteCandidate :=
  (heldCandidate margin before best cs).getD best

theorem selectNode_none
    (h : (workAt nodes u).cost = unreachable ∨ candidates p snap nodes chosen u = []) :
    selectNode p snap nodes prev chosen u =
      { cost := unreachable, choice := .none, changed := choiceChanged (previousChoice prev u) .none } := by
  unfold selectNode
  by_cases hu : (workAt nodes u).cost = unreachable
  · simp [hu]
  · simp [h.resolve_left hu, hu, bestCandidate]

theorem selectNode_picks {best : RouteCandidate} (hu : (workAt nodes u).cost ≠ unreachable)
    (hb : bestCandidate (candidates p snap nodes chosen u) = some best) :
    selectNode p snap nodes prev chosen u =
      let picked := pickedCandidate p.header.margin (previousChoice prev u) best (candidates p snap nodes chosen u)
      { cost := (workAt nodes u).cost, choice := choiceOf picked
        changed := choiceChanged (previousChoice prev u) (choiceOf picked) } := by
  simp [selectNode, hu, hb, pickedCandidate]

/-- A node selects NONE with UNREACHABLE, or the choice of one of its candidates with its own reachable cost. -/
theorem selectNode_cases (p : Plan) (snap : Snapshot) (nodes : List NodeWork) (prev : Option HeadingSet)
    (chosen : List Heading) (u : Nat) :
    ((selectNode p snap nodes prev chosen u).choice = .none ∧
      (selectNode p snap nodes prev chosen u).cost = unreachable) ∨
    ∃ c ∈ candidates p snap nodes chosen u, (selectNode p snap nodes prev chosen u).choice = choiceOf c ∧
      (selectNode p snap nodes prev chosen u).cost = (workAt nodes u).cost ∧ (workAt nodes u).cost ≠ unreachable := by
  by_cases hu : (workAt nodes u).cost = unreachable
  · rw [selectNode_none (.inl hu)]
    exact .inl ⟨rfl, rfl⟩
  · cases hb : bestCandidate (candidates p snap nodes chosen u) with
    | none =>
      rw [selectNode_none (.inr ((bestCandidate_eq_none_iff _).1 hb))]
      exact .inl ⟨rfl, rfl⟩
    | some best =>
      rw [selectNode_picks hu hb]
      refine .inr ⟨_, ?_, rfl, rfl, hu⟩
      unfold pickedCandidate
      cases hheld : heldCandidate p.header.margin (previousChoice prev u) best (candidates p snap nodes chosen u) with
      | none => exact (bestCandidate_spec candidates_ordered hb).1
      | some c => exact (heldCandidate_spec hheld).1

theorem choiceOf_ne_none (c : RouteCandidate) : choiceOf c ≠ .none := by
  unfold choiceOf
  split <;> simp

theorem choiceOf_eq_link_iff (c : RouteCandidate) (k o hop : Nat) :
    choiceOf c = .link k o hop ↔ c.link = some k ∧ c.route = (o, hop) := by
  unfold choiceOf
  obtain ⟨link, cost, o', hop'⟩ := c
  cases link <;> simp

end

/-! ## The finished set descends (R93) -/

section
variable {p : Plan} {snap : Snapshot} {nodes : List NodeWork} {prev : Option HeadingSet}

/-- A record with a heading carries its node's cost. -/
theorem selectHeadings_cost {seeds : List SeedNote} {v : Nat}
    (h : (headingAt { records := selectHeadings p snap nodes prev, seeds := seeds } v).choice ≠ .none) :
    (headingAt { records := selectHeadings p snap nodes prev, seeds := seeds } v).cost = (workAt nodes v).cost := by
  rcases Nat.lt_or_ge v nodes.length with hv | hv
  · rw [headingAt_selectHeadings seeds hv] at h ⊢
    rcases selectNode_cases p snap nodes prev (selectHeadings p snap nodes prev) v with ⟨hnone, _⟩ | ⟨_, _, _, hcost, _⟩
    · exact absurd hnone h
    · exact hcost
  · rw [headingAt_selectHeadings_of_le seeds hv] at h
    exact absurd rfl h

/-- The guard admits an arc only toward a node of lower cost whose record has a heading, and the record takes its origin
and hop from there. -/
theorem setDescends_selectHeadings (seeds : List SeedNote) :
    SetDescends p { records := selectHeadings p snap nodes prev, seeds := seeds } := by
  intro u k o hop hlink
  have hcost : (headingAt { records := selectHeadings p snap nodes prev, seeds := seeds } u).cost = _ :=
    selectHeadings_cost (by simp [hlink])
  rw [hcost]
  rcases Nat.lt_or_ge u nodes.length with hu | hu
  · rw [headingAt_selectHeadings seeds hu] at hlink
    rcases selectNode_cases p snap nodes prev (selectHeadings p snap nodes prev) u with ⟨hnone, _⟩ | ⟨c, hc, hchoice, _⟩
    · rw [hnone] at hlink
      cases hlink
    · obtain ⟨hk, hroute⟩ := (choiceOf_eq_link_iff c k o hop).1 (hchoice.symm.trans hlink)
      rcases (mem_candidates_iff c).1 hc with ⟨sd, _, rfl⟩ | ⟨j, hj, l, v, hl, hv, hlt, hr, _⟩
      · cases hk
      · cases hj.symm.trans hk
        rw [hroute] at hr
        refine ⟨l, v, hl, hv, ?_, hr⟩
        rw [selectHeadings_cost fun hnone => ?_]
        · exact hlt
        · rw [show headingAt { records := selectHeadings p snap nodes prev, seeds := [] } v =
            headingAt { records := selectHeadings p snap nodes prev, seeds := seeds } v from rfl, hnone] at hr
          cases hr
  · rw [headingAt_selectHeadings_of_le seeds hu] at hlink
    cases hlink

end

end Sys2Proof.Machine
end

section
/-! SUPPORT. The record that a node's candidates and its previous heading give it (R91 to R95), and what relaxation and
selection come to: O55. -/

namespace Sys2Proof.Machine

/-! ## Which candidate is best, and which is held (R91, R92) -/

section
variable {p : Plan} {snap : Snapshot} {nodes : List NodeWork} {prev : Option HeadingSet} {chosen : List Heading}
  {u : Nat} {b : Cost}

/-- The cost `b` is a candidate's of node `u`, and no candidate is lower. -/
def BestCost (p : Plan) (snap : Snapshot) (nodes : List NodeWork) (chosen : List Heading) (u : Nat) (b : Cost) : Prop :=
  ((∃ sd, nodeSeed p snap u = some sd ∧ sd.cost = b) ∨ ∃ k route, ArcGives p snap nodes chosen u k b route) ∧
    (∀ sd, nodeSeed p snap u = some sd → costLt sd.cost b = false) ∧
    ∀ k d route, ArcGives p snap nodes chosen u k d route → costLt d b = false

/-- The best candidate of a node has the best cost. -/
theorem BestCost.exists_best (h : BestCost p snap nodes chosen u b) :
    ∃ c, bestCandidate (candidates p snap nodes chosen u) = some c ∧ c.cost = b := by
  obtain ⟨hsome, hseed, harc⟩ := h
  obtain ⟨d, hd, hdb⟩ : ∃ d ∈ candidates p snap nodes chosen u, d.cost = b := by
    rcases hsome with ⟨sd, hsd, hb⟩ | ⟨k, route, hk⟩
    · exact ⟨seedCandidate sd, (mem_candidates_iff _).2 (.inl ⟨sd, hsd, rfl⟩), hb⟩
    · exact ⟨_, hk.mem_candidates, rfl⟩
  cases hc : bestCandidate (candidates p snap nodes chosen u) with
  | none =>
    rw [(bestCandidate_eq_none_iff _).1 hc] at hd
    cases hd
  | some c =>
    obtain ⟨hmem, hmin, _⟩ := bestCandidate_spec candidates_ordered hc
    refine ⟨c, rfl, cost_eq_of_not_costLt ?_ (hdb ▸ hmin d hd)⟩
    rcases (mem_candidates_iff _).1 hmem with ⟨sd, hsd, rfl⟩ | ⟨k, _, hk⟩
    · exact hseed sd hsd
    · exact harc k _ _ hk

/-- A seed of the best cost is the best candidate, being the first. -/
theorem bestCandidate_eq_seed {c : RouteCandidate} {sd : Seed}
    (hc : bestCandidate (candidates p snap nodes chosen u) = some c) (hsd : nodeSeed p snap u = some sd)
    (hcost : sd.cost = c.cost) : c = seedCandidate sd := by
  obtain ⟨_, _, hfirst⟩ := bestCandidate_spec candidates_ordered hc
  rcases hfirst (seedCandidate sd) ((mem_candidates_iff _).2 (.inl ⟨sd, hsd, rfl⟩)) hcost with h | ⟨k, hk, _⟩
  · exact h.symm
  · cases hk

/-- With no seed of the best cost the best candidate is the first arc of it. -/
theorem bestCandidate_eq_arc {c : RouteCandidate} {k : Nat} {route : Nat × Nat}
    (hc : bestCandidate (candidates p snap nodes chosen u) = some c)
    (hno : ∀ sd, nodeSeed p snap u = some sd → sd.cost ≠ c.cost) (hk : ArcGives p snap nodes chosen u k c.cost route)
    (hlower : ∀ j other, j < k → ¬ ArcGives p snap nodes chosen u j c.cost other) :
    c = { link := some k, cost := c.cost, route := route } := by
  obtain ⟨hmem, _, hfirst⟩ := bestCandidate_spec candidates_ordered hc
  rcases hfirst _ hk.mem_candidates rfl with h | ⟨j, hj, hbefore⟩
  · exact h.symm
  · cases hj
    rcases (mem_candidates_iff _).1 hmem with ⟨sd, hsd, rfl⟩ | ⟨i, hi, harc⟩
    · exact absurd rfl (hno sd hsd)
    · exact absurd harc (hlower i _ (hbefore i hi))

/-- Hysteresis holds the previous heading's link when its candidate has the best exposure and is within the margin. -/
theorem heldCandidate_eq_some {margin k o hop : Nat} {best : RouteCandidate} {c : Cost} {route : Nat × Nat}
    (hk : ArcGives p snap nodes chosen u k c route) (hx : c.x = best.cost.x) (hd : c.d ≤ best.cost.d + margin) :
    heldCandidate margin (.link k o hop) best (candidates p snap nodes chosen u) =
      some { link := some k, cost := c, route := route } := by
  have hfind : (candidates p snap nodes chosen u).find? (fun d => decide (d.link = some k)) =
      some { link := some k, cost := c, route := route } := by
    cases hf : (candidates p snap nodes chosen u).find? fun d => decide (d.link = some k) with
    | none => simpa using List.find?_eq_none.1 hf _ hk.mem_candidates
    | some d =>
      have hlink : d.link = some k := by simpa using List.find?_some hf
      rcases (mem_candidates_iff _).1 (List.mem_of_find?_eq_some hf) with ⟨sd, _, rfl⟩ | ⟨j, hj, harc⟩
      · cases hlink
      · cases hj.symm.trans hlink
        obtain ⟨hcost, hroute⟩ := harc.unique hk
        rw [← hcost, ← hroute, ← hlink]
  simp [heldCandidate, hfind, hx, hd]

/-- Hysteresis holds nothing when the previous heading's link, if it was one, has no such candidate. -/
theorem heldCandidate_eq_none {margin : Nat} {before : Choice} {best : RouteCandidate}
    (h : ∀ k o hop c route, before = .link k o hop → ArcGives p snap nodes chosen u k c route → c.x = best.cost.x →
      ¬ c.d ≤ best.cost.d + margin) :
    heldCandidate margin before best (candidates p snap nodes chosen u) = none := by
  cases hheld : heldCandidate margin before best (candidates p snap nodes chosen u) with
  | none => rfl
  | some c =>
    obtain ⟨hmem, ⟨k, o, hop, hbefore, hlink⟩, hx, hd⟩ := heldCandidate_spec hheld
    rcases (mem_candidates_iff _).1 hmem with ⟨sd, _, rfl⟩ | ⟨j, hj, harc⟩
    · cases hlink
    · cases hj.symm.trans hlink
      exact absurd hd (h _ _ _ _ _ hbefore harc hx)

/-- A record of kind NONE is marked changed where the previous one was not (R94). -/
theorem choiceChanged_none (before : Choice) : choiceChanged before .none = decide (before ≠ .none) := by
  cases before <;> simp [choiceChanged]

/-! ## The record selected, by what is best and what is held (R91, R92, R94) -/

theorem selectNode_no_candidate (hseed : nodeSeed p snap u = none)
    (harc : ∀ k c route, ¬ ArcGives p snap nodes chosen u k c route) :
    selectNode p snap nodes prev chosen u =
      { cost := unreachable, choice := .none, changed := choiceChanged (previousChoice prev u) .none } := by
  refine selectNode_none (.inr (List.eq_nil_iff_forall_not_mem.2 fun c hc => ?_))
  rcases (mem_candidates_iff _).1 hc with ⟨sd, hsd, _⟩ | ⟨k, _, hk⟩
  · rw [hseed] at hsd
    cases hsd
  · exact harc k _ _ hk

/-- The previous heading's link is held. -/
theorem selectNode_held {k o hop : Nat} {c : Cost} {route : Nat × Nat} (hu : (workAt nodes u).cost ≠ unreachable)
    (hb : BestCost p snap nodes chosen u b) (hprev : previousChoice prev u = .link k o hop)
    (hk : ArcGives p snap nodes chosen u k c route) (hx : c.x = b.x) (hd : c.d ≤ b.d + p.header.margin) :
    selectNode p snap nodes prev chosen u =
      { cost := (workAt nodes u).cost, choice := .link k route.1 route.2, changed := false } := by
  obtain ⟨best, hbest, rfl⟩ := hb.exists_best
  rw [selectNode_picks hu hbest, pickedCandidate, hprev, heldCandidate_eq_some hk hx hd]
  simp [choiceOf, choiceChanged]

/-- Where nothing is held the best candidate is taken. -/
theorem selectNode_best {c : RouteCandidate} (hu : (workAt nodes u).cost ≠ unreachable)
    (hc : bestCandidate (candidates p snap nodes chosen u) = some c)
    (hfree : ∀ k o hop d route, previousChoice prev u = .link k o hop → ArcGives p snap nodes chosen u k d route →
      d.x = c.cost.x → ¬ d.d ≤ c.cost.d + p.header.margin) :
    selectNode p snap nodes prev chosen u =
      { cost := (workAt nodes u).cost, choice := choiceOf c
        changed := choiceChanged (previousChoice prev u) (choiceOf c) } := by
  rw [selectNode_picks hu hc, pickedCandidate, heldCandidate_eq_none hfree]
  rfl

end

/-- Settles O55: arc costs by width class, tries by whether the candidate is lower, the passes by induction on how many
are left, and each record by the candidates of its node among the finished records. -/
theorem arc_costs_and_relaxation : Obligations.arc_costs_and_relaxation := by
  refine ⟨fun weights l => ?_, fun z => ?_, fun weights nodes => ⟨rfl, fun l rest => ?_⟩,
    fun arc to_ from_ nodes hto => ?_, fun weights links left made nodes => ?_, fun p snap nodes prev => ?_,
    fun p snap nodes prev => ?_⟩
  · have hbounds := arcDistance_bounds l
    refine ⟨rfl, fun h => ?_, fun h => ?_, fun h => ?_, fun h => ?_⟩ <;> rw [h] at hbounds <;>
      simp only [widthFactor, arcCost] at * <;> omega
  · refine ⟨fun h => ?_, ?_, fun h => ?_⟩
    · simp [zoneWeight, h]
    · rintro (h | h) <;> simp [zoneWeight, h]
    · simp [zoneWeight, h]
  · intro arc towardA towardB
    exact congrArg (relaxPass weights rest) (relaxLink_eq weights nodes l)
  · intro far near candidate lower t
    refine ⟨fun hlower => ?_, fun hno => ?_, relaxTry_length arc to_ from_ nodes,
      fun u hu => workAt_relaxTry_ne arc to_ from_ nodes hu⟩
    · have ht := relaxTry_takes arc to_ from_ nodes ((costLt_iff _ _).2 hlower)
      exact (congrArg (workAt · to_) ht).trans (workAt_set_self nodes hto _)
    · exact relaxTry_keeps arc to_ from_ nodes (Bool.eq_false_iff.2 fun h => hno ((costLt_iff _ _).1 h))
  · intro r
    obtain ⟨hlen, hcount, hfalls, hsettled, hused⟩ := passesOk_relax weights links left made nodes
    refine ⟨hlen, hcount, hfalls, fun hlim => ⟨hsettled hlim, fun l hl ha hb => ?_⟩, hused, fun h => ?_,
      fun fewer h => ?_⟩
    · exact no_lower_of_relaxLink_eq (relaxLink_eq_of_relaxPass_eq (hsettled hlim) l hl) (hlen ▸ ha) (hlen ▸ hb)
    · subst h
      exact relax_zero weights links made nodes
    · subst h
      exact ⟨relax_ends weights links fewer made, relax_goes_on weights links fewer made⟩
  · obtain ⟨_, hcount, _, _, hused⟩ := passesOk_relax snap.weights p.links p.header.nodeCount 0 nodes
    rw [Nat.zero_add] at hcount hused
    exact ⟨rfl, hcount, hused, rfl⟩
  · intro set
    refine ⟨selectHeadings_length p snap nodes prev, fun u hu => ?_⟩
    intro own seed before wasLink wasSeed arc best none_
    have hrecord : headingAt set u = selectNode p snap nodes prev set.records u := headingAt_selectHeadings [] hu
    have hbefore : previousChoice prev u = before := by cases prev <;> rfl
    clear_value before
    have hwas (k : Nat) : wasLink k = true ↔ ∃ o hop, before = .link k o hop := by
      cases before <;> simp [wasLink]
    have hseed (o hop : Nat) : choiceChanged before (.seed o hop) = !wasSeed := by cases before <;> rfl
    have hlink (k o hop : Nat) : choiceChanged before (.link k o hop) = !wasLink k := by
      cases before <;> simp [choiceChanged, wasLink]
    rw [hrecord]
    refine ⟨fun hblank => ?_, fun hu b hb => ?_, ?_⟩
    · rw [show none_ = { cost := unreachable, choice := .none, changed := choiceChanged (previousChoice prev u) .none }
        from by rw [hbefore, choiceChanged_none]]
      rcases hblank with hun | ⟨hseed, harc⟩
      · exact selectNode_none (.inl hun)
      · exact selectNode_no_candidate hseed harc
    · intro holds
      have hb' : BestCost p snap nodes set.records u b := hb
      obtain ⟨c, hc, rfl⟩ := hb'.exists_best
      refine ⟨fun k route hk => ?_, fun hfree => ?_⟩
      · obtain ⟨hwask, d, harc, hx, hd⟩ := hk
        obtain ⟨o, hop, hprev⟩ := (hwas k).1 hwask
        exact selectNode_held hu hb' (hbefore.trans hprev) harc hx hd
      · have hpick := selectNode_best (prev := prev) hu hc fun k o hop d route hprev harc hx hd =>
          hfree k route ⟨(hwas k).2 ⟨o, hop, hbefore.symm.trans hprev⟩, d, harc, hx, hd⟩
        rw [hbefore] at hpick
        rw [hpick]
        refine ⟨fun sd hsd hcost => ?_, fun hno k route harc hlower => ?_⟩
        · rw [bestCandidate_eq_seed hc hsd hcost]
          simp [choiceOf, seedCandidate, hseed, own]
        · rw [bestCandidate_eq_arc hc hno harc hlower]
          simp [choiceOf, hlink, own]
    · rcases selectNode_cases p snap nodes prev set.records u with ⟨hnone, hcost⟩ | ⟨c, _, hchoice, hcost, hun⟩
      · simp [hnone, hcost]
      · simp [hchoice, hcost, hun, choiceOf_ne_none]

end Sys2Proof.Machine
end

section
/-! SUPPORT. Every step keeps the published set descending (R93): only a publication publishes a set, a swap and a reset
drop it, and no other command touches it or the active plan: O11. -/

namespace Sys2Proof.Machine

/-! ## What leaves the published set -/

section
variable (s : State)

@[simp] theorem wantSolve_published : (wantSolve s).rsv.published = s.rsv.published := rfl

@[simp] theorem wantSolveIf_published (c : Bool) : (wantSolveIf c s).rsv.published = s.rsv.published := by
  unfold wantSolveIf
  split <;> rfl

@[simp] theorem zoneChanged_published (zone : Nat) (a b : ZoneState) :
    (zoneChanged zone a b s).rsv.published = s.rsv.published := by
  simp [zoneChanged]

@[simp] theorem updateZone_published (zone : Nat) (a b : ZoneRun) :
    (updateZone zone a b s).rsv.published = s.rsv.published := by
  unfold updateZone
  split <;> simp

@[simp] theorem evaluateZone_published (zone : Nat) (peak : Level) :
    (evaluateZone zone peak s).rsv.published = s.rsv.published := by
  unfold evaluateZone
  split <;> simp

@[simp] theorem setPort_published (port : PeerPort) (st : PortState) (adv : Nat → Option Advertisement) :
    (setPort port st adv s).rsv.published = s.rsv.published := by
  simp [setPort]

@[simp] theorem solveStart_published : (solveStart s).rsv.published = s.rsv.published := by
  unfold solveStart
  (repeat' split) <;> rfl

end

/-! ## What a change keeps -/

/-- The change from `s` to `t` keeps the published set descending in the active plan. -/
def KeepsPublished (s t : State) : Prop := PublishedOk s → PublishedOk t

/-- The parts of a state of which the property speaks. -/
def publishedParts (s : State) : Option Plan × Option HeadingSet := (s.ps.active, s.rsv.published)

namespace KeepsPublished

variable {s t u : State}

theorem refl (s : State) : KeepsPublished s s := id

theorem trans (h : KeepsPublished s t) (h' : KeepsPublished t u) : KeepsPublished s u := h' ∘ h

/-- A change that leaves the active plan and the published set. -/
theorem of_same (h : publishedParts t = publishedParts s) : KeepsPublished s t := by
  obtain ⟨ha, hp⟩ := Prod.mk.inj h
  intro ok p set hplan hset
  exact ok p set (ha ▸ hplan) (hp ▸ hset)

/-- A change made on a state that has those parts of another. -/
theorem after (h : KeepsPublished t u) (e : publishedParts t = publishedParts s) : KeepsPublished s u :=
  (of_same e).trans h

/-- A change followed by one that leaves those parts. -/
theorem then_same (h : KeepsPublished s t) (e : publishedParts u = publishedParts t) : KeepsPublished s u :=
  h.trans (of_same e)

/-- A change to a state with nothing published. -/
theorem of_unpublished (h : t.rsv.published = none) : KeepsPublished s t := by
  intro _ p set _ hset
  rw [h] at hset
  cases hset

/-- A change, or another that a condition puts in its place. -/
theorem ite {c : Prop} [Decidable c] (h : KeepsPublished s t) (h' : KeepsPublished s u) :
    KeepsPublished s (if c then t else u) := by
  split
  · exact h
  · exact h'

/-- A run of changes that each keep the property. -/
theorem foldl {α : Type} {f : State → α → State} (hf : ∀ s x, KeepsPublished s (f s x)) (xs : List α) :
    ∀ s : State, KeepsPublished s (xs.foldl f s) := by
  induction xs with
  | nil => exact refl
  | cons x xs ih => exact fun s => (hf s x).trans (ih _)

/-- What happens to a running part. -/
theorem whenRunning {f : State → State} (hf : ∀ s, KeepsPublished s (f s)) (s : State) :
    KeepsPublished s (whenRunning f s) := ite (hf s) (refl s)

end KeepsPublished

section
variable (s : State)

/-! ## Detector Intake, zones and takes -/

theorem keepsPublished_onLine (id : LineId) (f : LineRec → LineRec) : KeepsPublished s (s.onLine id f) := .of_same rfl

theorem keepsPublished_setLock (n : LockState × Nat × Nat) (t : Timer) (p : Option Nat) :
    KeepsPublished s (setLock n t p s) := .of_same (by simp [publishedParts])

theorem keepsPublished_detectorValid (f : DetectorFrame) : KeepsPublished s (detectorValid f s) := by
  cases f with
  | supervise panel => exact keepsPublished_setLock s _ _ _
  | report a l q =>
    have hlock := keepsPublished_setLock s (lockAfterValid s.di) (some (silenceTicks s)) s.di.panel
    exact .ite (hlock.then_same (by simp [publishedParts])) hlock

theorem keepsPublished_detectorInvalid (err : Bool) : KeepsPublished s (detectorInvalid err s) := by
  cases err with
  | false => exact keepsPublished_setLock s _ _ _
  | true => exact (keepsPublished_setLock _ _ _ _).after (t := capture .lineCharError 1 s) rfl

theorem keepsPublished_detectorEvent (e : RxEvent) : KeepsPublished s (detectorEvent s e) := by
  unfold detectorEvent
  split
  · exact keepsPublished_detectorInvalid s _
  · refine .ite (keepsPublished_detectorInvalid s _) ?_
    split
    · exact keepsPublished_detectorValid s _
    · exact keepsPublished_detectorInvalid s _

theorem keepsPublished_detectorChar (c : RxChar) : KeepsPublished s (detectorChar s c) := by
  unfold detectorChar
  dsimp only
  split
  · exact .refl s
  · exact (keepsPublished_onLine s _ _).trans (.foldl keepsPublished_detectorEvent _ _)

theorem keepsPublished_silenceExpiry : KeepsPublished s (silenceExpiry s) :=
  .ite (.of_same (by simp [publishedParts])) (.refl s)

theorem keepsPublished_setChannel (n : Fin 8) (c : Channel) : KeepsPublished s (setChannel n c s) := .of_same rfl

theorem keepsPublished_acceptChange (n : Fin 8) : KeepsPublished s (acceptChange n s) :=
  .of_same (by
    unfold acceptChange contactReport
    dsimp only
    (repeat' split) <;> simp [publishedParts])

theorem keepsPublished_widthLimit (n : Fin 8) : KeepsPublished s (widthLimit n s) :=
  .of_same (by
    unfold widthLimit contactReport
    dsimp only
    (repeat' split) <;> simp [publishedParts])

theorem keepsPublished_sampleContacts (levels : BitVec 8) : KeepsPublished s (sampleContacts levels s) :=
  .foldl (fun s n => ((keepsPublished_acceptChange s n).trans (keepsPublished_widthLimit _ n)).trans
    (keepsPublished_setChannel _ _ _)) _ s

theorem keepsPublished_takeBegin : KeepsPublished s (takeBegin s) :=
  .of_same (by unfold takeBegin; (repeat' split) <;> rfl)

theorem keepsPublished_evaluateZone (zone : Nat) (peak : Level) : KeepsPublished s (evaluateZone zone peak s) :=
  .of_same (by simp [publishedParts])

theorem keepsPublished_untrackedTake (e : PendingEntry) : KeepsPublished s (untrackedTake e s) := by
  have hcap : KeepsPublished s (capture .detectorTableFull e.address s) := .of_same rfl
  have hflag := hcap.then_same (u := setUntracked e.zone (capture .detectorTableFull e.address s))
    (by unfold setUntracked; split <;> rfl)
  exact (KeepsPublished.ite hflag hcap).trans (keepsPublished_evaluateZone _ _ _)

theorem keepsPublished_applyTake (e : PendingEntry) (r : DetectorRec) : KeepsPublished s (applyTake e r s) :=
  (keepsPublished_evaluateZone _ _ _).after rfl

theorem keepsPublished_tableTake (e : PendingEntry) : KeepsPublished s (tableTake e s) := by
  unfold tableTake
  split
  · split
    · exact .refl s
    · exact (keepsPublished_applyTake _ _ _).after rfl
    · exact keepsPublished_applyTake s _ _
  · refine .ite (keepsPublished_applyTake s _ _) ?_
    split
    · exact (keepsPublished_applyTake _ _ _).after rfl
    · exact keepsPublished_untrackedTake s e

theorem keepsPublished_takeComplete : KeepsPublished s (takeComplete s) := by
  unfold takeComplete
  split
  · exact .refl s
  · exact .ite (.of_same rfl) ((keepsPublished_tableTake _ _).after rfl)

theorem keepsPublished_suspectExpiry (zone : Nat) : KeepsPublished s (suspectExpiry zone s) :=
  .of_same (by unfold suspectExpiry; (repeat' split) <;> simp [publishedParts])

theorem keepsPublished_clearHoldExpiry (zone : Nat) : KeepsPublished s (clearHoldExpiry zone s) :=
  .of_same (by unfold clearHoldExpiry; (repeat' split) <;> simp [publishedParts])

/-! ## Sign Line Controller -/

theorem keepsPublished_refreshExpiry : KeepsPublished s (refreshExpiry s) :=
  .of_same (by unfold refreshExpiry; dsimp only; (repeat' split) <;> simp [publishedParts])

theorem keepsPublished_showSent : KeepsPublished s (showSent s) :=
  .of_same (by unfold showSent recordSent; (repeat' split) <;> simp [publishedParts])

theorem keepsPublished_fallbackSent : KeepsPublished s (fallbackSent s) :=
  .of_same (by unfold fallbackSent; (repeat' split) <;> simp [publishedParts])

theorem keepsPublished_drainEnded : KeepsPublished s (drainEnded s) :=
  .of_same (by unfold drainEnded; (repeat' split) <;> simp [publishedParts])

theorem keepsPublished_signEvent (ev : RxEvent) : KeepsPublished s (signEvent s ev) :=
  .of_same (by unfold signEvent; (repeat' split) <;> simp [publishedParts])

theorem keepsPublished_charErrorIn (c : RxChar) : KeepsPublished s (charErrorIn c s) :=
  .of_same (by unfold charErrorIn; (repeat' split) <;> simp [publishedParts])

theorem keepsPublished_signChar (c : RxChar) : KeepsPublished s (signChar s c) :=
  .ite (((keepsPublished_charErrorIn s c).trans (keepsPublished_onLine _ _ _)).trans
    ((KeepsPublished.foldl keepsPublished_signEvent _ _).trans (keepsPublished_drainEnded _))) (.refl s)

theorem keepsPublished_windowClosed : KeepsPublished s (windowClosed s) :=
  .of_same (by unfold windowClosed; dsimp only; (repeat' split) <;> simp [publishedParts])

theorem keepsPublished_signGap : KeepsPublished s (signGap s) :=
  (keepsPublished_onLine s _ _).trans (keepsPublished_drainEnded _)

theorem keepsPublished_emphasisExpiry (i : Nat) : KeepsPublished s (emphasisExpiry i s) :=
  .of_same (by unfold emphasisExpiry; (repeat' split) <;> rfl)

theorem keepsPublished_runSign : KeepsPublished s (runSign s) := by
  have hrun := (keepsPublished_onLine s .sign fun l => { l with mark := .running, inUse := l.format, rx := [] }).trans
    (keepsPublished_drainEnded _)
  exact .ite (hrun.then_same (by simp [publishedParts])) hrun

/-! ## Peer Ports -/

theorem keepsPublished_advertEvent (port : PeerPort) (ev : RxEvent) : KeepsPublished s (advertEvent port s ev) :=
  .of_same (by unfold advertEvent advertTaken advertInvalid; (repeat' split) <;> simp [publishedParts])

theorem keepsPublished_advertChar (port : PeerPort) (c : RxChar) : KeepsPublished s (advertChar port s c) := by
  unfold advertChar
  dsimp only
  split
  · exact .refl s
  · exact (keepsPublished_onLine s _ _).trans (.foldl (keepsPublished_advertEvent · port) _ _)

theorem keepsPublished_advertGap (port : PeerPort) : KeepsPublished s (advertGap port s) :=
  .ite (.of_same rfl) (.of_same rfl)

theorem keepsPublished_ageExpiry (port : PeerPort) : KeepsPublished s (ageExpiry port s) :=
  .ite (.of_same (by simp [publishedParts])) (.refl s)

theorem keepsPublished_advertSent (port : PeerPort) : KeepsPublished s (advertSent port s) :=
  .of_same (by unfold advertSent; dsimp only; (repeat' split) <;> simp [publishedParts])

theorem keepsPublished_spacingExpiry (port : PeerPort) : KeepsPublished s (spacingExpiry port s) :=
  .of_same (by unfold spacingExpiry; dsimp only; (repeat' split) <;> simp [publishedParts])

theorem keepsPublished_advertiseExpiry (port : PeerPort) : KeepsPublished s (advertiseExpiry port s) :=
  .ite (.of_same (by simp [publishedParts])) (.refl s)

theorem keepsPublished_haltPort (port : PeerPort) : KeepsPublished s (haltPort port s) :=
  .of_same (by unfold haltPort; dsimp only; split <;> simp [publishedParts])

theorem keepsPublished_runPort (port : PeerPort) : KeepsPublished s (runPort port s) :=
  .of_same (by unfold runPort; dsimp only; split <;> simp [publishedParts])

/-! ## Publication, the swap and the resets -/

/-- A publication puts the set that the solve selected from the active plan in the former one's place. -/
theorem keepsPublished_publication {p : Plan} (snap : Snapshot) (hp : s.ps.active = some p) :
    KeepsPublished s (publication p snap s) := by
  intro _ q set hq hset
  rw [publication_ps, hp] at hq
  cases hq
  rw [publication_rsv] at hset
  cases hset
  exact setDescends_selectHeadings _

theorem keepsPublished_swap : KeepsPublished s (swap s) := by
  unfold swap
  split
  · exact .of_unpublished (by rw [swapTo_rsv]; rfl)
  · exact .refl s

theorem keepsPublished_solveStart : KeepsPublished s (solveStart s) := .of_same (by simp [publishedParts])

theorem keepsPublished_solveEnd : KeepsPublished s (solveEnd s) := by
  unfold solveEnd
  split
  · next hp _ =>
    exact .ite ((keepsPublished_swap _).after rfl)
      ((keepsPublished_publication s _ hp).trans (keepsPublished_solveStart _))
  · exact .refl s

theorem keepsPublished_endCheck : KeepsPublished s (endCheck s) := .ite (.of_same rfl) (.refl s)

theorem keepsPublished_endStore (readBack : List Byte) : KeepsPublished s (endStore readBack s) :=
  .ite (.ite (.of_same rfl) (.of_same rfl)) (.refl s)

theorem keepsPublished_resetWith (kind : ResetKind) (k : Settings) (m : PlanMemory) :
    KeepsPublished s (resetWith kind k m s) := .ite (.of_unpublished rfl) (.of_unpublished rfl)

/-! ## Requests -/

theorem keepsPublished_withoutFields (fields : List Byte) {f : State → Answer} (hf : KeepsPublished s (f s).state) :
    KeepsPublished s (withoutFields fields s f).state := by
  unfold withoutFields
  split
  · exact hf
  · exact .refl s

theorem keepsPublished_withPlan {f : Plan → Answer} (hf : ∀ p, KeepsPublished s (f p).state) :
    KeepsPublished s (withPlan s f).state := by
  unfold withPlan
  split
  · exact .refl s
  · exact hf _

theorem keepsPublished_planPut (f : List Byte) : KeepsPublished s (answerPlanPut f s).state := by
  unfold answerPlanPut putStaged
  (repeat' split) <;> exact .of_same rfl

theorem keepsPublished_planActivate (f : List Byte) : KeepsPublished s (answerPlanActivate f s).state := by
  refine keepsPublished_withoutFields s f ?_
  dsimp only
  split
  · simp only [answered_state]
    split
    · exact (keepsPublished_swap _).after rfl
    · exact .of_same rfl
  · exact .refl s

theorem keepsPublished_exitSet (f : List Byte) : KeepsPublished s (answerExitSet f s).state := by
  unfold answerExitSet
  split
  · exact keepsPublished_withPlan s fun _ => by split <;> exact .of_same rfl
  · exact .refl s

theorem keepsPublished_zoneForce (f : List Byte) : KeepsPublished s (answerZoneForce f s).state := by
  unfold answerZoneForce forceSmoke forceClear
  split
  · exact keepsPublished_withPlan s fun _ => .of_same (by split <;> simp [publishedParts])
  · exact .refl s

theorem keepsPublished_zoneReset (f : List Byte) : KeepsPublished s (answerZoneReset f s).state := by
  unfold answerZoneReset
  split
  · exact keepsPublished_withPlan s fun _ => .of_same (by (repeat' split) <;> simp [publishedParts])
  · exact .refl s

theorem keepsPublished_evacuate (f : List Byte) : KeepsPublished s (answerEvacuate f s).state :=
  keepsPublished_withoutFields s f (.of_same (by dsimp only; split <;> simp [publishedParts]))

theorem keepsPublished_standDown (f : List Byte) : KeepsPublished s (answerStandDown f s).state :=
  keepsPublished_withoutFields s f (.of_same (by (repeat' split) <;> simp [publishedParts]))

theorem keepsPublished_lineSetup (f : List Byte) : KeepsPublished s (answerLineSetup f s).state := by
  unfold answerLineSetup setupFormat setupContact
  (repeat' split) <;> exact .of_same rfl

theorem keepsPublished_haltLine (id : LineId) : KeepsPublished s (haltLine id s) := by
  cases id with
  | message => exact .refl s
  | detector => exact .of_same (by simp [haltLine, haltDetector, publishedParts])
  | sign => exact .of_same rfl
  | peerA => exact keepsPublished_haltPort s _
  | peerB => exact keepsPublished_haltPort s _

theorem keepsPublished_runLine (id : LineId) : KeepsPublished s (runLine id s) := by
  cases id with
  | message => exact .refl s
  | detector => exact .of_same rfl
  | sign => exact keepsPublished_runSign s
  | peerA => exact keepsPublished_runPort s _
  | peerB => exact keepsPublished_runPort s _

theorem keepsPublished_lineHalt (f : List Byte) : KeepsPublished s (answerLineHalt f s).state := by
  unfold answerLineHalt
  repeat' split
  case' h_2.isFalse.isFalse => exact keepsPublished_haltLine _ _
  all_goals exact .refl s

theorem keepsPublished_lineRun (f : List Byte) : KeepsPublished s (answerLineRun f s).state := by
  unfold answerLineRun
  repeat' split
  case' h_2.isFalse => exact keepsPublished_runLine _ _
  all_goals exact .refl s

/-- PLAN ACTIVATE alone, by the swap, changes the published set; the requests on exits, zones, the evacuation state and
lines go through their operations, those that read leave the state, and the others set what the property does not
mention. -/
theorem keepsPublished_perform (r : Request) : KeepsPublished s (perform r s).state := by
  unfold perform performKind
  split
  case h_3 => exact keepsPublished_withoutFields s _ (by split <;> exact .of_same rfl)
  case h_4 => exact keepsPublished_withoutFields s _ (by (repeat' split) <;> exact .of_same rfl)
  case h_5 => exact keepsPublished_planActivate _ _
  case h_6 => exact keepsPublished_withoutFields s _ (by (repeat' split) <;> exact .of_same rfl)
  case h_7 => exact keepsPublished_planPut _ _
  case h_9 => exact keepsPublished_exitSet _ _
  case h_10 => exact keepsPublished_zoneForce _ _
  case h_11 => exact keepsPublished_zoneReset _ _
  case h_12 => exact keepsPublished_evacuate _ _
  case h_13 => exact keepsPublished_standDown _ _
  case h_14 => unfold answerGroupSet; (repeat' split) <;> exact .of_same rfl
  case h_20 => unfold answerNoticeSetup; (repeat' split) <;> exact .of_same rfl
  case h_21 => unfold answerClearFlags; (repeat' split) <;> exact .of_same rfl
  case h_23 => unfold answerFaultClear; (repeat' split) <;> exact .of_same rfl
  case h_24 => unfold answerCounterSetup; (repeat' split) <;> exact .of_same rfl
  case h_26 => unfold answerOutputSetup; (repeat' split) <;> exact .of_same rfl
  case h_27 => exact keepsPublished_lineSetup _ _
  case h_28 => exact keepsPublished_lineHalt _ _
  case h_29 => exact keepsPublished_lineRun _ _
  case h_30 => exact keepsPublished_withoutFields s _ (by (repeat' split) <;> exact .of_same rfl)
  all_goals simpa using KeepsPublished.refl s

/-! ## The Message Port -/

theorem keepsPublished_takeNext : KeepsPublished s (takeNext s) := by
  unfold takeNext
  split
  · exact (keepsPublished_perform s _).then_same rfl
  · exact .refl s

theorem keepsPublished_receiveRequest (r : Request) : KeepsPublished s (receiveRequest r s) := by
  unfold receiveRequest
  split
  · exact (keepsPublished_takeNext _).after rfl
  · split
    · exact (keepsPublished_takeNext _).after rfl
    · exact .of_same rfl

theorem keepsPublished_messageEvent (e : RxEvent) : KeepsPublished s (messageEvent s e) := by
  unfold messageEvent
  split
  · exact .refl s
  · refine .ite (.of_same rfl) ?_
    split
    · exact keepsPublished_receiveRequest _ _
    · exact .refl s

theorem keepsPublished_messageChar (c : RxChar) : KeepsPublished s (messageChar s c) :=
  (keepsPublished_onLine s _ _).trans (.foldl keepsPublished_messageEvent _ _)

theorem keepsPublished_noticeStart : KeepsPublished s (noticeStart s) := .of_same (by simp [publishedParts])

theorem keepsPublished_takeOrNotice (first : Bool) : KeepsPublished s (takeOrNotice first s) := by
  cases first with
  | false => exact keepsPublished_takeNext s
  | true => exact (keepsPublished_noticeStart s).trans (keepsPublished_takeNext _)

theorem keepsPublished_replySent (first : Bool) : KeepsPublished s (replySent first s) :=
  .ite ((keepsPublished_takeOrNotice _ _).after rfl) (.refl s)

theorem keepsPublished_messageFormatChange (first : Bool) : KeepsPublished s (messageFormatChange first s) := by
  unfold messageFormatChange
  split
  · exact (keepsPublished_takeOrNotice _ _).after rfl
  · exact .refl s

theorem keepsPublished_noticeSent : KeepsPublished s (noticeSent s) :=
  .of_same (by unfold noticeSent; split <;> rfl)

theorem keepsPublished_gapAbort (line : LineId) : KeepsPublished s (gapAbort line s) := by
  refine .ite (.refl s) ?_
  cases line with
  | message => exact keepsPublished_onLine s _ _
  | detector => exact (keepsPublished_onLine s _ _).trans (keepsPublished_detectorInvalid _ _)
  | sign => exact keepsPublished_signGap s
  | peerA => exact keepsPublished_advertGap s _
  | peerB => exact keepsPublished_advertGap s _

/-! ## Every command, and the step -/

/-- Every command has a next state, and keeps the published set descending. -/
theorem keepsPublished_exec (c : Instr) : ∃ t, exec c s = .next t ∧ KeepsPublished s t := by
  cases hr : requestOf c with
  | some r => exact ⟨_, exec_request c r s hr, .whenRunning (keepsPublished_receiveRequest · r) s⟩
  | none =>
    cases c
    case powerOn => exact ⟨_, rfl, keepsPublished_resetWith _ _ _ _⟩
    case resetLine => exact ⟨_, rfl, .ite (.refl s) (keepsPublished_resetWith _ _ _ _)⟩
    case restartBegin => exact ⟨_, rfl, .whenRunning (fun s => .ite (keepsPublished_resetWith _ _ _ _) (.refl s)) s⟩
    case resetLineAsserted => exact ⟨_, rfl, .ite (.refl s) (.of_unpublished rfl)⟩
    case powerLoss => exact ⟨_, rfl, .of_unpublished rfl⟩
    case startUpLoadEnd => exact ⟨_, rfl, .ite (.of_same rfl) (.refl s)⟩
    case tenthTick =>
      refine ⟨_, rfl, ?_⟩
      split
      · exact .refl s
      · exact .refl s
      · exact .of_same rfl
      · exact .ite (.of_same (by simp [publishedParts, tickAll])) (.of_same rfl)
    case messageFrameReceived cs => exact ⟨_, rfl, .whenRunning (.foldl keepsPublished_messageChar cs) s⟩
    case detectorFrameReceived cs => exact ⟨_, rfl, .whenRunning (.foldl keepsPublished_detectorChar cs) s⟩
    case signFrameReceived cs => exact ⟨_, rfl, .whenRunning (.foldl keepsPublished_signChar cs) s⟩
    case advertReceived port cs => exact ⟨_, rfl, .whenRunning (.foldl (keepsPublished_advertChar · port) cs) s⟩
    case replySent first => exact ⟨_, rfl, .whenRunning (keepsPublished_replySent · first) s⟩
    case messagePortFormatChange first =>
      exact ⟨_, rfl, .whenRunning (keepsPublished_messageFormatChange · first) s⟩
    case noticeFrameStart => exact ⟨_, rfl, .whenRunning keepsPublished_noticeStart s⟩
    case frameGapAbort line => exact ⟨_, rfl, .whenRunning (keepsPublished_gapAbort · line) s⟩
    case silenceTimerExpiry => exact ⟨_, rfl, .whenRunning keepsPublished_silenceExpiry s⟩
    case contactChangeAccepted n => exact ⟨_, rfl, .whenRunning (keepsPublished_acceptChange · n) s⟩
    case pulseWidthLimit n => exact ⟨_, rfl, .whenRunning (keepsPublished_widthLimit · n) s⟩
    case takeBegin => exact ⟨_, rfl, .whenRunning keepsPublished_takeBegin s⟩
    case takeComplete => exact ⟨_, rfl, .whenRunning keepsPublished_takeComplete s⟩
    case suspectTimerExpiry z => exact ⟨_, rfl, .whenRunning (keepsPublished_suspectExpiry · z) s⟩
    case clearHoldTimerExpiry z => exact ⟨_, rfl, .whenRunning (keepsPublished_clearHoldExpiry · z) s⟩
    case planCheckEnd => exact ⟨_, rfl, .whenRunning keepsPublished_endCheck s⟩
    case planStoreEnd bs => exact ⟨_, rfl, .whenRunning (keepsPublished_endStore · bs) s⟩
    case solveStart => exact ⟨_, rfl, .whenRunning keepsPublished_solveStart s⟩
    case solveEnd => exact ⟨_, rfl, .whenRunning keepsPublished_solveEnd s⟩
    case refreshTimerExpiry => exact ⟨_, rfl, .whenRunning keepsPublished_refreshExpiry s⟩
    case showFrameSent => exact ⟨_, rfl, .whenRunning keepsPublished_showSent s⟩
    case replyWindowClose => exact ⟨_, rfl, .whenRunning keepsPublished_windowClosed s⟩
    case fallbackFrameSent => exact ⟨_, rfl, .whenRunning keepsPublished_fallbackSent s⟩
    case emphasisTimerExpiry i => exact ⟨_, rfl, .whenRunning (keepsPublished_emphasisExpiry · i) s⟩
    case ageTimerExpiry port => exact ⟨_, rfl, .whenRunning (keepsPublished_ageExpiry · port) s⟩
    case advertTimerExpiry port => exact ⟨_, rfl, .whenRunning (keepsPublished_advertiseExpiry · port) s⟩
    case spacingTimerExpiry port => exact ⟨_, rfl, .whenRunning (keepsPublished_spacingExpiry · port) s⟩
    case advertFrameSent port => exact ⟨_, rfl, .whenRunning (keepsPublished_advertSent · port) s⟩
    case contactSample levels => exact ⟨_, rfl, .whenRunning (keepsPublished_sampleContacts · levels) s⟩
    case noticeFrameSent => exact ⟨_, rfl, .whenRunning keepsPublished_noticeSent s⟩
    all_goals cases hr

end

/-- Settles O11: a step keeps the published set descending, as the command that it takes from the queue does. -/
theorem step_keeps_published_ok : Obligations.step_keeps_published_ok := by
  intro s t h hs
  unfold step at hs
  split at hs
  · cases hs
    exact h
  · next c rest _ =>
    obtain ⟨u, hu, ok⟩ := keepsPublished_exec { s with pending := rest } c
    rw [hu] at hs
    cases hs
    exact (ok.after rfl) h

end Sys2Proof.Machine
end

section
/-! SUPPORT. The start of a solve (R74, R77), and what a publication does in each block (R83 to R86, R108, R114, R127,
R128, R144): O56. -/

namespace Sys2Proof.Machine

/-! ## The start of a solve (R74, R77) -/

@[simp] theorem seededNodes_length (p : Plan) (snap : Snapshot) : (seededNodes p snap).length = p.header.nodeCount := by
  simp [seededNodes]

theorem seededNodes_seed {p : Plan} {snap : Snapshot} {u : Nat} {sd : Seed} (hu : u < p.header.nodeCount)
    (hsd : nodeSeed p snap u = some sd) :
    (seededNodes p snap)[u]? = some { cost := sd.cost, route := some (sd.exit, sd.hop) } := by
  simp [seededNodes, hu, hsd]

theorem seededNodes_no_seed {p : Plan} {snap : Snapshot} {u : Nat} (hu : u < p.header.nodeCount)
    (hsd : nodeSeed p snap u = none) : (seededNodes p snap)[u]? = some { cost := unreachable, route := none } := by
  simp [seededNodes, hu, hsd]

theorem solveStart_starts {s : State} {p : Plan} (hp : s.ps.active = some p) (hi : s.rsv.state = .idle)
    (hw : s.rsv.wanted = true) :
    solveStart s =
      { s with rsv := { s.rsv with
          state := .solving, wanted := false, stale := false, passes := 0, snapshot := some (takeSnapshot s)
          nodes := seededNodes p (takeSnapshot s) } } := by
  simp [solveStart, hp, hi, hw]

theorem exec_solveStart {s : State} (h : s.phase = .running) : exec .solveStart s = .next (solveStart s) :=
  congrArg _ (whenRunning_running h _)

theorem exec_solveEnd {s : State} (h : s.phase = .running) : exec .solveEnd s = .next (solveEnd s) :=
  congrArg _ (whenRunning_running h _)

/-- A solve that an activation waits for is discarded for the swap (R16, R83). -/
theorem solveEnd_swaps {s : State} {p q : Plan} {snap : Snapshot} (hs : s.rsv.state = .solving)
    (hp : s.ps.active = some p) (hn : s.rsv.snapshot = some snap) (ha : s.rsv.activationPending = true)
    (hq : stagedPlan s.ps.staging = some q) :
    solveEnd s = swapTo q { s with rsv := { s.rsv with state := .idle, snapshot := none } } := by
  simp [solveEnd, swap, hs, hp, hn, ha, hq]

/-! ## The notices and counters of a publication (R86, R108) -/

/-- The Message Port after a rise hangs on itself, the evacuation clock and the seconds alone. -/
theorem raise_mp_congr (b : NoticeBody) {s u : State} (hmp : s.mp = u.mp) (hzh : s.zh = u.zh) (htb : s.tb = u.tb) :
    (raise b s).mp = (raise b u).mp := by
  simp only [raise, hmp, hzh, htb]

/-- A node in the list of signed NONE nodes has a sign. -/
theorem exists_sign_of_mem_signedNone {p : Plan} {set : HeadingSet} {n : Nat} (h : n ∈ signedNone p set) :
    ∃ g, p.signs.find? (fun x => decide (x.node = n)) = some g := by
  rw [signedNone_eq, List.mem_filter, decide_eq_true_iff] at h
  obtain ⟨_, _, g, hg, hn⟩ := h
  exact Option.isSome_iff_exists.1 (List.find?_isSome.2 ⟨g, hg, by simpa using hn⟩)

section
variable (c : Converged) (set : HeadingSet) (stale : Bool) (s : State)

/-- The state in which a publication's counters have fired. -/
def publicationCounted (set : HeadingSet) (stale : Bool) (s : State) : State :=
  fire .headingChange (changedCount set)
    (if stale then fire .solveStale 1 (fire .solveDone 1 s) else fire .solveDone 1 s)

/-- The body of a publication's ROUTE_PUBLISHED. -/
def publishedBody (c : Converged) (set : HeadingSet) (stale : Bool) (epoch : Nat) : NoticeBody :=
  .routePublished epoch c.passes c.limited stale (changedCount set) (noneCount set)

/-- A publication up to ROUTE_PUBLISHED. -/
def publicationTold (c : Converged) (set : HeadingSet) (stale : Bool) (s : State) : State :=
  raise (publishedBody c set stale s.rsv.epoch) (publicationCounted set stale s)

theorem announce_eq :
    announce c set stale s =
      if s.zh.evac = .active then checkNoRoute (publicationTold c set stale s) else publicationTold c set stale s := by
  cases stale <;> rfl

theorem publicationTold_mp :
    (publicationTold c set stale s).mp = (raise (publishedBody c set stale s.rsv.epoch) s).mp := by
  cases stale <;> rfl

@[simp] theorem publicationTold_ps : (publicationTold c set stale s).ps = s.ps := by cases stale <;> rfl
@[simp] theorem publicationTold_rsv : (publicationTold c set stale s).rsv = s.rsv := by cases stale <;> rfl
@[simp] theorem publicationTold_zh : (publicationTold c set stale s).zh = s.zh := by cases stale <;> rfl
@[simp] theorem publicationTold_tb : (publicationTold c set stale s).tb = s.tb := by cases stale <;> rfl

/-- The fault record and the tallies are no counters. -/
theorem publicationCounted_record_tallies :
    (publicationCounted set stale s).fc.record = s.fc.record ∧
      (publicationCounted set stale s).fc.tallies = s.fc.tallies := by
  cases stale <;> exact ⟨rfl, rfl⟩

/-- The counters after a publication hang on Fault Capture alone. -/
theorem publicationCounted_fc_congr {u : State} (h : s.fc = u.fc) :
    (publicationCounted set stale s).fc = (publicationCounted set stale u).fc := by
  cases stale <;> simp [publicationCounted, fire, h]

theorem announce_fc : (announce c set stale s).fc = (publicationCounted set stale s).fc := by
  rw [announce_eq]
  split
  · exact checkNoRoute_fc _
  · rfl

/-- ROUTE_PUBLISHED's flag is set, whatever NO_ROUTE does after it. -/
theorem announce_flag : (announce c set stale s).mp.kinds[NoticeKind.routePublished.idx].flag = true := by
  have htold : (publicationTold c set stale s).mp.kinds[NoticeKind.routePublished.idx].flag = true := raise_flag _ _
  rw [announce_eq]
  split
  · rwa [checkNoRoute_other _ (by decide)]
  · exact htold

end

section
variable {s : State} {p : Plan} {c : Converged} {set : HeadingSet} {stale : Bool}

/-- Outside ACTIVE, or with a way from every sign, a publication raises ROUTE_PUBLISHED alone. -/
theorem announce_mp_routed (hp : s.ps.active = some p) (hset : s.rsv.published = some set)
    (h : s.zh.evac ≠ .active ∨ signedNone p set = []) :
    (announce c set stale s).mp = (raise (publishedBody c set stale s.rsv.epoch) s).mp := by
  rw [announce_eq, ← publicationTold_mp]
  split
  · next ha => rw [checkNoRoute_routed (by simpa using hp) (by simpa using hset) (h.resolve_left (not_not_intro ha))]
  · rfl

/-- In ACTIVE, with signed NONE nodes, NO_ROUTE rises after it. -/
theorem announce_mp_noRoute {n : Nat} {rest : List Nat} {g : SignRec} (hp : s.ps.active = some p)
    (hset : s.rsv.published = some set) (ha : s.zh.evac = .active) (hn : signedNone p set = n :: rest)
    (hg : p.signs.find? (fun x => decide (x.node = n)) = some g) :
    (announce c set stale s).mp =
      (raise (.noRoute s.rsv.epoch (rest.length + 1) n g.address)
        (raise (publishedBody c set stale s.rsv.epoch) s)).mp := by
  rw [announce_eq, if_pos ha, checkNoRoute_raises (by simpa using hp) (by simpa using hset) hn hg, publicationTold_rsv]
  exact raise_mp_congr _ (publicationTold_mp c set stale s) (by simp) (by simp)

end

/-! ## The Sign Line Controller at a publication (R114, R127, R128) -/

theorem beginEntry_refresh (c : SignLine) : (beginEntry c).refresh = c.refresh := by
  unfold beginEntry
  split <;> rfl

section
variable {s : State}

/-- With the line free the first cycle starts at once on the published set. -/
theorem signPublication_starts {p : Plan} {set : HeadingSet} (hp : s.ps.active = some p)
    (hset : s.rsv.published = some set) (hc : s.slc.cycle = .dormant) (hm : s.mark .sign = .running)
    (hx : s.slc.exchange = none) :
    (signPublication s).slc.adopted = some { set := set, epoch := s.rsv.epoch } ∧
      (signPublication s).slc.refresh = refreshSetting s := by
  simp only [signPublication, hc, hm, if_true, requestStart, restartRefresh, State.onSlc, hx, Option.isSome_none,
    cycleStart, hp, hset, Bool.false_eq_true, if_false]
  exact ⟨(beginEntry_signs_adopted _).2, beginEntry_refresh _⟩

/-- With a frame of the former plan on the line the first cycle waits (R128, log entries 21 and 48). -/
theorem signPublication_waits (hc : s.slc.cycle = .dormant) (hm : s.mark .sign = .running)
    (hx : s.slc.exchange ≠ none) :
    (signPublication s).slc = { s.slc with cycle := .idle, refresh := refreshSetting s, startWaiting := true } := by
  have hsome : s.slc.exchange.isSome = true := Option.isSome_iff_ne_none.2 hx
  simp only [signPublication, hc, hm, if_true, requestStart, restartRefresh, State.onSlc, hsome]
  rfl

theorem signPublication_halted (hc : s.slc.cycle = .dormant) (hm : s.mark .sign = .halted) :
    (signPublication s).slc = { s.slc with cycle := .idle } := by
  simp [signPublication, hc, hm, State.onSlc]

theorem signPublication_cuts (hc : s.slc.cycle = .cycling) (ha : s.zh.evac = .active) (hm : s.mark .sign = .running) :
    signPublication s = s.onSlc fun c => { c with cutPending := true } := by
  simp [signPublication, hc, ha, hm]

theorem signPublication_none
    (h : s.slc.cycle = .idle ∨ s.slc.cycle = .cycling ∧ (s.zh.evac ≠ .active ∨ s.mark .sign = .halted)) :
    signPublication s = s := by
  rcases h with hc | ⟨hc, h⟩
  · simp [signPublication, hc]
  · have hnot : ¬ (s.zh.evac = .active ∧ s.mark .sign = .running) := by
      rcases h with h | h <;> simp [h]
    simp [signPublication, hc, hnot]

end

/-! ## The Peer Ports at a publication (R144) -/

/-- A port's record after a send trigger. -/
def triggeredPort (p : Plan) (published : Option HeadingSet) (mark : LineMark) (port : PeerPort)
    (r : PortRec) : PortRec :=
  if expectedId p.header port = 0 ∨ mark = .halted then r
  else if r.spacing.isNone && r.sending.isNone then
    { r with sending := some { frame := buildAdvert p published port r.state, former := false } }
  else { r with sendPending := true }

/-- Two changes of a port's record alike at the record that stands there. -/
theorem onPort_congr {s : State} {port : PeerPort} {f g : PortRec → PortRec}
    (h : f (portGet s.pp port) = g (portGet s.pp port)) : s.onPort port f = s.onPort port g := by
  cases port with
  | a => exact congrArg (fun r => { s with pp := { s.pp with a := r } }) h
  | b => exact congrArg (fun r => { s with pp := { s.pp with b := r } }) h

theorem onPort_same {s : State} {port : PeerPort} {f : PortRec → PortRec}
    (h : f (portGet s.pp port) = portGet s.pp port) : s.onPort port f = s :=
  (onPort_congr (g := id) h).trans (by cases port <;> rfl)

theorem sendTrigger_eq {s : State} {p : Plan} (hp : s.ps.active = some p) (port : PeerPort) :
    sendTrigger port s = s.onPort port (triggeredPort p s.rsv.published (s.mark (portLine port)) port) := by
  rw [sendTrigger_plan s hp]
  split
  · next hoff => exact (onPort_same (f := triggeredPort p _ _ port) (if_pos hoff)).symm
  · next hon =>
    split
    · next hfree => exact onPort_congr ((if_neg hon).trans (if_pos hfree)).symm
    · next hbusy => exact onPort_congr ((if_neg hon).trans (if_neg hbusy)).symm

@[simp] theorem sendTrigger_mark (s : State) (port : PeerPort) (id : LineId) :
    (sendTrigger port s).mark id = s.mark id := by simp [State.mark]

/-- The sends of a publication, port by port. -/
theorem publicationAdverts_eq {s : State} {p : Plan} (hp : s.ps.active = some p) :
    publicationAdverts s =
      (s.onPort .a (triggeredPort p s.rsv.published (s.mark (portLine .a)) .a)).onPort .b
        (triggeredPort p s.rsv.published (s.mark (portLine .b)) .b) := by
  rw [publicationAdverts, sendTrigger_eq (p := p) (by simpa using hp), sendTrigger_mark, sendTrigger_rsv,
    sendTrigger_eq hp]

section
variable (p : Plan) (published : Option HeadingSet) (mark : LineMark) (port : PeerPort) (r : PortRec)

/-- A port that is not in use, or halted, sends nothing. -/
theorem triggeredPort_unused (h : ¬ (expectedId p.header port ≠ 0 ∧ mark = .running)) :
    triggeredPort p published mark port r = r := by
  refine if_pos (or_iff_not_imp_left.2 fun hid => ?_)
  cases mark with
  | halted => rfl
  | running => exact absurd ⟨hid, rfl⟩ h

variable (h : expectedId p.header port ≠ 0 ∧ mark = .running)
include h

/-- A free port sends its frame at once. -/
theorem triggeredPort_sends (hsp : r.spacing = none) (hse : r.sending = none) :
    triggeredPort p published mark port r =
      { r with sending := some { frame := buildAdvert p published port r.state, former := false } } := by
  simp [triggeredPort, h, hsp, hse]

/-- A port within its spacing or with a frame on its line sends later. -/
theorem triggeredPort_pends (hbusy : r.spacing ≠ none ∨ r.sending ≠ none) :
    triggeredPort p published mark port r = { r with sendPending := true } := by
  have hnot : (r.spacing.isNone && r.sending.isNone) = false := by
    rw [Bool.and_eq_false_iff]
    simpa [Option.isNone_iff_eq_none, ← Option.isSome_iff_ne_none] using hbusy
  simp [triggeredPort, h, hnot]

end

/-! ## A publication, block by block -/

section
variable (p : Plan) (snap : Snapshot) (s : State)

/-- What the solve that ends comes to. -/
def endedSolve : Converged × HeadingSet := solveResult p snap s.rsv.nodes s.rsv.published

/-- The state in which a publication's set stands, before the other blocks learn of it. -/
def publishedState : State := publishSet (endedSolve p snap s).1 (endedSolve p snap s).2 s

/-- A publication announced, before the Sign Line Controller and the ports learn of it. -/
def announcedState : State :=
  announce (endedSolve p snap s).1 (endedSolve p snap s).2 s.rsv.stale (publishedState p snap s)

theorem publication_eq : publication p snap s = publicationAdverts (signPublication (announcedState p snap s)) := rfl

theorem publication_mp : (publication p snap s).mp = (announcedState p snap s).mp := by
  simp [publication_eq, publicationAdverts]

theorem publication_fc : (publication p snap s).fc = (announcedState p snap s).fc := by
  simp [publication_eq, publicationAdverts]

theorem publication_slc : (publication p snap s).slc = (signPublication (announcedState p snap s)).slc := by
  simp [publication_eq, publicationAdverts]

@[simp] theorem announcedState_ps : (announcedState p snap s).ps = s.ps := announce_ps _ _ _ _
@[simp] theorem announcedState_zh : (announcedState p snap s).zh = s.zh := announce_zh _ _ _ _
@[simp] theorem announcedState_slc : (announcedState p snap s).slc = s.slc := announce_slc _ _ _ _
@[simp] theorem announcedState_pp : (announcedState p snap s).pp = s.pp := announce_pp _ _ _ _
@[simp] theorem announcedState_lines : (announcedState p snap s).lines = s.lines := announce_lines _ _ _ _
@[simp] theorem announcedState_rsv : (announcedState p snap s).rsv = (publishedState p snap s).rsv :=
  announce_rsv _ _ _ _

@[simp] theorem announcedState_mark (id : LineId) : (announcedState p snap s).mark id = s.mark id := by
  simp [State.mark]

theorem refreshSetting_congr {s u : State} (h : s.ps = u.ps) : refreshSetting s = refreshSetting u := by
  simp only [refreshSetting, h]

end

section
variable {s : State} {p : Plan} {snap : Snapshot} (hp : s.ps.active = some p)
include hp

theorem publication_port (port : PeerPort) :
    portGet (publication p snap s).pp port =
      triggeredPort p (some (endedSolve p snap s).2) (s.mark (portLine port)) port (portGet s.pp port) := by
  have hmark (id : LineId) : (signPublication (announcedState p snap s)).mark id = s.mark id := by simp [State.mark]
  rw [publication_eq, publicationAdverts_eq (p := p) (by simpa using hp), hmark, hmark]
  cases port <;> simp [State.onPort, portGet, publishedState, publishSet]

theorem publication_portals : (publication p snap s).pp.portals = s.pp.portals := by
  rw [publication_eq, publicationAdverts_eq (p := p) (by simpa using hp)]
  simp [State.onPort]

end

/-- Settles O56: the start node by node, a publication block by block, and the swap that an activation waits for. -/
theorem solve_start_and_end : Obligations.solve_start_and_end := by
  refine ⟨fun s p hrun hp hi hw => ?_, fun s p snap hrun hp hs hn ha => ?_, fun s p q snap hrun hp hs hn ha hq => ?_⟩
  · intro snapshot
    exact ⟨seededNodes p snapshot, (exec_solveStart hrun).trans (congrArg _ (solveStart_starts hp hi hw)),
      seededNodes_length p snapshot, fun u sd hu hsd => seededNodes_seed hu hsd,
      fun u hu hsd => seededNodes_no_seed hu hsd⟩
  · intro r epoch changed nones noticed
    have hpub : (publishedState p snap s).ps.active = some p := hp
    have hset : (publishedState p snap s).rsv.published = some r.2 := rfl
    have hnoticed : (raise (publishedBody r.1 r.2 s.rsv.stale epoch) (publishedState p snap s)).mp = noticed.mp :=
      raise_mp_congr _ rfl rfl rfl
    have hfc : (publication p snap s).fc = (publicationCounted r.2 s.rsv.stale (publishedState p snap s)).fc :=
      (publication_fc p snap s).trans (announce_fc _ _ _ _)
    have hend : exec .solveEnd s = .next (solveStart (publication p snap s)) :=
      (exec_solveEnd hrun).trans (congrArg _ (solveEnd_publishes s p snap hs hp hn ha))
    have hrunt : (publication p snap s).phase = .running := (publication_phase s p snap).trans hrun
    have hrsv := publication_rsv p snap s
    refine ⟨publication p snap s, hend.trans (exec_solveStart hrunt).symm, fun hw => ?_, hrunt, hrsv,
      selectHeadings_length _ _ _ _, ?_, ?_, fun hquiet => ?_, fun n rest hact hnone => ?_, fun port => ?_,
      publication_portals hp, by simp, by simp, by simp, by simp, by simp, ?_, ?_, fun hc hm hx => ?_,
      fun hc hm hx => ?_, fun hc hm => ?_, fun hc hact hm => ?_, fun h => ?_⟩
    · rw [hend, solveStart_unwanted _ (by rw [hrsv]; exact hw)]
    · rw [hfc]
      exact publicationCounted_fc_congr _ _ _ rfl
    · rw [publication_mp]
      exact announce_flag _ _ _ _
    · rw [publication_mp]
      exact (announce_mp_routed hpub hset hquiet).trans hnoticed
    · obtain ⟨g, hg⟩ := exists_sign_of_mem_signedNone (hnone ▸ List.mem_cons_self)
      refine ⟨g.address, ?_, fun other hother => by cases hg.symm.trans hother; rfl⟩
      rw [publication_mp]
      exact (announce_mp_noRoute hpub hset hact hnone hg).trans (raise_mp_congr _ hnoticed rfl rfl)
    · intro x used
      rw [publication_port hp]
      exact ⟨triggeredPort_unused _ _ _ _ _, triggeredPort_sends _ _ _ _ _, triggeredPort_pends _ _ _ _ _⟩
    · rw [hfc]
      exact (publicationCounted_record_tallies _ _ _).1
    · rw [hfc]
      exact (publicationCounted_record_tallies _ _ _).2
    · have hstart := signPublication_starts (s := announcedState p snap s) (p := p) (set := r.2) (by simpa using hp)
        (by simp [hset]) (by simpa using hc) (by simpa using hm) (by simpa using hx)
      rw [publication_slc, ← refreshSetting_congr (announcedState_ps p snap s)]
      exact ⟨hstart.1.trans (by rw [announcedState_rsv]; rfl), hstart.2⟩
    · rw [publication_slc, signPublication_waits (by simpa using hc) (by simpa using hm) (by simpa using hx),
        refreshSetting_congr (announcedState_ps p snap s), announcedState_slc]
    · rw [publication_slc, signPublication_halted (by simpa using hc) (by simpa using hm), announcedState_slc]
    · rw [publication_slc, signPublication_cuts (by simpa using hc) (by simpa using hact) (by simpa using hm)]
      simp [State.onSlc]
    · rw [publication_slc, signPublication_none (by simpa using h), announcedState_slc]
  · exact (exec_solveEnd hrun).trans (congrArg _ (solveEnd_swaps hs hp hn ha hq))

end Sys2Proof.Machine
end

section
/-! SUPPORT. GROUP SET (R104), and what a sign's face is made of: the base face, the emphasis timer and the groups that
apply (R97 to R107): O51. -/

namespace Sys2Proof.Machine

/-! ## The codes of a group record -/

theorem flashOf_none : ∀ {n : Nat}, 2 < n → flashOf n = none
  | 0, h | 1, h | 2, h => absurd h (by decide)
  | _ + 3, _ => rfl

theorem groupClassOf_none : ∀ {n : Nat}, 1 < n → groupClassOf n = none
  | 0, h | 1, h => absurd h (by decide)
  | _ + 2, _ => rfl

theorem symbolOf_none : ∀ {sym dir : Nat}, 4 < sym ∨ sym = 0 ∧ 7 < dir → symbolOf sym dir = none
  | 0, _, h => if_neg (by omega)
  | 1, _, h | 2, _, h | 3, _, h | 4, _, h => absurd h (by omega)
  | _ + 5, _, _ => rfl

theorem flashCode_of {n : Nat} {f : Flash} (h : flashOf n = some f) : flashCode f = n := by
  unfold flashOf at h
  split at h <;> cases h <;> rfl

theorem groupClassCode_of {n : Nat} {c : GroupClass} (h : groupClassOf n = some c) : groupClassCode c = n := by
  unfold groupClassOf at h
  split at h <;> cases h <;> rfl

theorem flagByte_of {b : Byte} {f : Bool} (h : strictFlagOf b.toNat = some f) : flagByte f = b := by
  unfold strictFlagOf at h
  split at h <;> cases h <;> exact (BitVec.eq_of_toNat_eq (by assumption)).symm

theorem symbolCode_of {n dir : Nat} {x : FaceSymbol} (h : symbolOf n dir = some x) : symbolCode x = n := by
  unfold symbolOf at h
  (repeat' split at h) <;> cases h <;> rfl

/-- A symbol read from its two bytes is an ARROW exactly when its code is 0, and then in the direction given. -/
theorem symbolOf_eq_arrow {n dir d : Nat} {x : FaceSymbol} (h : symbolOf n dir = some x) :
    x = .arrow d ↔ n = 0 ∧ dir = d := by
  unfold symbolOf at h
  (repeat' split at h) <;> cases h <;> simp

theorem faceBytes_arrow {f : Face} {d : Nat} (h : f.symbol = .arrow d) :
    faceBytes f = [0, byte1 d, byte1 (flashCode f.flash), byte1 f.level] := by
  simp only [faceBytes, h]
  rfl

theorem faceBytes_other {f : Face} (h : ∀ d, f.symbol ≠ .arrow d) :
    faceBytes f = [byte1 (symbolCode f.symbol), 0xFF, byte1 (flashCode f.flash), byte1 f.level] := by
  unfold faceBytes
  split
  · next d hd => exact absurd hd (h d)
  · rfl

/-- A face's bytes are those it is read from, the direction being all ones with any symbol but ARROW. -/
theorem faceBytes_of {sym dir fl : Byte} {f : Face} (hs : symbolOf sym.toNat dir.toNat = some f.symbol)
    (hf : flashOf fl.toNat = some f.flash) :
    faceBytes f = [sym, if sym = 0 then dir else 0xFF, fl, byte1 f.level] := by
  have hfl : byte1 (flashCode f.flash) = fl := by rw [flashCode_of hf, byte1_toNat_self]
  by_cases h0 : sym = 0
  · rw [faceBytes_arrow ((symbolOf_eq_arrow hs).2 ⟨toNat_eq_zero.2 h0, rfl⟩), hfl, byte1_toNat_self, if_pos h0, h0]
  · have hne : ∀ d, f.symbol ≠ .arrow d := fun d hd => h0 (toNat_eq_zero.1 ((symbolOf_eq_arrow hs).1 hd).1)
    rw [faceBytes_other hne, hfl, symbolCode_of hs, byte1_toNat_self, if_neg h0]

/-! ## A group record read from its bytes (R104) -/

/-- A level above 15 is stored as 15 and counts as clamped (R97). -/
theorem quantity_level (n : Nat) : quantity 0 15 n = (if 15 < n then 15 else n, decide (15 < n)) := by
  simp [quantity, clampTo_eq, outside]

section
variable {en cl ms mf ml sym dir fl level : Byte}

theorem readFace_none (h : 4 < sym.toNat ∨ 2 < fl.toNat ∨ sym.toNat = 0 ∧ 7 < dir.toNat) :
    readFace sym dir fl level = none := by
  unfold readFace
  rcases or_left_comm.1 h with hf | hs
  · simp [flashOf_none hf]
  · simp [symbolOf_none hs]

theorem readFace_some {f : Face} (hs : symbolOf sym.toNat dir.toNat = some f.symbol)
    (hf : flashOf fl.toNat = some f.flash) (hl : f.level = if 15 < level.toNat then 15 else level.toNat) :
    readFace sym dir fl level = some (f, decide (15 < level.toNat)) := by
  simp only [readFace, hs, hf, quantity_level, ← hl]

theorem readGroup_none
    (h : 1 < en.toNat ∨ 1 < cl.toNat ∨ 1 < ms.toNat ∨ 1 < mf.toNat ∨ 1 < ml.toNat ∨ 4 < sym.toNat ∨ 2 < fl.toNat ∨
      sym.toNat = 0 ∧ 7 < dir.toNat) : readGroup [en, cl, ms, mf, ml, sym, dir, fl, level] = none := by
  rcases h with h | h | h | h | h | h
  · simp [readGroup, strictFlagOf_none h]
  · simp [readGroup, groupClassOf_none h]
  · simp [readGroup, strictFlagOf_none h]
  · simp [readGroup, strictFlagOf_none h]
  · simp [readGroup, strictFlagOf_none h]
  · simp [readGroup, readFace_none h]

/-- The bytes between the group number and the level name a record's values (R104). -/
def NamesGroup (en cl ms mf ml sym dir fl : Byte) (g : GroupRec) : Prop :=
  strictFlagOf en.toNat = some g.enabled ∧ groupClassOf cl.toNat = some g.cls ∧
    strictFlagOf ms.toNat = some g.maskSymbol ∧ strictFlagOf mf.toNat = some g.maskFlash ∧
    strictFlagOf ml.toNat = some g.maskLevel ∧ symbolOf sym.toNat dir.toNat = some g.face.symbol ∧
    flashOf fl.toNat = some g.face.flash

theorem readGroup_some {g : GroupRec} (hb : NamesGroup en cl ms mf ml sym dir fl g)
    (hl : g.face.level = if 15 < level.toNat then 15 else level.toNat) :
    readGroup [en, cl, ms, mf, ml, sym, dir, fl, level] = some (g, decide (15 < level.toNat)) := by
  obtain ⟨hen, hcl, hms, hmf, hml, hs, hf⟩ := hb
  simp only [readGroup, hen, hcl, hms, hmf, hml, readFace_some hs hf hl]

theorem groupBytes_of {g : GroupRec} (hb : NamesGroup en cl ms mf ml sym dir fl g) :
    groupBytes g = [en, cl, ms, mf, ml, sym, if sym = 0 then dir else 0xFF, fl, byte1 g.face.level] := by
  obtain ⟨hen, hcl, hms, hmf, hml, hs, hf⟩ := hb
  simp only [groupBytes, flagByte_of hen, groupClassCode_of hcl, byte1_toNat_self, flagByte_of hms, flagByte_of hmf,
    flagByte_of hml, faceBytes_of hs hf]
  rfl

/-! ## GROUP SET -/

variable {n : Byte} {s : State}

theorem answerGroupSet_badValue
    (h : 15 < n.toNat ∨ 1 < en.toNat ∨ 1 < cl.toNat ∨ 1 < ms.toNat ∨ 1 < mf.toNat ∨ 1 < ml.toNat ∨ 4 < sym.toNat ∨
      2 < fl.toNat ∨ sym.toNat = 0 ∧ 7 < dir.toNat) :
    answerGroupSet [n, en, cl, ms, mf, ml, sym, dir, fl, level] s = turnedAway .badValue s := by
  rcases h with h | h
  · simp [answerGroupSet, show ¬ n.toNat < 16 by omega]
  · simp [answerGroupSet, readGroup_none h]

theorem answerGroupSet_ok {k : Fin 16} {g : GroupRec} (hk : n.toNat = k.val)
    (hb : NamesGroup en cl ms mf ml sym dir fl g)
    (hl : g.face.level = if 15 < level.toNat then 15 else level.toNat) :
    answerGroupSet [n, en, cl, ms, mf, ml, sym, dir, fl, level] s =
      { state := setGroup k g s, status := if 15 < level.toNat then .clamped else .ok
        fields := [n, en, cl, ms, mf, ml, sym, if sym = 0 then dir else 0xFF, fl, byte1 g.face.level] } := by
  simp [answerGroupSet, readGroup_some hb hl, groupBytes_of hb, answeredClamped, hk]

end

/-! ## The groups that apply, the highest last (R106, R107) -/

/-- A group applies to a face: the sign is in it, it is enabled, and it is not a NORMAL one in ACTIVE. -/
def GroupApplies (table : Vector GroupRec 16) (groups : List Nat) (evac : EvacState) (k : Fin 16) : Prop :=
  k.val ∈ groups ∧ table[k].enabled = true ∧ ¬ (table[k].cls = .normal ∧ evac = .active)

theorem groupSkipped_eq_false (evac : EvacState) (g : GroupRec) :
    groupSkipped evac g = false ↔ g.enabled = true ∧ ¬ (g.cls = .normal ∧ evac = .active) := by
  rw [groupSkipped, Bool.or_eq_false_iff, Bool.not_eq_false', decide_eq_false_iff_not]

theorem toList_zipIdx_eq {α : Type} {n : Nat} (v : Vector α n) :
    v.toList.zipIdx = (List.finRange n).map fun k => (v[k], k.val) :=
  List.ext_getElem (by simp) fun i h1 h2 => by simp

section
variable (table : Vector GroupRec 16) (groups : List Nat) (evac : EvacState)

/-- The numbers of the groups that apply, rising. -/
def applyingNumbers : List (Fin 16) :=
  (List.finRange 16).filter fun k => groups.contains k.val && !groupSkipped evac table[k]

theorem applyingGroups_eq :
    applyingGroups table groups evac = (applyingNumbers table groups evac).map fun k => table[k] := by
  rw [applyingGroups, toList_zipIdx_eq, List.filter_map, List.map_map]
  rfl

theorem mem_applyingNumbers (k : Fin 16) :
    k ∈ applyingNumbers table groups evac ↔ GroupApplies table groups evac k := by
  simp [applyingNumbers, groupSkipped_eq_false, GroupApplies]

theorem applyingNumbers_rising : (applyingNumbers table groups evac).Pairwise (· < ·) :=
  (List.pairwise_lt_finRange 16).filter _

/-- A group that applies stands after those below it and before those above it. -/
theorem applyingGroups_split {k : Fin 16} (hk : GroupApplies table groups evac k) :
    ∃ below above : List GroupRec, applyingGroups table groups evac = below ++ table[k] :: above ∧
      ∀ g ∈ above, ∃ j, GroupApplies table groups evac j ∧ k < j ∧ g = table[j] := by
  obtain ⟨below, above, hsplit⟩ := List.append_of_mem ((mem_applyingNumbers table groups evac k).2 hk)
  refine ⟨below.map (table[·]), above.map (table[·]), by simp [applyingGroups_eq, hsplit], fun g hg => ?_⟩
  obtain ⟨j, hj, rfl⟩ := List.mem_map.1 hg
  have hrise := applyingNumbers_rising table groups evac
  rw [hsplit, List.pairwise_append, List.pairwise_cons] at hrise
  exact ⟨j, (mem_applyingNumbers table groups evac j).1 (by simp [hsplit, hj]), hrise.2.1.1 j hj, rfl⟩

theorem forall_mem_applyingGroups (q : GroupRec → Prop) :
    (∀ g ∈ applyingGroups table groups evac, q g) ↔ ∀ k, GroupApplies table groups evac k → q table[k] := by
  simp [applyingGroups_eq, mem_applyingNumbers]

end

/-! ## One field of a face under groups -/

section
variable {α : Type} {get : Face → α} {mask : GroupRec → Bool}
  (hlay : ∀ g f, get (overlay g f) = if mask g then get g.face else get f)
include hlay

theorem overlaid_unmasked (gs : List GroupRec) (h : ∀ g ∈ gs, mask g = false) (f : Face) :
    get (overlaid gs f) = get f := by
  induction gs generalizing f with
  | nil => rfl
  | cons g rest ih =>
    obtain ⟨hg, hrest⟩ := List.forall_mem_cons.1 h
    calc get (overlaid rest (overlay g f)) = get (overlay g f) := ih hrest _
      _ = get f := by simp [hlay, hg]

theorem overlaid_masked {below above : List GroupRec} {g : GroupRec} (hg : mask g = true)
    (h : ∀ x ∈ above, mask x = false) (f : Face) : get (overlaid (below ++ g :: above) f) = get g.face := by
  have hsplit : overlaid (below ++ g :: above) f = overlaid above (overlay g (overlaid below f)) := by simp [overlaid]
  rw [hsplit, overlaid_unmasked hlay above h, hlay, if_pos hg]

/-- The highest applying group that masks a field gives it; the face beneath keeps a field that none masks. -/
theorem overlaid_applying (table : Vector GroupRec 16) (groups : List Nat) (evac : EvacState) (f : Face) :
    ((∀ k, GroupApplies table groups evac k → mask table[k] = false) →
      get (overlaid (applyingGroups table groups evac) f) = get f) ∧
    ∀ k, GroupApplies table groups evac k → mask table[k] = true →
      (∀ j, GroupApplies table groups evac j → k < j → mask table[j] = false) →
      get (overlaid (applyingGroups table groups evac) f) = get table[k].face := by
  refine ⟨fun h => ?_, fun k hk hm h => ?_⟩
  · exact overlaid_unmasked hlay _ ((forall_mem_applyingGroups table groups evac (mask · = false)).2 h) f
  · obtain ⟨below, above, hsplit, habove⟩ := applyingGroups_split table groups evac hk
    rw [hsplit]
    refine overlaid_masked hlay hm (fun g hg => ?_) f
    obtain ⟨j, hj, hkj, rfl⟩ := habove g hg
    exact h j hj hkj

end

/-! ## Base faces and emphasis (R98, R100, R101) -/

theorem isArrow_iff (x : FaceSymbol) : isArrow x = true ↔ ∃ d, x = .arrow d := by
  cases x <;> simp [isArrow]

theorem baseSymbol_link {map : List (Nat × Nat)} {k d : Nat} (h : mapDirection map k = some d) (o hop : Nat)
    (evac : EvacState) : baseSymbol map (.link k o hop) evac = .arrow d := by
  simp only [baseSymbol, h]

theorem noneSymbol_eq (evac : EvacState) : noneSymbol evac = if evac = .quiet then .blank else .noRoute := by
  cases evac <;> rfl

theorem emphasisFlash_eq (timer : Timer) : emphasisFlash timer = if timer = none then .slow else .fast := by
  cases timer <;> rfl

theorem emphasisUpdate_eq (evac : EvacState) (last : Option FaceSymbol) (base : FaceSymbol) (ticks : Nat)
    (timer : Timer) :
    emphasisUpdate evac last base ticks timer =
      if evac = .active ∧ last ≠ none ∧ last ≠ some base then some ticks else timer := by
  cases last <;> simp [emphasisUpdate, eq_comm]

theorem composeSign_flashOpen (h : Header) (table : Vector GroupRec 16) (evac : EvacState) (ticks : Nat)
    (set : HeadingSet) (x : SignRec) (g : SignRun) :
    (composeSign h table evac ticks set x g).flashOpen = true ↔
      evac = .active ∧ (∃ d, baseSymbol x.map (headingAt set g.node).choice evac = .arrow d) ∧
        ∀ k, GroupApplies table x.groups evac k → table[k].maskFlash = false := by
  rw [← isArrow_iff, ← forall_mem_applyingGroups table x.groups evac (·.maskFlash = false)]
  simp [composeSign, and_assoc, and_left_comm]

/-- Settles O51: GROUP SET by what its bytes name, a composed face field by field, and the base faces case by case. -/
theorem group_set_and_faces : Obligations.group_set_and_faces := by
  refine ⟨fun tag n en cl ms mf ml sym dir fl level s hs => ⟨fun h => ?_, fun k g hk hen hcl hms hmf hml hsy hfl hl => ?_⟩,
    fun h table evac ticks set x g => ?_, fun h evac map k d o hop timer => ?_⟩
  · exact turnedAway_of _ _ rfl hs (answerGroupSet_badValue h)
  · obtain ⟨_, _, hw, _, _⟩ := id hs
    exact answers_of _ _ s _ _ _ rfl hs hw (answerGroupSet_ok hk ⟨hen, hcl, hms, hmf, hml, hsy, hfl⟩ hl)
  · intro base new face applies
    obtain ⟨hsymbol, hsymbols⟩ := overlaid_applying (get := Face.symbol) (fun _ _ => rfl) table x.groups evac face
    obtain ⟨hflash, hflashes⟩ := overlaid_applying (get := Face.flash) (fun _ _ => rfl) table x.groups evac face
    obtain ⟨hlevel, hlevels⟩ := overlaid_applying (get := Face.level) (fun _ _ => rfl) table x.groups evac face
    exact ⟨rfl, composeSign_flashOpen h table evac ticks set x g,
      ⟨_, rfl, hsymbol, hflash, hlevel, hsymbols, hflashes, hlevels⟩, emphasisUpdate_eq _ _ _ _ _⟩
  · refine ⟨fun hd => baseSymbol_link hd o hop evac, rfl, noneSymbol_eq evac, rfl, rfl, ?_, rfl, rfl, rfl, rfl, rfl, rfl⟩
    rw [← emphasisFlash_eq]
    rfl

end Sys2Proof.Machine
end

section
/-! SUPPORT. The refresh timer, and the start of a cycle: its order and the frame that begins it (R105, R113, R116 to
R118, R124, R125): O57. -/

namespace Sys2Proof.Machine

/-! ## The refresh timer (R113) -/

section
variable {s : State}

theorem exec_refreshTimerExpiry (h : s.phase = .running) : exec .refreshTimerExpiry s = .next (refreshExpiry s) :=
  congrArg _ (whenRunning_running h _)

theorem requestStart_starts (h : s.slc.exchange = none) : requestStart s = cycleStart s := by
  simp [requestStart, h]

theorem requestStart_waits (h : s.slc.exchange ≠ none) :
    requestStart s = s.onSlc fun c => { c with startWaiting := true } :=
  if_pos (Option.isSome_iff_ne_none.2 h)

theorem refreshExpiry_reloads (hd : s.slc.refresh = some 0)
    (h : s.slc.cycle = .dormant ∨ s.slc.cycle = .idle ∧ s.mark .sign = .halted) :
    refreshExpiry s = restartRefresh s := by
  rcases h with h | ⟨h, hm⟩
  · simp [refreshExpiry, timerDue, hd, h]
  · simp [refreshExpiry, timerDue, hd, h, hm]

theorem refreshExpiry_requests (hd : s.slc.refresh = some 0) (h : s.slc.cycle = .idle)
    (hm : s.mark .sign = .running) : refreshExpiry s = requestStart (restartRefresh s) := by
  simp [refreshExpiry, timerDue, hd, h, hm]

theorem refreshExpiry_pends (hd : s.slc.refresh = some 0) (h : s.slc.cycle = .cycling) :
    refreshExpiry s = (restartRefresh s).onSlc fun c => { c with startPending := true } := by
  simp [refreshExpiry, timerDue, hd, h]

end

/-! ## The faces of a cycle (R105) -/

theorem composeAll_getElem? (p : Plan) (table : Vector GroupRec 16) (evac : EvacState) (set : HeadingSet)
    (signs : List SignRun) (i : Nat) :
    (composeAll p table evac set signs)[i]? = signs[i]?.map fun g =>
      p.signs[i]?.elim g fun x => composeSign p.header table evac (timingTicks p.header.emphasis) set x g := by
  simp only [composeAll, List.getElem?_map, List.getElem?_zipIdx, Option.map_map, Nat.zero_add]
  congr 1
  funext g
  cases h : p.signs[i]? <;> simp [h]

/-- Composition leaves a sign's health, and so its place in the order, as it was. -/
theorem composeAll_placed (p : Plan) (table : Vector GroupRec 16) (evac : EvacState) (set : HeadingSet)
    (signs : List SignRun) (number i : Nat) :
    (composeAll p table evac set signs)[i]?.any (placed number) = signs[i]?.any (placed number) := by
  rw [composeAll_getElem?]
  cases signs[i]? with
  | none => rfl
  | some g => cases p.signs[i]? <;> rfl

/-! ## The order of a cycle (R117) -/

/-- The table places of the signs of a kind, rising. -/
def signsWhere (q : SignRun → Bool) (signs : List SignRun) : List Nat :=
  (List.range signs.length).filter fun i => signs[i]?.any q

theorem zipIdx_filter_snd (q : SignRun → Bool) (signs : List SignRun) :
    (signs.zipIdx.filter fun g => q g.1).map (·.2) = signsWhere q signs := by
  have hq : ∀ g ∈ signs.zipIdx, q g.1 = signs[g.2]?.any q := fun g hg => by
    rw [List.mem_zipIdx_iff_getElem?.1 hg, Option.any_some]
  calc (signs.zipIdx.filter fun g => q g.1).map (·.2)
      = (signs.zipIdx.filter ((fun i => signs[i]?.any q) ∘ (·.2))).map (·.2) :=
        congrArg (List.map (·.2)) (List.filter_congr hq)
    _ = (signs.zipIdx.map (·.2)).filter fun i => signs[i]?.any q := List.filter_map.symm
    _ = signsWhere q signs := by
        rw [List.zipIdx_map_snd, ← List.range_eq_range']
        rfl

theorem signsWhere_nodup (q : SignRun → Bool) (signs : List SignRun) : (signsWhere q signs).Nodup :=
  List.nodup_range.filter _

theorem mem_signsWhere {q : SignRun → Bool} {signs : List SignRun} {i : Nat} :
    i ∈ signsWhere q signs ↔ signs[i]?.any q = true := by
  simp only [signsWhere, List.mem_filter, List.mem_range, and_iff_right_iff_imp]
  intro h
  obtain ⟨g, hg, _⟩ := (Option.any_eq_true _ _).1 h
  exact (List.getElem?_eq_some_iff.1 hg).1

theorem signsWhere_count (q : SignRun → Bool) (signs : List SignRun) (i : Nat) :
    ((signsWhere q signs).map OrderEntry.sign).count (.sign i) = if signs[i]?.any q then 1 else 0 := by
  rw [List.count_map_of_injective _ _ fun _ _ h => OrderEntry.sign.inj h, (signsWhere_nodup q signs).count]
  simp only [mem_signsWhere]

theorem cycleOrder_eq (removal : List Nat) (number : Nat) (signs : List SignRun) :
    cycleOrder removal number signs =
      removal.map .blank ++ (signsWhere (fun g => placed number g && faceChanged g) signs).map .sign ++
        (signsWhere (fun g => placed number g && !faceChanged g) signs).map .sign := by
  simp only [← zipIdx_filter_snd, List.map_map, cycleOrder, List.filter_filter, Bool.and_comm]
  rfl

/-- Every placed sign stands in the order once, among the changed ones or among the others. -/
theorem cycleOrder_count (removal : List Nat) (number : Nat) (signs : List SignRun) (i : Nat) :
    (cycleOrder removal number signs).count (.sign i) = if signs[i]?.any (placed number) then 1 else 0 := by
  have hblank : (removal.map OrderEntry.blank).count (.sign i) = 0 := List.count_eq_zero.2 (by simp)
  rw [cycleOrder_eq, List.count_append, List.count_append, hblank, signsWhere_count, signsWhere_count]
  cases signs[i]? with
  | none => rfl
  | some g => cases hp : placed number g <;> cases hc : faceChanged g <;> simp [hp, hc]

section
variable (number : Nat) (g : SignRun)

theorem placed_iff : placed number g = true ↔ g.state ≠ .lost ∨ number = 0 := decide_eq_true_iff

theorem faceChanged_iff : faceChanged g = true ↔ g.lastFace = none ∨ g.lastFace ≠ g.composed := by
  simp [faceChanged]

theorem placed_and_changed :
    (placed number g && faceChanged g) =
      decide ((g.state ≠ .lost ∨ number = 0) ∧ (g.lastFace = none ∨ g.lastFace ≠ g.composed)) := by
  rw [Bool.eq_iff_iff, Bool.and_eq_true, placed_iff, faceChanged_iff, decide_eq_true_iff]

theorem placed_and_unchanged :
    (placed number g && !faceChanged g) =
      decide ((g.state ≠ .lost ∨ number = 0) ∧ (g.lastFace ≠ none ∧ g.lastFace = g.composed)) := by
  rw [Bool.eq_iff_iff, Bool.and_eq_true, placed_iff, Bool.not_eq_true', ← Bool.not_eq_true, faceChanged_iff,
    decide_eq_true_iff, not_or, not_not]

end

/-! ## The frame of an entry (R118, R124) -/

section
variable {c : SignLine}

/-- The frame of an entry hangs on the signs and the adopted set alone. -/
theorem entryFrame_congr {d : SignLine} (hs : c.signs = d.signs) (ha : c.adopted = d.adopted) (e : OrderEntry) :
    entryFrame c e = entryFrame d e := by
  cases e <;> simp [entryFrame, epochByteOf, hs, ha]

theorem epochByteOf_adopted {a : Adopted} (h : c.adopted = some a) : epochByteOf c = a.epoch % 256 := by
  simp [epochByteOf, h]

theorem entryFrame_epochByte (c : SignLine) (e : OrderEntry) : (entryFrame c e).epochByte = epochByteOf c := by
  unfold entryFrame
  (repeat' split) <;> rfl

theorem settledFace_composed {g : SignRun} {f : Face} (h : g.composed = some f) :
    settledFace g =
      if g.flashOpen then { f with flash := if g.emphasis = none then .slow else .fast } else f := by
  simp only [settledFace, h, emphasisFlash_eq]

theorem entryFrame_sign {i : Nat} {g : SignRun} {f : Face} (hg : c.signs[i]? = some g) (hf : g.composed = some f) :
    entryFrame c (.sign i) =
      { target := .sign i, address := g.address
        face := if g.flashOpen then { f with flash := if g.emphasis = none then .slow else .fast } else f
        epochByte := epochByteOf c, phase := .sending } := by
  simp only [entryFrame, hg, settledFace_composed hf]

/-! ## The start of a cycle (R116, R117, R125) -/

theorem beginEntry_empty (h : c.order = []) : beginEntry c = { c with cycle := .idle, exchange := none } := by
  simp [beginEntry, h]

theorem beginEntry_first {first : OrderEntry} {rest : List OrderEntry} (h : c.order = first :: rest)
    (hp : c.position = 0) : beginEntry c = { c with exchange := some (entryFrame c first) } := by
  simp [beginEntry, h, hp]

/-- A frame that begins, or the want of one, changes the cycle state and the exchange alone. -/
theorem beginEntry_keeps (c : SignLine) :
    beginEntry c = { c with cycle := (beginEntry c).cycle, exchange := (beginEntry c).exchange } := by
  unfold beginEntry
  split <;> rfl

end

theorem cycleStart_planless {s : State} (h : s.ps.active = none) : cycleStart s = s.onSlc fallbackStart := by
  simp only [cycleStart, h]

theorem cycleStart_adopts {s : State} {p : Plan} {set : HeadingSet} (hp : s.ps.active = some p)
    (hset : s.rsv.published = some set) :
    cycleStart s = s.onSlc fun c => beginEntry (cycleStartOn p set s.rsv.epoch s.zh.evac c) := by
  simp only [cycleStart, hp, hset]

section
variable {s : State} {p : Plan} {set : HeadingSet} (hp : s.ps.active = some p) (hset : s.rsv.published = some set)
include hp hset

theorem cycleStart_keeps :
    (cycleStart s).slc = { cycleStartOn p set s.rsv.epoch s.zh.evac s.slc with
      cycle := (cycleStart s).slc.cycle, exchange := (cycleStart s).slc.exchange } := by
  rw [cycleStart_adopts hp hset]
  exact beginEntry_keeps _

theorem cycleStart_frame : cycleStart s = { s with slc := (cycleStart s).slc } := by
  rw [cycleStart_adopts hp hset]
  rfl

theorem cycleStart_adopted : (cycleStart s).slc.adopted = some { set := set, epoch := s.rsv.epoch } :=
  congrArg SignLine.adopted (cycleStart_keeps hp hset)

theorem cycleStart_signs :
    (cycleStart s).slc.signs = composeAll p s.slc.groups s.zh.evac set s.slc.signs :=
  congrArg SignLine.signs (cycleStart_keeps hp hset)

theorem cycleStart_order :
    (cycleStart s).slc.order = cycleOrder s.slc.removal (cycleStart s).slc.number (cycleStart s).slc.signs := by
  rw [cycleStart_keeps hp hset]
  rfl

theorem cycleStartOn_order :
    (cycleStartOn p set s.rsv.epoch s.zh.evac s.slc).order = (cycleStart s).slc.order :=
  (congrArg SignLine.order (cycleStart_keeps hp hset)).symm

/-- A cycle whose order is empty ends as it starts. -/
theorem cycleStart_empty (h : (cycleStart s).slc.order = []) :
    (cycleStart s).slc.cycle = .idle ∧ (cycleStart s).slc.exchange = none := by
  have hbegin := beginEntry_empty ((cycleStartOn_order hp hset).trans h)
  rw [cycleStart_adopts hp hset, State.onSlc, hbegin]
  exact ⟨rfl, rfl⟩

/-- The frame of the order's first entry begins with the cycle. -/
theorem cycleStart_first {first : OrderEntry} {rest : List OrderEntry}
    (h : (cycleStart s).slc.order = first :: rest) :
    (cycleStart s).slc.cycle = .cycling ∧
      (cycleStart s).slc.exchange = some (entryFrame (cycleStart s).slc first) := by
  have hbegin := beginEntry_first ((cycleStartOn_order hp hset).trans h) rfl
  rw [cycleStart_adopts hp hset, State.onSlc, hbegin]
  exact ⟨rfl, congrArg some (entryFrame_congr rfl rfl first)⟩

/-- A cycle's first frame carries the low byte of the published set's epoch. -/
theorem cycleStart_epochByte (e : OrderEntry) :
    (entryFrame (cycleStart s).slc e).epochByte = s.rsv.epoch % 256 := by
  rw [entryFrame_epochByte, epochByteOf_adopted (cycleStart_adopted hp hset)]

end

/-- Settles O57: the refresh timer by the controller's state, a cycle start on a plan, and one without. -/
theorem refresh_and_cycle_start : Obligations.refresh_and_cycle_start := by
  refine ⟨fun s hrun hd => ?_, fun s p set hp hset _ => ?_, fun s hn => cycleStart_planless hn⟩
  · intro s1
    rw [exec_refreshTimerExpiry hrun]
    refine ⟨fun h => ?_, fun h hm hx => ?_, fun h hm hx => ?_, fun h => ?_⟩
    · rw [refreshExpiry_reloads hd h]
      rfl
    · rw [refreshExpiry_requests hd h hm]
      exact congrArg _ (requestStart_starts hx)
    · rw [refreshExpiry_requests hd h hm]
      exact congrArg _ (requestStart_waits hx)
    · rw [refreshExpiry_pends hd h]
      rfl
  · intro t
    have hkeeps : t.slc = _ := cycleStart_keeps hp hset
    have horder : t.slc.order = cycleOrder s.slc.removal t.slc.number t.slc.signs := cycleStart_order hp hset
    have hsigns : t.slc.signs = _ := cycleStart_signs hp hset
    refine ⟨cycleStart_frame hp hset, congrArg SignLine.number hkeeps, cycleStart_adopted hp hset,
      congrArg SignLine.adoptedGroups hkeeps, congrArg SignLine.cycleEvac hkeeps,
      congrArg SignLine.noRouteCount hkeeps, congrArg SignLine.startPending hkeeps,
      congrArg SignLine.cutPending hkeeps, (congrArg SignLine.removal hkeeps :), (congrArg SignLine.groups hkeeps :),
      (congrArg SignLine.refresh hkeeps :), congrArg SignLine.position hkeeps, cycleStart_empty hp hset,
      fun first rest h => ?_, ?_, fun i => ?_, fun i g x hg hpx => ?_⟩
    · obtain ⟨hcycle, hframe⟩ := cycleStart_first hp hset h
      refine ⟨hcycle, _, hframe, entryFrame_sending _ _, cycleStart_epochByte hp hset first, rfl, ?_, ?_⟩
      · rintro a rfl
        exact ⟨rfl, rfl, rfl⟩
      · rintro i g f rfl hg hf
        rw [entryFrame_sign hg hf]
        exact ⟨rfl, rfl, rfl⟩
    · intro sign changed others
      have hsign (i : Nat) (test : SignRun → Prop) [DecidablePred test] : sign i test =
          t.slc.signs[i]?.any fun g => decide ((g.state ≠ .lost ∨ t.slc.number = 0) ∧ test g) := by
        simp only [sign]
        cases t.slc.signs[i]? <;> rfl
      rw [horder, cycleOrder_eq]
      simp only [changed, others, hsign, signsWhere, placed_and_changed, placed_and_unchanged]
    · rw [horder, cycleOrder_count, hsigns, composeAll_placed]
      cases s.slc.signs[i]? with
      | none => rfl
      | some g =>
        show (if placed t.slc.number g then 1 else 0) = if g.state = .lost ∧ t.slc.number ≠ 0 then 0 else 1
        by_cases hlost : g.state = .lost ∧ t.slc.number ≠ 0
        · simp [placed, hlost]
        · rw [if_neg hlost, if_pos ((placed_iff _ _).2 ((not_and_or.1 hlost).imp_right not_not.1))]
    · simp [hsigns, composeAll_getElem?, hg, hpx]

end Sys2Proof.Machine
end

section
/-! SUPPORT. Characters and their levels, what a receiver does with each sequence of characters, and the frame each line
is sending (R118, R145, R158, R172, R182 to R188): O22. -/

namespace Sys2Proof.Machine

/-! ## Parity and errors of a character (R184) -/

/-- The number of ones among the data bits of a character. -/
def dataOnes (b : Byte) : Nat := ((List.range 8).filter fun i => b.getLsbD i).length

theorem foldl_xor_eq {α : Type} (g : α → Bool) (l : List α) : ∀ acc : Bool,
    l.foldl (fun acc i => xor acc (g i)) acc = xor acc (decide ((l.filter g).length % 2 = 1)) := by
  induction l with
  | nil => simp
  | cons a l ih =>
    intro acc
    rw [List.foldl_cons, ih, List.filter_cons]
    cases g a with
    | false => simp
    | true => cases acc <;> simp [Nat.succ_mod_two_eq_one_iff, ← decide_not]

theorem oddOnes_eq (b : Byte) : oddOnes b = decide (dataOnes b % 2 = 1) :=
  (foldl_xor_eq b.getLsbD (List.range 8) false).trans (Bool.false_xor _)

/-- A parity bit differs from the oddness of the ones exactly where the two together are odd. -/
theorem xor_odd (p : Bool) (n : Nat) : (xor p (decide (n % 2 = 1)) = true ↔ (n + p.toNat) % 2 = 1) := by
  cases p with
  | false => simp
  | true => simp [Nat.succ_mod_two_eq_one_iff]

theorem charError_iff (f : Format) (c : RxChar) :
    charError f c = true ↔
      c.stop = false ∨ (f.parity = .even ∧ (dataOnes c.data + c.parity.toNat) % 2 = 1) ∨
        (f.parity = .odd ∧ (dataOnes c.data + c.parity.toNat) % 2 = 0) := by
  have hxor := xor_odd c.parity (dataOnes c.data)
  rw [← oddOnes_eq] at hxor
  have hnot : (!xor c.parity (oddOnes c.data)) = true ↔ (dataOnes c.data + c.parity.toNat) % 2 = 0 := by
    rw [Bool.not_eq_true', ← Bool.not_eq_true, hxor, Nat.mod_two_not_eq_one]
  cases hp : f.parity <;> simp only [charError, hp, Bool.or_eq_true, Bool.not_eq_true', hxor, hnot] <;> simp

theorem sendChar_stop (f : Format) (b : Byte) : (sendChar f b).stop = true := rfl

theorem sendChar_parity_unused {f : Format} (h : f.parity = .none ∨ f.parity = .zero) (b : Byte) :
    (sendChar f b).parity = false := by
  rcases h with h | h <;> simp only [sendChar, h]

/-- Every character of a frame is one that is sent. -/
theorem mem_frameChars {f : Format} {body : List Byte} {c : RxChar} (h : c ∈ frameChars f body) :
    ∃ b, c = sendChar f b := by
  obtain ⟨b, _, rfl⟩ := List.mem_map.1 h
  exact ⟨b, rfl⟩

/-! ## The levels of a character (R184) -/

/-- The levels of a character's parity bit in a format, none where the parity is NONE. -/
def parityLevels (f : Format) (b : Byte) : List Bool :=
  match f.parity with
  | .none => []
  | .even => [decide (dataOnes b % 2 = 1)]
  | .odd => [decide (dataOnes b % 2 = 0)]
  | .zero => [false]

theorem parityLevels_eq (f : Format) (b : Byte) :
    parityLevels f b = if f.parity = .none then [] else [(sendChar f b).parity] := by
  unfold parityLevels
  cases hp : f.parity <;> simp [sendChar, hp, oddOnes_eq, ← decide_not]

theorem charLevels_eq (f : Format) (b : Byte) :
    charLevels f b =
      [false, b.getLsbD 0, b.getLsbD 1, b.getLsbD 2, b.getLsbD 3, b.getLsbD 4, b.getLsbD 5, b.getLsbD 6,
        b.getLsbD 7] ++ parityLevels f b ++ List.replicate f.stop true := by
  rw [parityLevels_eq]
  rfl

/-- Eight bits are the bits of the byte they make. -/
theorem bits_byteOfBits {data : List Bool} (h : data.length = 8) :
    (List.range 8).map (byteOfBits data).getLsbD = data := by
  match data, h with
  | [a, b, c, d, e, f, g, k], _ =>
    revert a b c d e f g k
    decide

theorem byteOfBits_getLsbD {data : List Bool} (h : data.length = 8) {i : Nat} (hi : i < 8) :
    data[i]? = some ((byteOfBits data).getLsbD i) := by
  conv_lhs => rw [← bits_byteOfBits h]
  simp [hi]

/-- What a receiver reads from a start bit, eight data bits, the parity bit of the format and a stop bit. -/
theorem readChar_levels (f : Format) {data : List Bool} (p stop : Bool) (more : List Bool) (h : data.length = 8) :
    readChar f (false :: (data ++ (if f.parity = .none then [] else [p]) ++ stop :: more)) =
      some { data := byteOfBits data, parity := decide (f.parity ≠ .none) && p, stop := stop } := by
  by_cases hp : f.parity = .none <;> simp [readChar, hp, ← h]

/-! ## Character times (R183) -/

/-- The speeds of R154 divide the crystal. -/
theorem charCycles_mul {f : Format} (h : f.speed ∈ [1200, 2400, 4800, 9600, 19200, 38400, 57600, 115200]) :
    charCycles f * f.speed = charBits f * 14745600 := by
  have hdvd : f.speed ∣ Config.characterCrystal := by
    revert h
    generalize f.speed = n
    simp only [List.mem_cons, List.not_mem_nil, or_false]
    rintro (rfl | rfl | rfl | rfl | rfl | rfl | rfl | rfl) <;> decide
  rw [charCycles, Nat.mul_assoc, Nat.div_mul_cancel hdvd]
  rfl

theorem gapAborts_iff {f : Format} (h : f.speed ∈ [1200, 2400, 4800, 9600, 19200, 38400, 57600, 115200]) (n : Nat) :
    gapAborts f n = true ↔ 10 * charBits f * 14745600 < n * f.speed := by
  have hpos : 0 < f.speed := Nat.pos_of_ne_zero fun h0 => by simp [h0] at h
  rw [gapAborts, decide_eq_true_iff, Nat.mul_assoc, ← charCycles_mul h, ← Nat.mul_assoc, Nat.mul_lt_mul_right hpos]

/-! ## What a receiver does with a sequence of characters (R183) -/

/-- Characters of a frame already handed on are dropped. -/
theorem scan_drop (f : Format) (cs : List RxChar) : ∀ k, scan f k cs = scan f 0 (cs.drop k) := by
  induction cs with
  | nil => intro k; cases k <;> rfl
  | cons c cs ih =>
    intro k
    cases k with
    | zero => rfl
    | succ k => exact ih k

theorem scan_hunts {f : Format} {c : RxChar} (h : c.data ≠ 0xA5 ∨ charError f c = true) (tail : List RxChar) :
    scan f 0 (c :: tail) = scan f 0 tail := by
  have : ¬ (c.data = syncByte && !charError f c) = true := by
    rcases h with h | h
    · exact fun hc => h (of_decide_eq_true (Bool.and_eq_true _ _ ▸ hc).1)
    · simp [h]
  rw [scan, if_neg this]

/-- From a SYNC without error, the characters after it are tried as a frame. -/
theorem scan_sync {f : Format} {c : RxChar} (hc : c.data = 0xA5) (he : charError f c = false) (tail : List RxChar) :
    scan f 0 (c :: tail) =
      match tryFrame f tail with
      | .incomplete => ([], c :: tail)
      | .noFrame => scan f 0 tail
      | .wrong err => (.badCheck err :: (scan f 0 tail).1, (scan f 0 tail).2)
      | .complete body err k => (.frame body err :: (scan f 0 (tail.drop k)).1, (scan f 0 (tail.drop k)).2) := by
  have : (c.data = syncByte && !charError f c) = true := by simp [syncByte, hc, he]
  rw [scan, if_pos this]
  cases tryFrame f tail with
  | complete body err k => simp only [scan_drop f tail k]
  | _ => rfl

section
variable (f : Format) {len : RxChar} {after : List RxChar}

theorem tryFrame_impossible (h : len.data.toNat = 0 ∨ 251 ≤ len.data.toNat) :
    tryFrame f (len :: after) = .noFrame := if_pos h

theorem tryFrame_short (h1 : 1 ≤ len.data.toNat) (h2 : len.data.toNat ≤ 250)
    (h : after.length < len.data.toNat + 2) : tryFrame f (len :: after) = .incomplete := by
  have hfits : ¬ (len.data.toNat = 0 ∨ 250 < len.data.toNat) := by omega
  exact (if_neg hfits).trans (if_pos h)

/-- Enough characters after a SYNC are a frame with a correct check value, or one with a wrong one. -/
theorem tryFrame_long (h1 : 1 ≤ len.data.toNat) (h2 : len.data.toNat ≤ 250)
    (h : len.data.toNat + 2 ≤ after.length) :
    let n := len.data.toNat
    let bytes := (after.take (n + 2)).map (·.data)
    let err := (len :: after.take (n + 2)).any (charError f)
    tryFrame f (len :: after) =
      if bytes.drop n = byte2 (crc16 (len.data :: bytes.take n)) then .complete (bytes.take n) err (n + 3)
      else .wrong err := by
  intro n bytes err
  have hfits : ¬ (n = 0 ∨ 250 < n) := by omega
  have htake : bytes.take n = (after.take n).map (·.data) := by
    rw [← List.map_take, List.take_take, Nat.min_eq_left (Nat.le_add_right n 2)]
  have hdrop : bytes.drop n = ((after.drop n).take 2).map (·.data) := by
    rw [← List.map_drop, List.drop_take, Nat.add_sub_cancel_left]
  rw [htake, hdrop]
  exact (if_neg hfits).trans (if_neg h.not_gt)

end

/-- A receiver given characters one by one hands on, and retains, what it does of all of them at once. -/
theorem foldl_receiveChar (f : Format) (chars : List RxChar) :
    chars.foldl (fun r c => (r.1 ++ (receiveChar f r.2 c).1, (receiveChar f r.2 c).2)) ([], []) =
      scan f 0 chars := by
  induction chars using List.reverseRecOn with
  | nil => rfl
  | append_singleton chars c ih =>
    rw [List.foldl_append, ih, scan_append f chars 0 [c] (Nat.zero_le _)]
    rfl

/-- A whole frame is handed on after characters of which nothing is retained. -/
theorem scan_append_whole {f : Format} {body : List Byte} (h1 : 1 ≤ body.length) (h2 : body.length ≤ 250)
    {before : List RxChar} {found : List RxEvent} (h : scan f 0 before = (found, [])) :
    scan f 0 (before ++ frameChars f body) = (found ++ [.frame body false], []) := by
  rw [scan_append f before 0 _ (Nat.zero_le _), h, List.nil_append, scan_whole f h1 h2]

/-! ## The frame a line is sending (R182, R185, R187, R188) -/

section
variable {s : State}

theorem sentFrame_of_body {id : LineId} {body : Option (List Byte)} (h : sentBody s id = body) :
    sentFrame s id = body.map (frameChars (lineGet s.lines id).inUse) := congrArg _ h

theorem sentLevels_eq (s : State) (id : LineId) :
    sentLevels s id = (sentFrame s id).map fun chars =>
      chars.flatMap fun c => charLevels (lineGet s.lines id).inUse c.data := by
  rw [sentLevels, sentFrame, Option.map_map]
  congr 1
  funext body
  simp only [frameLevels, Function.comp_apply, frameChars, List.flatMap_map, sendChar_data]

theorem driverEnable_eq (s : State) : driverEnable s = (sentFrame s .sign).isSome := by
  rw [sentFrame, Option.isSome_map]
  unfold driverEnable sentBody sentSign
  cases s.slc.exchange with
  | none => rfl
  | some e => by_cases h : e.phase = .sending <;> simp [h]

theorem sentSign_sending {e : Exchange} (hx : s.slc.exchange = some e) (hp : e.phase = .sending) :
    sentBody s .sign = some (exchangeBody e) := by
  simp [sentBody, sentSign, hx, hp]

theorem sentSign_silent (h : ∀ e, s.slc.exchange = some e → e.phase ≠ .sending) : sentBody s .sign = none := by
  show sentSign s.slc = none
  unfold sentSign
  split
  · next e he => exact if_neg (h e he)
  · rfl

theorem exchangeBody_show {e : Exchange} (h : e.target ≠ .fallback) :
    exchangeBody e = showBody e.address e.face e.epochByte := by
  unfold exchangeBody
  split
  · contradiction
  · rfl

theorem sentBody_port (port : PeerPort) :
    sentBody s (portLine port) = (portGet s.pp port).sending.map fun f => advertBody f.frame := by
  cases port <;> rfl

end

/-- Settles O22: layout and characters, levels, character times, the receiver, and what each line sends. -/
theorem whole_frame_is_handed_on : Obligations.whole_frame_is_handed_on := by
  refine ⟨fun body => rfl, Tests.test_check_value, ⟨charError_iff, fun f body => ⟨frameChars_data f body, ?_⟩⟩, ?_,
    fun f => ⟨rfl, fun h => ⟨charCycles_mul h, gapAborts_iff h⟩⟩, ?_, foldl_receiveChar,
    fun f body h1 h2 => ⟨scan_whole f h1 h2, fun before found => scan_append_whole h1 h2⟩, ?_⟩
  · intro c hc
    obtain ⟨b, rfl⟩ := mem_frameChars hc
    exact ⟨sendChar_stop f b, charError_sendChar f b, fun h => sendChar_parity_unused h b⟩
  · intro ones f b parity
    exact ⟨charLevels_eq f b, charLevels_length f b, fun data p stop more h =>
      ⟨_, readChar_levels f p stop more h, fun i hi => byteOfBits_getLsbD h hi, rfl, rfl⟩, readChar_charLevels f b⟩
  · refine fun f c tail => ⟨rfl, fun h => scan_hunts h tail, fun hc he => ⟨scan_sync hc he [], ?_⟩⟩
    rintro len after rfl n bytes body err
    rw [scan_sync hc he]
    refine ⟨fun h => ?_, fun h1 h2 h => ?_, fun h1 h2 h => ?_⟩
    · rw [tryFrame_impossible f h]
    · rw [tryFrame_short f h1 h2 h]
    · rw [tryFrame_long f h1 h2 h]
      refine ⟨fun hcheck => ?_, fun hcheck => ?_⟩
      · rw [if_pos hcheck]
        rfl
      · rw [if_neg hcheck]
  · intro s out
    refine ⟨fun h => ?_, fun r h hr => ?_, fun body h => ?_, rfl, fun h => ?_,
      fun e he => ⟨fun hp => ?_, fun hp ht => ?_, fun hp ht => ?_⟩, sentLevels_eq s, driverEnable_eq s, fun port => ⟨fun h => ?_, fun f h => ?_⟩⟩
    · exact sentFrame_of_body (body := none) (by simp [sentBody, sentMessage, h])
    · exact sentFrame_of_body (body := some (replyBody r)) (by simp [sentBody, sentMessage, h, hr])
    · exact sentFrame_of_body (body := some body) (by simp [sentBody, sentMessage, h])
    · exact sentFrame_of_body (sentSign_silent (by simp [h]))
    · exact sentFrame_of_body (sentSign_silent (by simpa [he] using hp))
    · rw [sentFrame_of_body (sentSign_sending he hp), exchangeBody, ht]
      rfl
    · rw [sentFrame_of_body (sentSign_sending he hp), exchangeBody_show ht]
      rfl
    · rw [sentFrame_of_body (sentBody_port port), h]
      rfl
    · rw [sentFrame_of_body (sentBody_port port), h]
      rfl

end Sys2Proof.Machine
end

section
/-! SUPPORT. The exchange on the sign line (R115, R118 to R128): the frame of an entry, the window and its outcomes, the
sign's record, the end of an exchange and of a cycle, and the emphasis timer: O58. -/

namespace Sys2Proof.Machine

variable {s : State} {e : Exchange}

/-! ## The events of the sign line while the part runs -/

section
variable (hrun : s.phase = .running)
include hrun

theorem exec_showFrameSent : exec .showFrameSent s = .next (showSent s) :=
  congrArg _ (whenRunning_running hrun _)

theorem exec_fallbackFrameSent : exec .fallbackFrameSent s = .next (fallbackSent s) :=
  congrArg _ (whenRunning_running hrun _)

theorem exec_replyWindowClose : exec .replyWindowClose s = .next (windowClosed s) :=
  congrArg _ (whenRunning_running hrun _)

/-- One character received on the sign line. -/
theorem exec_signFrameReceived (c : RxChar) : exec (.signFrameReceived [c]) s = .next (signChar s c) :=
  congrArg _ (whenRunning_running hrun _)

theorem exec_emphasisTimerExpiry (i : Nat) : exec (.emphasisTimerExpiry i) s = .next (emphasisExpiry i s) :=
  congrArg _ (whenRunning_running hrun _)

end

/-! ## The phase of an exchange -/

theorem setPhase_eq (hx : s.slc.exchange = some e) (ph : ExchangePhase) :
    setPhase ph s = { s with slc := { s.slc with exchange := some { e with phase := ph } } } := by
  simp [setPhase, State.onSlc, hx]

/-! ## A frame handed on (R119, R120) -/

theorem signEvent_frame_error (s : State) (body : List Byte) : signEvent s (.frame body true) = s := rfl

theorem signEvent_badCheck (s : State) (err : Bool) : signEvent s (.badCheck err) = s := rfl

/-- An exchange with a sign, of the table or of a former plan, has an outcome. -/
theorem hasOutcome_of_sign (h : (∃ i, e.target = .sign i) ∨ ∃ i g limit, e.target = .former i g limit) :
    hasOutcome e.target = true := by
  rcases h with ⟨i, h⟩ | ⟨i, g, limit, h⟩ <;> rw [h] <;> rfl

/-- No exchange with a sign has its window open and undecided: whatever is received is stray. -/
def NoReplyAwaited (c : SignLine) : Prop :=
  ∀ e, c.exchange = some e → e.phase = .window none → hasOutcome e.target = false

theorem noReplyAwaited_blank (hx : s.slc.exchange = some e) (ht : e.target = .blank) : NoReplyAwaited s.slc := by
  simp [NoReplyAwaited, hx, ht, hasOutcome]

theorem noReplyAwaited_decided (h : ∀ e, s.slc.exchange = some e → e.phase ≠ .window none) : NoReplyAwaited s.slc :=
  fun e he hw => absurd hw (h e he)

theorem signEvent_stray (h : NoReplyAwaited s.slc)
    (ev : RxEvent) : signEvent s ev = s := by
  unfold signEvent
  split
  · next body e he =>
    by_cases hw : e.phase = .window none
    · simp [h e he hw]
    · simp [hw]
  · rfl

/-- Events that each leave the state leave it together. -/
theorem foldl_signEvent_stray (h : ∀ ev, signEvent s ev = s) (evs : List RxEvent) : evs.foldl signEvent s = s := by
  induction evs with
  | nil => rfl
  | cons ev evs ih => rw [List.foldl_cons, h, ih]

/-- A frame in an undecided window is judged. -/
theorem signEvent_judged (hx : s.slc.exchange = some e) (hw : e.phase = .window none) (ht : hasOutcome e.target = true)
    (body : List Byte) :
    signEvent s (.frame body false) =
      match judgeReply e body with
      | .taken lamp => exchangeEnded (replyTaken e.target lamp s)
      | .mismatch => setPhase (.window (some .echoMismatch)) s
      | .stray => s := by
  simp only [signEvent, hx, hw, ht]
  rfl

theorem lampOf_lampCode (lamp : Lamp) : lampOf (byte1 (lampCode lamp)).toNat = some lamp := by
  cases lamp <;> rfl

theorem lampOf_some {n : Nat} (h : n ≤ 2) : ∃ lamp, lampOf n = some lamp := by
  match n, h with
  | 0, _ => exact ⟨_, rfl⟩
  | 1, _ => exact ⟨_, rfl⟩
  | 2, _ => exact ⟨_, rfl⟩

theorem lampOf_none {n : Nat} (h : 2 < n) : lampOf n = none := by
  match n, h with
  | _ + 3, _ => rfl

/-- A STATUS frame (R187). -/
theorem readSignReply_status (a echo l : Byte) :
    readSignReply [0x21, a, echo, l] =
      (lampOf l.toNat).map fun lamp => { address := a.toNat, echo := echo.toNat, lamp := lamp } := by
  simp only [readSignReply, if_true]
  cases lampOf l.toNat <;> rfl

theorem readSignReply_none {body : List Byte} (h : body.length ≠ 4 ∨ body[0]? ≠ some 0x21) :
    readSignReply body = none := by
  unfold readSignReply
  split
  · next k a echo l =>
    rw [if_neg]
    simpa using h
  · rfl

/-- A STATUS frame is judged by its address, then by its echo byte. -/
theorem judgeReply_status {a echo l : Byte} {lamp : Lamp} (hl : lampOf l.toNat = some lamp) :
    judgeReply e [0x21, a, echo, l] =
      if a.toNat ≠ e.address then .stray else if echo.toNat = e.epochByte then .taken lamp else .mismatch := by
  rw [judgeReply, readSignReply_status, hl]
  rfl

theorem judgeReply_mismatch {a echo l : Byte} (ha : a.toNat = e.address) (hl : l.toNat ≤ 2)
    (he : echo.toNat ≠ e.epochByte) : judgeReply e [0x21, a, echo, l] = .mismatch := by
  obtain ⟨lamp, hlamp⟩ := lampOf_some hl
  rw [judgeReply_status hlamp, if_neg (not_not.2 ha), if_neg he]

theorem judgeReply_stray {a echo l : Byte} (h : a.toNat ≠ e.address ∨ 2 < l.toNat) :
    judgeReply e [0x21, a, echo, l] = .stray := by
  cases hl : lampOf l.toNat with
  | none => rw [judgeReply, readSignReply_status, hl]; rfl
  | some lamp => rw [judgeReply_status hl, if_pos (h.resolve_right fun h2 => by simp [lampOf_none h2] at hl)]

/-- The reply of the exchange's sign, with the echo byte expected. -/
theorem judgeReply_taken {a : Byte} (ha : e.address = a.toNat) (he : e.epochByte < 256) (lamp : Lamp) :
    judgeReply e [0x21, a, byte1 e.epochByte, byte1 (lampCode lamp)] = .taken lamp := by
  rw [judgeReply_status (lampOf_lampCode lamp), if_neg (not_not.2 ha.symm), if_pos (byte1_toNat (by omega))]

theorem judgeReply_other {body : List Byte} (h : body.length ≠ 4 ∨ body[0]? ≠ some 0x21) :
    judgeReply e body = .stray := by
  rw [judgeReply, readSignReply_none h]

/-! ## One character in a window or a drain (R120) -/

theorem charErrorIn_stray (h : NoReplyAwaited s.slc)
    (c : RxChar) : charErrorIn c s = s := by
  unfold charErrorIn
  split
  · next e he =>
    by_cases hw : e.phase = .window none
    · simp [h e he hw]
    · simp [hw]
  · rfl

theorem errorInFrame_of {f : Format} {retained : List RxChar} {c : RxChar} (he : charError f c = true)
    (h0 : retained ≠ []) (h1 : retained.length = 1 → 1 ≤ c.data.toNat ∧ c.data.toNat ≤ 250) :
    errorInFrame f retained c = true := by
  match retained with
  | [] => exact absurd rfl h0
  | [_] => simpa [errorInFrame, he] using h1 rfl
  | _ :: _ :: _ => simp [errorInFrame, he]

/-- A character in error inside a frame decides an undecided window with CHAR_ERROR. -/
theorem charErrorIn_decides {c : RxChar} (hx : s.slc.exchange = some e) (hw : e.phase = .window none)
    (ht : hasOutcome e.target = true) (hc : errorInFrame s.lines.sign.inUse s.lines.sign.rx c = true) :
    charErrorIn c s = capture .signReplyError e.address (setPhase (.window (some .charError)) s) := by
  simp [charErrorIn, hx, hw, ht, hc]

/-- A character on the sign line after which no event of the receiver has an effect. -/
theorem signChar_stray {c : RxChar} {u : State} (hx : s.slc.exchange = some e) (hp : e.phase ≠ .sending)
    (hu : charErrorIn c s = u) (hno : NoReplyAwaited u.slc) :
    signChar s c = drainEnded (retaining .sign (receiveChar s.lines.sign.inUse s.lines.sign.rx c).2 u) := by
  have hrec : signReceives s = true := by simp [signReceives, hx, hp]
  have hstray : ∀ rx ev, signEvent (retaining .sign rx u) ev = retaining .sign rx u := fun rx =>
    signEvent_stray (s := retaining .sign rx u) hno
  rw [signChar, if_pos hrec, hu]
  exact congrArg drainEnded (foldl_signEvent_stray (hstray _) _)

/-- The last character of a frame being drained ends the exchange. -/
theorem drainEnded_drain (hx : s.slc.exchange = some e) (hp : e.phase = .drain) :
    drainEnded s = if s.lines.sign.rx = [] then exchangeEnded s else s := by
  simp [drainEnded, hx, hp]

section
variable {c : RxChar} (hx : s.slc.exchange = some e)
include hx

/-- In the window of a BLANK frame a character is received and nothing more (R124). -/
theorem signChar_blank (hw : e.phase = .window none) (ht : e.target = .blank) :
    signChar s c = retaining .sign (receiveChar s.lines.sign.inUse s.lines.sign.rx c).2 s := by
  have hno : NoReplyAwaited s.slc := noReplyAwaited_blank hx ht
  rw [signChar_stray hx (by simp [hw]) (charErrorIn_stray hno c) hno]
  exact drainEnded_none (s := retaining .sign _ s) (by simp [retaining, hx, hw])

/-- A character in error inside a frame, in the undecided window of a sign (R120, log entry 22). -/
theorem signChar_error (hw : e.phase = .window none) (ht : hasOutcome e.target = true)
    (hc : errorInFrame s.lines.sign.inUse s.lines.sign.rx c = true) :
    signChar s c = retaining .sign (receiveChar s.lines.sign.inUse s.lines.sign.rx c).2
      (capture .signReplyError e.address
        { s with slc := { s.slc with exchange := some { e with phase := .window (some .charError) } } }) := by
  have herr := charErrorIn_decides hx hw ht hc
  rw [setPhase_eq hx] at herr
  rw [signChar_stray hx (by simp [hw]) herr (noReplyAwaited_decided (by rintro _ ⟨⟩; simp))]
  exact drainEnded_none (by rintro _ ⟨⟩; simp)

/-- A character of the frame that the end of the exchange waits for (R120, log entry 32). -/
theorem signChar_drain (hp : e.phase = .drain) :
    signChar s c =
      if (receiveChar s.lines.sign.inUse s.lines.sign.rx c).2 = [] then
        exchangeEnded (retaining .sign (receiveChar s.lines.sign.inUse s.lines.sign.rx c).2 s)
      else retaining .sign (receiveChar s.lines.sign.inUse s.lines.sign.rx c).2 s := by
  have hno : NoReplyAwaited s.slc := noReplyAwaited_decided (by simp [hx, hp])
  rw [signChar_stray hx (by simp [hp]) (charErrorIn_stray hno c) hno]
  exact drainEnded_drain (s := retaining .sign _ s) hx hp

end

/-! ## A frame sent (R118, R124, R125) -/

section
variable (hx : s.slc.exchange = some e) (hp : e.phase = .sending)
include hx hp

theorem showSent_eq (ht : e.target ≠ .fallback) {u : State} {e' : Exchange}
    (hu : recordSent e (fire .showSent 1 s) = u) (he' : u.slc.exchange = some e') :
    showSent s = { u with slc := { u.slc with exchange := some { e' with phase := .window none } } } := by
  rw [← setPhase_eq he', ← hu]
  simp [showSent, hx, hp, ht]

theorem showSent_sign {i : Nat} {g : SignRun} (ht : e.target = .sign i) (hg : s.slc.signs[i]? = some g) :
    showSent s = fire .showSent 1
      { s with slc := { s.slc with
          signs := s.slc.signs.set i ({ g with lastFace := some e.face })
          exchange := some { e with phase := .window none } } } := by
  have hrecord : recordSent e (fire .showSent 1 s) =
      (fire .showSent 1 s).onSlc fun c => { c with signs := c.signs.set i ({ g with lastFace := some e.face }) } := by
    simp only [recordSent, ht, fire_slc, hg]
  exact showSent_eq hx hp (by simp [ht]) hrecord hx

theorem showSent_blank (ht : e.target = .blank) :
    showSent s = fire .showSent 1
      { s with slc := { s.slc with
          removal := s.slc.removal.filter (fun a => decide (a ≠ e.address))
          exchange := some { e with phase := .window none } } } := by
  have hrecord : recordSent e (fire .showSent 1 s) =
      (fire .showSent 1 s).onSlc fun c => { c with removal := c.removal.filter fun a => a ≠ e.address } := by
    simp only [recordSent, ht]
  exact showSent_eq hx hp (by simp [ht]) hrecord hx

theorem showSent_former {i limit : Nat} {g : SignRun} (ht : e.target = .former i g limit) :
    showSent s = fire .showSent 1
      { s with slc := { s.slc with
          exchange := some { e with
            target := .former i ({ g with lastFace := some e.face }) limit
            phase := .window none } } } := by
  have hrecord : recordSent e (fire .showSent 1 s) = (fire .showSent 1 s).onSlc fun c =>
      { c with exchange := some { e with target := .former i ({ g with lastFace := some e.face }) limit } } := by
    simp only [recordSent, ht]
  exact showSent_eq hx hp (by simp [ht]) hrecord rfl

theorem fallbackSent_ends (ht : e.target = .fallback) : fallbackSent s = exchangeEnded s := by
  simp [fallbackSent, hx, hp, ht]

end

/-! ## The sign's record: a taken reply and a miss (R121 to R123) -/

/-- The sign of an exchange, from its target: a sign of the table under the active plan's miss limit, or a former
plan's sign under its own. -/
theorem targetSign_eq {i limit : Nat} {g : SignRun}
    (h : (e.target = .sign i ∧ s.slc.signs[i]? = some g ∧ ∃ p, s.ps.active = some p ∧ limit = p.header.missLimit) ∨
      e.target = .former i g limit) :
    targetSign s e.target = some (i, g, limit) := by
  rcases h with ⟨ht, hg, p, hp, rfl⟩ | ht
  · simp only [ht, targetSign, hg, hp]
  · simp only [ht, targetSign]

/-- The record of an exchange's sign is written back to the table, and not kept for a former plan's sign. -/
theorem putSign_eq {t : Target} {i limit : Nat} {g : SignRun} (h : targetSign s t = some (i, g, limit)) (new : SignRun)
    (u : State) :
    putSign t new u =
      if t = .sign i then { u with slc := { u.slc with signs := u.slc.signs.set i new } } else u := by
  cases t with
  | sign j =>
    have hj : j = i := by
      simp only [targetSign] at h
      split at h
      · simp only [Option.some.injEq, Prod.mk.injEq] at h
        exact h.1
      · cases h
    rw [hj, if_pos rfl]
    rfl
  | former => exact (if_neg (by simp)).symm
  | blank => exact (if_neg (by simp)).symm
  | fallback => exact (if_neg (by simp)).symm

section
variable {t : Target} {i limit : Nat} {g : SignRun} (h : targetSign s t = some (i, g, limit))
include h

theorem replyTaken_eq (lamp : Lamp) :
    replyTaken t lamp s =
      if lamp = .failed ∧ g.state ≠ .faulty then
        raise (.signTrouble i g.address .faulty 0 (some .failed))
          (capture .signLampFault g.address (putSign t (takenRecord lamp g) s))
      else putSign t (takenRecord lamp g) s := by
  have hstate : (takenRecord lamp g).state = .faulty ↔ lamp = .failed := by cases lamp <;> simp [takenRecord]
  simp only [replyTaken, h, hstate]
  by_cases hf : lamp = .failed ∧ g.state ≠ .faulty
  · rw [if_pos hf, if_pos hf, hf.1]
    rfl
  · rw [if_neg hf, if_neg hf]

theorem signMissed_eq (outcome : SignOutcome) :
    let misses := min limit (g.misses + 1)
    let missed := putSign t (missedRecord limit outcome g) (fire .replyMissed 1 s)
    signMissed t outcome s =
      if limit ≤ misses ∧ g.state ≠ .lost then
        raise (.signTrouble i g.address .lost misses g.lamp) (capture .signLost g.address missed)
      else missed := by
  intro misses missed
  have hstate : (missedRecord limit outcome g).state = if misses < limit then .missing else .lost := rfl
  simp only [signMissed, h]
  by_cases hlost : misses < limit
  · rw [if_pos hlost] at hstate
    rw [if_neg (by simp [hstate]), if_neg (by omega)]
  · rw [if_neg hlost] at hstate
    have hiff : (limit ≤ misses ∧ g.state ≠ .lost) =
        ((missedRecord limit outcome g).state = .lost ∧ g.state ≠ .lost) := by
      simp [hstate, Nat.not_lt.1 hlost]
    simp only [hiff, signTroubled, troubleBody, hstate]
    rfl

end

/-- A miss leaves the exchange on the line. -/
theorem signMissed_exchange (t : Target) (outcome : SignOutcome) (s : State) :
    (signMissed t outcome s).slc.exchange = s.slc.exchange := by
  unfold signMissed
  split
  · rfl
  · dsimp only
    split <;> cases t <;> rfl

/-! ## The close of the window (R120, R122) -/

theorem signMissed_blank (ht : e.target = .blank) (outcome : SignOutcome) : signMissed e.target outcome s = s := by
  simp only [signMissed, ht, targetSign]

/-- The window's close settles a miss and ends the exchange, at once or with the frame being received. -/
theorem windowClosed_eq {decided : Option SignOutcome} {missed : State} (hx : s.slc.exchange = some e)
    (hp : e.phase = .window decided) (hm : signMissed e.target (decided.getD .noReply) s = missed) :
    windowClosed s =
      if s.lines.sign.rx = [] then exchangeEnded missed
      else { missed with slc := { missed.slc with exchange := some { e with phase := .drain } } } := by
  have hlines : missed.lines = s.lines := hm ▸ signMissed_lines s _ _
  have hexchange : missed.slc.exchange = some e := hm ▸ (signMissed_exchange _ _ s).trans hx
  rw [← setPhase_eq hexchange, ← hlines]
  simp only [windowClosed, hx, hp, hm]

theorem exec_replyWindowClose_settled {decided : Option SignOutcome} {missed : State} (hrun : s.phase = .running)
    (hx : s.slc.exchange = some e) (hp : e.phase = .window decided)
    (hm : signMissed e.target (decided.getD .noReply) s = missed) :
    (s.lines.sign.rx = [] → exec .replyWindowClose s = .next (exchangeEnded missed)) ∧
    (s.lines.sign.rx ≠ [] → exec .replyWindowClose s =
      .next { missed with slc := { missed.slc with exchange := some { e with phase := .drain } } }) := by
  rw [exec_replyWindowClose hrun, windowClosed_eq hx hp hm]
  exact ⟨fun h => by rw [if_pos h], fun h => by rw [if_neg h]⟩

/-! ## The end of an exchange and of a cycle (R115, R126 to R128) -/

theorem exchangeEnded_dormant (h : s.slc.cycle = .dormant) :
    exchangeEnded s = s.onSlc fun c => { c with exchange := none } := by
  simp only [exchangeEnded, h]

theorem exchangeEnded_idle (h : s.slc.cycle = .idle) :
    exchangeEnded s =
      if s.slc.startWaiting = true ∧ s.mark .sign = .running then
        cycleStart (s.onSlc fun c => { c with exchange := none })
      else s.onSlc fun c => { c with exchange := none } := by
  simp only [exchangeEnded, h, Bool.and_eq_true, decide_eq_true_eq]

section
variable (h : s.slc.cycle = .cycling)
include h

theorem exchangeEnded_cut (hc : s.slc.cutPending = true) (hm : s.mark .sign = .running) :
    exchangeEnded s = cycleCut (s.onSlc fun c => { c with exchange := none }) := by
  simp only [exchangeEnded, h, hc, hm, decide_true, Bool.and_true, if_true]

theorem exchangeEnded_next (hc : s.slc.cutPending = false) {entry : OrderEntry}
    (he : s.slc.order[s.slc.position + 1]? = some entry) :
    exchangeEnded s = s.onSlc fun c =>
      { c with position := c.position + 1, exchange := some (entryFrame c entry) } := by
  have hlt : s.slc.position + 1 < s.slc.order.length := (List.getElem?_eq_some_iff.1 he).1
  have hbegin (c : SignLine) (hc : c.order[c.position]? = some entry) :
      beginEntry c = { c with exchange := some (entryFrame c entry) } := by simp only [beginEntry, hc]
  simp only [exchangeEnded, h, hc, Bool.false_and, hlt, if_true]
  rw [if_neg Bool.false_ne_true]
  simp only [State.onSlc]
  rw [hbegin _ he]
  rfl

/-- After the last entry of the order, with no cut to make, the cycle ends. -/
theorem exchangeEnded_last (hc : s.slc.cutPending = false ∨ s.mark .sign = .halted)
    (hlen : s.slc.order.length ≤ s.slc.position + 1) :
    exchangeEnded s = cycleEnd (s.onSlc fun c => { c with exchange := none }) := by
  have hcut : ¬ (s.slc.cutPending && decide (s.mark .sign = .running)) = true := by
    rcases hc with hc | hc <;> simp [hc]
  simp only [exchangeEnded, h]
  rw [if_neg hcut, if_neg hlen.not_gt]

end

theorem cycleEnd_halted (hm : s.mark .sign = .halted) : cycleEnd s = s.onSlc fun c => { c with cycle := .idle } :=
  if_pos hm

theorem cycleEnd_overrun (hm : s.mark .sign = .running) (hs : s.slc.startPending = true) :
    cycleEnd s = cycleStart
      (fire .cycleOverrun 1 (s.onSlc fun c => { c with cycle := .idle, startPending := false })) :=
  (if_neg (by simp [hm])).trans (if_pos hs)

theorem cycleEnd_running (hm : s.mark .sign = .running) (hs : s.slc.startPending = false) :
    cycleEnd s =
      if backToBack s = true ∧ s.slc.order ≠ [] then cycleStart (s.onSlc fun c => { c with cycle := .idle })
      else s.onSlc fun c => { c with cycle := .idle } := by
  have hguard : (backToBack s && !s.slc.order.isEmpty) = true ↔ backToBack s = true ∧ s.slc.order ≠ [] := by simp
  rw [cycleEnd]
  simp only [hm, hs, hguard]
  rfl

/-! ## Emphasis (R101) -/

theorem emphasisExpiry_due {i : Nat} {g : SignRun} (hg : s.slc.signs[i]? = some g) (hd : g.emphasis = some 0) :
    emphasisExpiry i s =
      { s with slc := { s.slc with signs := s.slc.signs.set i ({ g with emphasis := none }) } } := by
  simp [emphasisExpiry, hg, timerDue, hd, State.onSlc]

/-- Settles O58, in the order of an exchange: its frame, the window and what is received in it, the frame sent, the
close, the sign's record, the drain, the end, and the emphasis timer. -/
theorem sign_exchange : Obligations.sign_exchange := by
  refine ⟨fun c now ha => ⟨fun a => ?_, fun i g f hg hf => ?_⟩, fun s e hx hw => ?_,
    fun s => ⟨signEvent_frame_error s, signEvent_badCheck s,
      fun h => signEvent_stray (noReplyAwaited_decided h)⟩,
    fun s e hrun hx hp => ⟨fun i g ht hg => ?_, fun ht => ?_, fun i g limit ht => ?_, fun ht => ?_⟩,
    fun s e decided hrun hx ht hp => exec_replyWindowClose_settled hrun hx hp (signMissed_blank ht _),
    fun s e i g limit hrun hx htarget => ?_,
    fun s e c hrun hx hp => ?_, fun s => ?_, fun s i g hrun hg hd => ?_⟩
  · rw [← epochByteOf_adopted ha]
    rfl
  · rw [← epochByteOf_adopted ha]
    exact entryFrame_sign hg hf
  · refine ⟨fun ht ev => ?_, fun c hrun ht => ?_, fun a echo l hs => ⟨fun ha hl he => ?_, fun h => ?_⟩,
      fun body h => ?_, fun c hrun hs hc h0 h1 => ?_⟩
    · exact signEvent_stray (noReplyAwaited_blank hx ht) ev
    · rw [exec_signFrameReceived hrun, signChar_blank hx hw ht]
      rfl
    · rw [signEvent_judged hx hw (hasOutcome_of_sign hs), judgeReply_mismatch ha hl he]
      exact setPhase_eq hx _
    · rw [signEvent_judged hx hw (hasOutcome_of_sign hs), judgeReply_stray h]
    · by_cases ht : hasOutcome e.target = true
      · rw [signEvent_judged hx hw ht, judgeReply_other h]
      · exact signEvent_stray (by simpa [NoReplyAwaited, hx, hw] using ht) _
    · rw [exec_signFrameReceived hrun, signChar_error hx hw (hasOutcome_of_sign hs) (errorInFrame_of hc h0 h1)]
      rfl
  · rw [exec_showFrameSent hrun, showSent_sign hx hp ht hg]
  · rw [exec_showFrameSent hrun, showSent_blank hx hp ht]
  · rw [exec_showFrameSent hrun, showSent_former hx hp ht]
  · rw [exec_fallbackFrameSent hrun, fallbackSent_ends hx hp ht]
  · have hsign := targetSign_eq htarget
    have hs : hasOutcome e.target = true :=
      hasOutcome_of_sign (htarget.imp (fun h => ⟨i, h.1⟩) fun h => ⟨i, g, limit, h⟩)
    refine ⟨fun lamp a hw ha hb => ?_, fun decided hp => ?_⟩
    · rw [signEvent_judged hx hw hs, judgeReply_taken ha hb]
      show exchangeEnded (replyTaken e.target lamp s) = _
      rw [replyTaken_eq hsign, putSign_eq hsign]
      rfl
    · refine exec_replyWindowClose_settled hrun hx hp ?_
      rw [signMissed_eq hsign, putSign_eq hsign]
      rfl
  · intro rest heard
    rw [exec_signFrameReceived hrun, signChar_drain hx hp]
    rfl
  · intro s1 idle
    refine ⟨exchangeEnded_dormant, fun h => ⟨fun hs hm => ?_, fun hno => ?_⟩, fun h hc hm => exchangeEnded_cut h hc hm,
      fun h hc hlen => ⟨fun hm => ?_, fun hm hs => ?_, fun hm hs => ⟨fun hb ho => ?_, fun hno => ?_⟩⟩,
      fun entry h hc he => exchangeEnded_next h hc he⟩
    · exact (exchangeEnded_idle h).trans (if_pos ⟨hs, hm⟩)
    · exact (exchangeEnded_idle h).trans (if_neg (by rcases hno with hno | hno <;> simp [hno]))
    · exact (exchangeEnded_last h hc hlen).trans (cycleEnd_halted (s := s1) hm)
    · exact (exchangeEnded_last h hc hlen).trans (cycleEnd_overrun (s := s1) hm hs)
    · exact (exchangeEnded_last h hc hlen).trans ((cycleEnd_running (s := s1) hm hs).trans (if_pos ⟨hb, ho⟩))
    · refine (exchangeEnded_last h hc hlen).trans ((cycleEnd_running (s := s1) hm hs).trans (if_neg ?_))
      rintro ⟨hb, ho⟩
      exact hno.elim (fun hn => Bool.false_ne_true (hn.symm.trans hb)) ho
  · rw [exec_emphasisTimerExpiry hrun, emphasisExpiry_due hg hd]

end Sys2Proof.Machine
end

section
/-! SUPPORT. Every step keeps the portals of a port that is not UP UNKNOWN (R138 to R141): a port takes its state and
its portals' advertisements in one act, a swap and a reset begin with every portal UNKNOWN, and no other command touches
them: O10. -/

namespace Sys2Proof.Machine

/-! ## What leaves the portals -/

/-- The parts of a state of which R141 speaks: the active plan, each portal's exit with its advertisement, and the two
ports' states. -/
def portalParts (s : State) : Option Plan × List (Nat × Option Advertisement) × PortState × PortState :=
  (s.ps.active, portalsNow s, s.pp.a.state, s.pp.b.state)

/-- The parts are of the active plan and the Peer Ports alone. -/
theorem portalParts_congr {s t : State} (ha : t.ps.active = s.ps.active) (hp : t.pp = s.pp) :
    portalParts t = portalParts s := by
  simp only [portalParts, portalsNow, ha, hp]

/-- A portal that the list of advertisements shows LIVE is a portal of a port that is UP. -/
def PortalUp (s : State) (x : Nat × Option Advertisement) : Prop :=
  x.2 ≠ none → ∃ p f, s.ps.active = some p ∧ portalOf p x.1 = some f ∧ (portGet s.pp f.port).state = .up

theorem portalsOk_iff (s : State) : PortalsOk s ↔ ∀ x ∈ portalsNow s, PortalUp s x := by
  simp [PortalsOk, PortalUp, portalsNow]

/-- The parts are all that the property looks at. -/
theorem PortalsOk.of_parts {s t : State} (h : portalParts t = portalParts s) (ok : PortalsOk s) : PortalsOk t := by
  simp only [portalParts, Prod.mk.injEq] at h
  obtain ⟨hplan, hportals, ha, hb⟩ := h
  have hstate (port : PeerPort) : (portGet t.pp port).state = (portGet s.pp port).state := by
    cases port
    · exact ha
    · exact hb
  rw [portalsOk_iff] at ok ⊢
  simpa only [PortalUp, hplan, hportals, hstate] using ok

/-! ## What a change keeps -/

/-- The change from `s` to `t` keeps every LIVE portal on a port that is UP. -/
def KeepsPortals (s t : State) : Prop := PortalsOk s → PortalsOk t

namespace KeepsPortals

variable {s t u : State}

theorem refl (s : State) : KeepsPortals s s := id

theorem trans (h : KeepsPortals s t) (h' : KeepsPortals t u) : KeepsPortals s u := h' ∘ h

/-- A change that leaves the plan, the advertisements and the ports' states. -/
theorem of_same (h : portalParts t = portalParts s) : KeepsPortals s t := .of_parts h

/-- A change that leaves the active plan and the Peer Ports. -/
theorem of_peers (hp : t.pp = s.pp) (ha : t.ps.active = s.ps.active) : KeepsPortals s t :=
  .of_same (portalParts_congr ha hp)

/-- A change made on a state that has those parts of another. -/
theorem after (h : KeepsPortals t u) (e : portalParts t = portalParts s) : KeepsPortals s u := (of_same e).trans h

/-- A change to a state with every portal UNKNOWN. -/
theorem of_noneLive (h : NoneLive t) : KeepsPortals s t := fun _ r hr hlive => absurd (h r hr) hlive

/-- A change, or another that a condition puts in its place. -/
theorem ite {c : Prop} [Decidable c] (h : KeepsPortals s t) (h' : KeepsPortals s u) :
    KeepsPortals s (if c then t else u) := by
  split
  · exact h
  · exact h'

/-- A run of changes that each keep the property. -/
theorem foldl {α : Type} {f : State → α → State} (hf : ∀ s x, KeepsPortals s (f s x)) (xs : List α) :
    ∀ s : State, KeepsPortals s (xs.foldl f s) := by
  induction xs with
  | nil => exact refl
  | cons x xs ih => exact fun s => (hf s x).trans (ih _)

/-- What happens to a running part. -/
theorem whenRunning {f : State → State} (hf : ∀ s, KeepsPortals s (f s)) (s : State) :
    KeepsPortals s (whenRunning f s) := ite (hf s) (refl s)

end KeepsPortals

section
variable (s : State)

/-! ## Peer Ports -/

/-- A change of a port's record that leaves its state. -/
theorem portalParts_onPort (port : PeerPort) {f : PortRec → PortRec} (hf : ∀ r, (f r).state = r.state) :
    portalParts (s.onPort port f) = portalParts s := by
  cases port <;> simp [portalParts, portalsNow, State.onPort, hf]

/-- A port's record and the other's after a port takes a state. -/
theorem setPort_port (port other : PeerPort) (st : PortState) (adv : Nat → Option Advertisement) :
    portGet (setPort port st adv s).pp other =
      if other = port then { portGet s.pp port with state := st } else portGet s.pp other := by
  rw [setPort_pp]
  cases port <;> cases other <;> rfl

/-- With no plan a port has no portals that could take an advertisement. -/
theorem updatePortals_noPlan (port : PeerPort) (adv : Nat → Option Advertisement) (portals : List PortalRun) :
    updatePortals none port adv portals = portals := List.map_id _

/-- A portal record after a port's portals take advertisements: one of that port, or one that was there. -/
theorem mem_updatePortals {p : Plan} {port : PeerPort} {adv : Nat → Option Advertisement} {portals : List PortalRun}
    {r : PortalRun} (hr : r ∈ updatePortals (some p) port adv portals) :
    (∃ f, portalOf p r.exit = some f ∧ f.port = port ∧ r.advertisement = adv f.remote) ∨
    ((∀ f, portalOf p r.exit = some f → f.port ≠ port) ∧ r ∈ portals) := by
  obtain ⟨x, hx, rfl⟩ := List.mem_map.1 hr
  cases hf : portalOf p x.exit with
  | none => simp [portalOnPort, hf, hx]
  | some f => by_cases hport : f.port = port <;> simp [portalOnPort, hf, hport, hx]

/-- A port takes a state and its portals their advertisements: they are UNKNOWN, or the port is UP (R138 to R141). -/
theorem keepsPortals_setPort (port : PeerPort) {st : PortState} {adv : Nat → Option Advertisement}
    (hst : st = .up ∨ adv = noAdvert) : KeepsPortals s (setPort port st adv s) := by
  intro ok r hr hlive
  have hkept (x : PortalRun) (hx : x ∈ s.pp.portals) (hxlive : x.advertisement ≠ none)
      (hoff : ∀ p f, s.ps.active = some p → portalOf p x.exit = some f → f.port ≠ port) :
      ∃ p f, (setPort port st adv s).ps.active = some p ∧ portalOf p x.exit = some f ∧
        (portGet (setPort port st adv s).pp f.port).state = .up := by
    obtain ⟨p, f, hp, hf, hup⟩ := ok x hx hxlive
    exact ⟨p, f, by simpa using hp, hf, by rw [setPort_port, if_neg (hoff p f hp hf), hup]⟩
  have hmem : r ∈ updatePortals s.ps.active port adv s.pp.portals := by rwa [setPort_pp] at hr
  cases hplan : s.ps.active with
  | none =>
    rw [hplan, updatePortals_noPlan] at hmem
    exact hkept r hmem hlive fun p f hp => by simp [hplan] at hp
  | some p =>
    rw [hplan] at hmem
    rcases mem_updatePortals hmem with ⟨f, hf, hport, hadv⟩ | ⟨hoff, hx⟩
    · rcases hst with rfl | rfl
      · exact ⟨p, f, by simpa using hplan, hf, by rw [setPort_port, if_pos hport]⟩
      · exact absurd hadv hlive
    · exact hkept r hx hlive fun q f hq hf => hoff f (by cases hplan.symm.trans hq; exact hf)

theorem keepsPortals_sendTrigger (port : PeerPort) : KeepsPortals s (sendTrigger port s) := by
  cases hp : s.ps.active with
  | none => exact .of_same (by simp only [sendTrigger, hp])
  | some p =>
    rw [sendTrigger_eq hp]
    refine .of_same (portalParts_onPort s port fun r => ?_)
    unfold triggeredPort
    (repeat' split) <;> rfl

theorem keepsPortals_advertTaken (port : PeerPort) (expected : Nat) (a : Advert) :
    KeepsPortals s (advertTaken port expected a s) := by
  have htaken : portalParts ((fire .advertTaken 1 s).onPort port fun r =>
      { r with station := some a.station, planId := some a.planId, age := some (ageTicks s) }) = portalParts s :=
    portalParts_onPort _ port fun _ => rfl
  refine .ite ((keepsPortals_setPort _ port (.inl rfl)).after htaken)
    ((keepsPortals_setPort _ port (.inr rfl)).after ?_)
  split
  · exact htaken
  · exact (portalParts_congr rfl rfl).trans htaken

theorem keepsPortals_advertInvalid (port : PeerPort) (err : Bool) : KeepsPortals s (advertInvalid port err s) :=
  .ite (.of_same rfl) (.refl s)

theorem keepsPortals_advertEvent (port : PeerPort) (ev : RxEvent) : KeepsPortals s (advertEvent port s ev) := by
  unfold advertEvent
  split
  · exact .refl s
  · refine .ite (.refl s) ?_
    split
    · exact keepsPortals_advertInvalid s port _
    · refine .ite (keepsPortals_advertInvalid s port _) ?_
      split
      · exact keepsPortals_advertTaken s port _ _
      · exact keepsPortals_advertInvalid s port _

theorem keepsPortals_onLine (id : LineId) (f : LineRec → LineRec) : KeepsPortals s (s.onLine id f) := .of_same rfl

theorem keepsPortals_advertChar (port : PeerPort) (c : RxChar) : KeepsPortals s (advertChar port s c) := by
  unfold advertChar
  dsimp only
  split
  · exact .refl s
  · exact (keepsPortals_onLine s _ _).trans (.foldl (keepsPortals_advertEvent · port) _ _)

theorem keepsPortals_advertGap (port : PeerPort) : KeepsPortals s (advertGap port s) :=
  .ite (.of_same rfl) (.of_same rfl)

theorem keepsPortals_ageExpiry (port : PeerPort) : KeepsPortals s (ageExpiry port s) :=
  .ite ((keepsPortals_setPort _ port (.inr rfl)).after
    (t := capture .peerDown (portNumber port) (s.onPort port fun r => { r with age := none }))
    ((portalParts_congr rfl rfl).trans (portalParts_onPort s port fun _ => rfl))) (.refl s)

/-- The last sent entries of a frame leave every advertisement. -/
theorem portalsNow_recordEntries (entries : List AdvertEntry) :
    portalsNow { s with pp := { s.pp with portals := recordEntries entries s.pp.portals } } = portalsNow s := by
  simp only [portalsNow, recordEntries, List.map_map]
  refine List.map_congr_left fun r _ => ?_
  dsimp only [Function.comp_apply]
  split <;> rfl

theorem keepsPortals_advertSent (port : PeerPort) : KeepsPortals s (advertSent port s) := by
  unfold advertSent
  split
  · exact .refl s
  · next f _ =>
    have hsent : portalParts ((fire .advertSent 1 s).onPort port fun r =>
        { r with sending := none, spacing := if portInUse s port then some (spacingTicks s) else none }) =
        portalParts s := portalParts_onPort _ port fun _ => rfl
    refine .ite (.of_same hsent) (.of_same (Eq.trans ?_ hsent))
    simp only [portalParts, portalsNow_recordEntries]

theorem keepsPortals_spacingExpiry (port : PeerPort) : KeepsPortals s (spacingExpiry port s) := by
  have hstopped : portalParts (s.onPort port fun r => { r with spacing := none, sendPending := false }) =
      portalParts s := portalParts_onPort s port fun _ => rfl
  exact .ite (.ite ((keepsPortals_sendTrigger _ port).after hstopped) (.of_same hstopped)) (.refl s)

theorem keepsPortals_advertiseExpiry (port : PeerPort) : KeepsPortals s (advertiseExpiry port s) :=
  .ite ((keepsPortals_sendTrigger _ port).after (portalParts_onPort s port fun _ => rfl)) (.refl s)

theorem keepsPortals_haltPort (port : PeerPort) : KeepsPortals s (haltPort port s) := by
  rw [haltPort_eq]
  refine (keepsPortals_setPort _ port (.inr rfl)).after ?_
  have hclosed := portalParts_onPort s port
    (f := fun r => { r with age := none, advertise := none, spacing := none, sendPending := false, sending := none })
    fun _ => rfl
  exact (portalParts_congr (by rw [beforeDown_ps, onPort_ps]) (beforeDown_pp port s)).trans hclosed

theorem keepsPortals_runPort (port : PeerPort) : KeepsPortals s (runPort port s) := by
  rw [runPort_eq]
  exact .ite ((keepsPortals_sendTrigger _ port).after (portalParts_onPort _ port fun _ => rfl)) (.of_same rfl)

/-! ## Detector Intake, zones and takes -/

theorem keepsPortals_detectorEvent (e : RxEvent) : KeepsPortals s (detectorEvent s e) := by
  unfold detectorEvent detectorValid detectorInvalid
  dsimp only
  (repeat' split) <;> exact .of_peers (by simp) (by simp)

theorem keepsPortals_detectorChar (c : RxChar) : KeepsPortals s (detectorChar s c) := by
  unfold detectorChar
  dsimp only
  split
  · exact .refl s
  · exact (keepsPortals_onLine s _ _).trans (.foldl keepsPortals_detectorEvent _ _)

theorem keepsPortals_silenceExpiry : KeepsPortals s (silenceExpiry s) :=
  .ite (.of_peers (by simp) (by simp)) (.refl s)

theorem keepsPortals_acceptChange (n : Fin 8) : KeepsPortals s (acceptChange n s) := by
  unfold acceptChange contactReport
  dsimp only
  (repeat' split) <;> exact .of_peers (by simp) (by simp)

theorem keepsPortals_widthLimit (n : Fin 8) : KeepsPortals s (widthLimit n s) := by
  unfold widthLimit contactReport
  dsimp only
  (repeat' split) <;> exact .of_peers (by simp) (by simp)

theorem keepsPortals_setChannel (n : Fin 8) (c : Channel) : KeepsPortals s (setChannel n c s) := .of_same rfl

theorem keepsPortals_sampleContacts (levels : BitVec 8) : KeepsPortals s (sampleContacts levels s) :=
  .foldl (fun s n => ((keepsPortals_acceptChange s n).trans (keepsPortals_widthLimit _ n)).trans
    (keepsPortals_setChannel _ _ _)) _ s

theorem keepsPortals_takeBegin : KeepsPortals s (takeBegin s) := by
  unfold takeBegin
  (repeat' split) <;> exact .of_same rfl

theorem keepsPortals_takeComplete : KeepsPortals s (takeComplete s) := by
  unfold takeComplete tableTake untrackedTake applyTake setUntracked
  dsimp only
  (repeat' split) <;> exact .of_peers (by simp) (by simp)

theorem keepsPortals_suspectExpiry (zone : Nat) : KeepsPortals s (suspectExpiry zone s) := by
  unfold suspectExpiry
  (repeat' split) <;> exact .of_peers (by simp) (by simp)

theorem keepsPortals_clearHoldExpiry (zone : Nat) : KeepsPortals s (clearHoldExpiry zone s) := by
  unfold clearHoldExpiry
  (repeat' split) <;> exact .of_peers (by simp) (by simp)

/-! ## Sign Line Controller -/

theorem keepsPortals_refreshExpiry : KeepsPortals s (refreshExpiry s) := by
  unfold refreshExpiry
  dsimp only
  (repeat' split) <;> exact .of_peers (by simp) (by simp)

theorem keepsPortals_showSent : KeepsPortals s (showSent s) := by
  unfold showSent recordSent
  (repeat' split) <;> exact .of_peers (by simp) (by simp)

theorem keepsPortals_fallbackSent : KeepsPortals s (fallbackSent s) := by
  unfold fallbackSent
  (repeat' split) <;> exact .of_peers (by simp) (by simp)

theorem keepsPortals_drainEnded : KeepsPortals s (drainEnded s) := by
  unfold drainEnded
  (repeat' split) <;> exact .of_peers (by simp) (by simp)

theorem keepsPortals_signEvent (ev : RxEvent) : KeepsPortals s (signEvent s ev) := by
  unfold signEvent
  (repeat' split) <;> exact .of_peers (by simp) (by simp)

theorem keepsPortals_signChar (c : RxChar) : KeepsPortals s (signChar s c) := by
  have herr : KeepsPortals s (charErrorIn c s) := by
    unfold charErrorIn
    (repeat' split) <;> exact .of_same rfl
  exact .ite ((herr.trans (keepsPortals_onLine _ _ _)).trans
    ((KeepsPortals.foldl keepsPortals_signEvent _ _).trans (keepsPortals_drainEnded _))) (.refl s)

theorem keepsPortals_windowClosed : KeepsPortals s (windowClosed s) := by
  unfold windowClosed
  dsimp only
  (repeat' split) <;> exact .of_peers (by simp) (by simp)

theorem keepsPortals_emphasisExpiry (i : Nat) : KeepsPortals s (emphasisExpiry i s) := by
  unfold emphasisExpiry
  (repeat' split) <;> exact .of_same rfl

theorem keepsPortals_runSign : KeepsPortals s (runSign s) := by
  have hrun := (keepsPortals_onLine s .sign fun l => { l with mark := .running, inUse := l.format, rx := [] }).trans
    (keepsPortals_drainEnded _)
  exact .ite (hrun.trans (.of_peers (by simp) (by simp))) hrun

/-! ## Publication, the swap and the resets -/

/-- A swap begins with every portal of the new plan UNKNOWN (R19, R135). -/
theorem keepsPortals_swap : KeepsPortals s (swap s) := by
  unfold swap
  split
  · refine .of_noneLive fun r hr => ?_
    rw [swapTo_portals] at hr
    exact (newPortals_unknown _ r hr).1
  · exact .refl s

theorem keepsPortals_publication {p : Plan} (snap : Snapshot) : KeepsPortals s (publication p snap s) := by
  rw [publication_eq]
  exact ((keepsPortals_sendTrigger _ .a).trans (keepsPortals_sendTrigger _ .b)).after
    (portalParts_congr (by simp) (by simp))

theorem keepsPortals_solveStart : KeepsPortals s (solveStart s) := .of_peers (by simp) (by simp)

theorem keepsPortals_solveEnd : KeepsPortals s (solveEnd s) := by
  unfold solveEnd
  split
  · exact .ite ((keepsPortals_swap _).after rfl) ((keepsPortals_publication s _).trans (keepsPortals_solveStart _))
  · exact .refl s

theorem keepsPortals_endCheck : KeepsPortals s (endCheck s) := .ite (.of_same rfl) (.refl s)

theorem keepsPortals_endStore (readBack : List Byte) : KeepsPortals s (endStore readBack s) :=
  .ite (.ite (.of_same rfl) (.of_same rfl)) (.refl s)

/-- A reset begins with every portal of the loaded plan UNKNOWN (R135). -/
theorem noneLive_blocksAfter (kind : ResetKind) (ph : Phase) (plan : Option Plan) (c : MemoryCondition) (m : PlanMemory)
    (k : Settings) : NoneLive (blocksAfter kind ph plan c m k s) := by
  intro r hr
  cases plan with
  | none => cases hr
  | some p => exact (newPortals_unknown p r hr).1

theorem keepsPortals_resetWith (kind : ResetKind) (k : Settings) (m : PlanMemory) :
    KeepsPortals s (resetWith kind k m s) :=
  have hreset := noneLive_blocksAfter s kind .loading (loadedPlan m) (loadCondition m) m k
  .ite (.of_noneLive hreset) (.of_noneLive hreset)

/-! ## Requests -/

theorem keepsPortals_withoutFields (fields : List Byte) {f : State → Answer} (hf : KeepsPortals s (f s).state) :
    KeepsPortals s (withoutFields fields s f).state := by
  unfold withoutFields
  split
  · exact hf
  · exact .refl s

theorem keepsPortals_withPlan {f : Plan → Answer} (hf : ∀ p, KeepsPortals s (f p).state) :
    KeepsPortals s (withPlan s f).state := by
  unfold withPlan
  split
  · exact .refl s
  · exact hf _

theorem keepsPortals_planPut (f : List Byte) : KeepsPortals s (answerPlanPut f s).state := by
  unfold answerPlanPut putStaged
  (repeat' split) <;> exact .of_same rfl

theorem keepsPortals_planActivate (f : List Byte) : KeepsPortals s (answerPlanActivate f s).state := by
  refine keepsPortals_withoutFields s f ?_
  dsimp only
  split
  · simp only [answered_state]
    split
    · exact (keepsPortals_swap _).after rfl
    · exact .of_same rfl
  · exact .refl s

theorem keepsPortals_exitSet (f : List Byte) : KeepsPortals s (answerExitSet f s).state := by
  unfold answerExitSet
  split
  · exact keepsPortals_withPlan s fun _ => by split <;> exact .of_same rfl
  · exact .refl s

theorem keepsPortals_zoneForce (f : List Byte) : KeepsPortals s (answerZoneForce f s).state := by
  unfold answerZoneForce forceSmoke forceClear
  split
  · exact keepsPortals_withPlan s fun _ => by split <;> exact .of_peers (by simp) (by simp)
  · exact .refl s

theorem keepsPortals_zoneReset (f : List Byte) : KeepsPortals s (answerZoneReset f s).state := by
  unfold answerZoneReset
  split
  · exact keepsPortals_withPlan s fun _ => by (repeat' split) <;> exact .of_peers (by simp) (by simp)
  · exact .refl s

theorem keepsPortals_evacuate (f : List Byte) : KeepsPortals s (answerEvacuate f s).state :=
  keepsPortals_withoutFields s f (by dsimp only; split <;> exact .of_peers (by simp) (by simp))

theorem keepsPortals_standDown (f : List Byte) : KeepsPortals s (answerStandDown f s).state :=
  keepsPortals_withoutFields s f (by (repeat' split) <;> exact .of_peers (by simp) (by simp))

theorem keepsPortals_lineSetup (f : List Byte) : KeepsPortals s (answerLineSetup f s).state := by
  unfold answerLineSetup setupFormat setupContact
  (repeat' split) <;> exact .of_same rfl

theorem keepsPortals_haltLine (id : LineId) : KeepsPortals s (haltLine id s) := by
  cases id with
  | message => exact .refl s
  | detector => exact .of_peers (by simp [haltLine, haltDetector]) (by simp [haltLine, haltDetector])
  | sign => exact .of_same rfl
  | peerA => exact keepsPortals_haltPort s _
  | peerB => exact keepsPortals_haltPort s _

theorem keepsPortals_runLine (id : LineId) : KeepsPortals s (runLine id s) := by
  cases id with
  | message => exact .refl s
  | detector => exact .of_same rfl
  | sign => exact keepsPortals_runSign s
  | peerA => exact keepsPortals_runPort s _
  | peerB => exact keepsPortals_runPort s _

theorem keepsPortals_lineHalt (f : List Byte) : KeepsPortals s (answerLineHalt f s).state := by
  unfold answerLineHalt
  repeat' split
  case' h_2.isFalse.isFalse => exact keepsPortals_haltLine _ _
  all_goals exact .refl s

theorem keepsPortals_lineRun (f : List Byte) : KeepsPortals s (answerLineRun f s).state := by
  unfold answerLineRun
  repeat' split
  case' h_2.isFalse => exact keepsPortals_runLine _ _
  all_goals exact .refl s

/-- PLAN ACTIVATE, LINE HALT and LINE RUN alone reach the Peer Ports; the requests on zones and the evacuation state go
through their operations, those that read leave the state, and the others set what the property does not mention. -/
theorem keepsPortals_perform (r : Request) : KeepsPortals s (perform r s).state := by
  unfold perform performKind
  split
  case h_3 => exact keepsPortals_withoutFields s _ (by split <;> exact .of_same rfl)
  case h_4 => exact keepsPortals_withoutFields s _ (by (repeat' split) <;> exact .of_same rfl)
  case h_5 => exact keepsPortals_planActivate _ _
  case h_6 => exact keepsPortals_withoutFields s _ (by (repeat' split) <;> exact .of_same rfl)
  case h_7 => exact keepsPortals_planPut _ _
  case h_9 => exact keepsPortals_exitSet _ _
  case h_10 => exact keepsPortals_zoneForce _ _
  case h_11 => exact keepsPortals_zoneReset _ _
  case h_12 => exact keepsPortals_evacuate _ _
  case h_13 => exact keepsPortals_standDown _ _
  case h_14 => unfold answerGroupSet; (repeat' split) <;> exact .of_same rfl
  case h_20 => unfold answerNoticeSetup; (repeat' split) <;> exact .of_same rfl
  case h_21 => unfold answerClearFlags; (repeat' split) <;> exact .of_same rfl
  case h_23 => unfold answerFaultClear; (repeat' split) <;> exact .of_same rfl
  case h_24 => unfold answerCounterSetup; (repeat' split) <;> exact .of_same rfl
  case h_26 => unfold answerOutputSetup; (repeat' split) <;> exact .of_same rfl
  case h_27 => exact keepsPortals_lineSetup _ _
  case h_28 => exact keepsPortals_lineHalt _ _
  case h_29 => exact keepsPortals_lineRun _ _
  case h_30 => exact keepsPortals_withoutFields s _ (by (repeat' split) <;> exact .of_same rfl)
  all_goals simpa using KeepsPortals.refl s

/-! ## The Message Port -/

theorem keepsPortals_takeNext : KeepsPortals s (takeNext s) := by
  unfold takeNext
  split
  · exact (keepsPortals_perform s _).trans (.of_same rfl)
  · exact .refl s

theorem keepsPortals_receiveRequest (r : Request) : KeepsPortals s (receiveRequest r s) := by
  unfold receiveRequest
  split
  · exact (keepsPortals_takeNext _).after rfl
  · split
    · exact (keepsPortals_takeNext _).after rfl
    · exact .of_same rfl

theorem keepsPortals_messageEvent (e : RxEvent) : KeepsPortals s (messageEvent s e) := by
  unfold messageEvent
  split
  · exact .refl s
  · refine .ite (.of_same rfl) ?_
    split
    · exact keepsPortals_receiveRequest _ _
    · exact .refl s

theorem keepsPortals_messageChar (c : RxChar) : KeepsPortals s (messageChar s c) :=
  (keepsPortals_onLine s _ _).trans (.foldl keepsPortals_messageEvent _ _)

theorem keepsPortals_noticeStart : KeepsPortals s (noticeStart s) := .of_peers (by simp) (by simp)

theorem keepsPortals_takeOrNotice (first : Bool) : KeepsPortals s (takeOrNotice first s) := by
  cases first with
  | false => exact keepsPortals_takeNext s
  | true => exact (keepsPortals_noticeStart s).trans (keepsPortals_takeNext _)

theorem keepsPortals_replySent (first : Bool) : KeepsPortals s (replySent first s) :=
  .ite ((keepsPortals_takeOrNotice _ _).after rfl) (.refl s)

theorem keepsPortals_messageFormatChange (first : Bool) : KeepsPortals s (messageFormatChange first s) := by
  unfold messageFormatChange
  split
  · exact (keepsPortals_takeOrNotice _ _).after rfl
  · exact .refl s

theorem keepsPortals_noticeSent : KeepsPortals s (noticeSent s) := by
  unfold noticeSent
  split <;> exact .of_same rfl

theorem keepsPortals_gapAbort (line : LineId) : KeepsPortals s (gapAbort line s) := by
  refine .ite (.refl s) ?_
  cases line with
  | message => exact keepsPortals_onLine s _ _
  | detector => exact (keepsPortals_onLine s _ _).trans (keepsPortals_detectorEvent _ (.badCheck _))
  | sign => exact (keepsPortals_onLine s _ _).trans (keepsPortals_drainEnded _)
  | peerA => exact keepsPortals_advertGap s _
  | peerB => exact keepsPortals_advertGap s _

/-! ## Every command, and the step -/

/-- A tick runs the ports' timers and leaves their states and portals. -/
theorem keepsPortals_tickAll : KeepsPortals s (tickAll s) := .of_same rfl

theorem keepsPortals_tickStart : KeepsPortals s (tickStart s) := .ite (.of_peers (by simp) (by simp)) (.refl s)

/-- Every command has a next state, and keeps every LIVE portal on a port that is UP. -/
theorem keepsPortals_exec (c : Instr) : ∃ t, exec c s = .next t ∧ KeepsPortals s t := by
  cases hr : requestOf c with
  | some r => exact ⟨_, exec_request c r s hr, .whenRunning (keepsPortals_receiveRequest · r) s⟩
  | none =>
    cases c
    case powerOn => exact ⟨_, rfl, keepsPortals_resetWith _ _ _ _⟩
    case resetLine => exact ⟨_, rfl, .ite (.refl s) (keepsPortals_resetWith _ _ _ _)⟩
    case restartBegin => exact ⟨_, rfl, .whenRunning (fun s => .ite (keepsPortals_resetWith _ _ _ _) (.refl s)) s⟩
    case resetLineAsserted => exact ⟨_, rfl, .ite (.refl s) (.of_noneLive (noneLive_blocksAfter s _ _ _ _ _ _))⟩
    case powerLoss => exact ⟨_, rfl, .of_noneLive (noneLive_blocksAfter s _ _ _ _ _ _)⟩
    case startUpLoadEnd => exact ⟨_, rfl, .ite (.of_same rfl) (.refl s)⟩
    case tenthTick =>
      refine ⟨_, rfl, ?_⟩
      split
      · exact .refl s
      · exact .refl s
      · exact keepsPortals_tickAll s
      · exact (keepsPortals_tickAll s).trans (keepsPortals_tickStart _)
    case messageFrameReceived cs => exact ⟨_, rfl, .whenRunning (.foldl keepsPortals_messageChar cs) s⟩
    case detectorFrameReceived cs => exact ⟨_, rfl, .whenRunning (.foldl keepsPortals_detectorChar cs) s⟩
    case signFrameReceived cs => exact ⟨_, rfl, .whenRunning (.foldl keepsPortals_signChar cs) s⟩
    case advertReceived port cs => exact ⟨_, rfl, .whenRunning (.foldl (keepsPortals_advertChar · port) cs) s⟩
    case replySent first => exact ⟨_, rfl, .whenRunning (keepsPortals_replySent · first) s⟩
    case messagePortFormatChange first =>
      exact ⟨_, rfl, .whenRunning (keepsPortals_messageFormatChange · first) s⟩
    case noticeFrameStart => exact ⟨_, rfl, .whenRunning keepsPortals_noticeStart s⟩
    case frameGapAbort line => exact ⟨_, rfl, .whenRunning (keepsPortals_gapAbort · line) s⟩
    case silenceTimerExpiry => exact ⟨_, rfl, .whenRunning keepsPortals_silenceExpiry s⟩
    case contactChangeAccepted n => exact ⟨_, rfl, .whenRunning (keepsPortals_acceptChange · n) s⟩
    case pulseWidthLimit n => exact ⟨_, rfl, .whenRunning (keepsPortals_widthLimit · n) s⟩
    case takeBegin => exact ⟨_, rfl, .whenRunning keepsPortals_takeBegin s⟩
    case takeComplete => exact ⟨_, rfl, .whenRunning keepsPortals_takeComplete s⟩
    case suspectTimerExpiry z => exact ⟨_, rfl, .whenRunning (keepsPortals_suspectExpiry · z) s⟩
    case clearHoldTimerExpiry z => exact ⟨_, rfl, .whenRunning (keepsPortals_clearHoldExpiry · z) s⟩
    case planCheckEnd => exact ⟨_, rfl, .whenRunning keepsPortals_endCheck s⟩
    case planStoreEnd bs => exact ⟨_, rfl, .whenRunning (keepsPortals_endStore · bs) s⟩
    case solveStart => exact ⟨_, rfl, .whenRunning keepsPortals_solveStart s⟩
    case solveEnd => exact ⟨_, rfl, .whenRunning keepsPortals_solveEnd s⟩
    case refreshTimerExpiry => exact ⟨_, rfl, .whenRunning keepsPortals_refreshExpiry s⟩
    case showFrameSent => exact ⟨_, rfl, .whenRunning keepsPortals_showSent s⟩
    case replyWindowClose => exact ⟨_, rfl, .whenRunning keepsPortals_windowClosed s⟩
    case fallbackFrameSent => exact ⟨_, rfl, .whenRunning keepsPortals_fallbackSent s⟩
    case emphasisTimerExpiry i => exact ⟨_, rfl, .whenRunning (keepsPortals_emphasisExpiry · i) s⟩
    case ageTimerExpiry port => exact ⟨_, rfl, .whenRunning (keepsPortals_ageExpiry · port) s⟩
    case advertTimerExpiry port => exact ⟨_, rfl, .whenRunning (keepsPortals_advertiseExpiry · port) s⟩
    case spacingTimerExpiry port => exact ⟨_, rfl, .whenRunning (keepsPortals_spacingExpiry · port) s⟩
    case advertFrameSent port => exact ⟨_, rfl, .whenRunning (keepsPortals_advertSent · port) s⟩
    case contactSample levels => exact ⟨_, rfl, .whenRunning (keepsPortals_sampleContacts · levels) s⟩
    case noticeFrameSent => exact ⟨_, rfl, .whenRunning keepsPortals_noticeSent s⟩
    all_goals cases hr

end

/-- Settles O10: a step keeps every LIVE portal on a port that is UP, as the command that it takes from the queue
does. -/
theorem step_keeps_portals_ok : Obligations.step_keeps_portals_ok := by
  intro s t h hs
  unfold step at hs
  split at hs
  · cases hs
    exact h
  · next c rest _ =>
    obtain ⟨u, hu, ok⟩ := keepsPortals_exec { s with pending := rest } c
    rw [hu] at hs
    cases hs
    exact (ok.after rfl) h

end Sys2Proof.Machine
end

section
/-! SUPPORT. The bodies of ADVERT frames (R136, R187): what is written is read back, what a valid frame holds, and the
flags bits that are not looked at. -/

namespace Sys2Proof.Machine

/-! ## One entry -/

/-- An entry's indices are in their ranges; the hop of an UNKNOWN entry is not looked at. -/
def EntryFits (e : AdvertEntry) : Prop := e.exit ≤ 31 ∧ (e.unknown = false → e.hop ≤ 3)

/-- An entry's numbers go into its bytes. -/
def EntryEncodable (e : AdvertEntry) : Prop := e.cost.x ≤ 65535 ∧ e.cost.d ≤ 65535 ∧ e.hop ≤ 255

theorem entryBytes_length (e : AdvertEntry) : (entryBytes e).length = 7 := rfl

/-- The three flags are read back from their byte. -/
theorem flags_read_back (isHere already unknown : Bool) :
    let flags := (byte1 (advertFlags isHere already unknown)).toNat % 8
    decide (flags % 2 = 1) = isHere ∧ decide (2 ≤ flags % 4) = already ∧ decide (4 ≤ flags) = unknown := by
  cases isHere <;> cases already <;> cases unknown <;> decide

theorem readEntry_entryBytes {e : AdvertEntry} (hf : EntryFits e) (hb : EntryEncodable e) :
    readEntry (entryBytes e) = some e := by
  obtain ⟨exit, ⟨x, d⟩, hop, isHere, already, unknown⟩ := e
  obtain ⟨hexit, hhop⟩ := hf
  obtain ⟨hx, hd, hhop255⟩ := hb
  obtain ⟨hhere, halready, hunknown⟩ := flags_read_back isHere already unknown
  have hexitByte : (byte1 exit).toNat = exit := byte1_toNat (Nat.le_trans hexit (by decide))
  have hfits : exit ≤ 31 ∧ (unknown = true ∨ hop ≤ 3) :=
    ⟨hexit, by cases unknown; exacts [.inr (hhop rfl), .inl rfl]⟩
  show readEntry [byte1 exit, byte1 (x / 256), byte1 x, byte1 (d / 256), byte1 d, byte1 hop,
    byte1 (advertFlags isHere already unknown)] = _
  simp only [readEntry, hexitByte, byte1_toNat hhop255, hhere, halready, hunknown, num2_byte2 hx, num2_byte2 hd,
    if_pos hfits]

/-- An entry that is read stands in seven bytes and is in its ranges. -/
theorem fits_of_readEntry {bs : List Byte} {e : AdvertEntry} (h : readEntry bs = some e) :
    bs.length = 7 ∧ EntryFits e := by
  unfold readEntry at h
  split at h
  · dsimp only at h
    split at h
    · next hfits =>
      cases h
      exact ⟨rfl, hfits.1, fun hknown => hfits.2.resolve_left (by simpa using hknown)⟩
    · cases h
  · cases h

/-! ## The entries of a frame -/

theorem readEntries_entryBytes {es : List AdvertEntry} (hf : ∀ e ∈ es, EntryFits e) (hb : ∀ e ∈ es, EntryEncodable e) :
    readEntries es.length (es.flatMap entryBytes) = some es := by
  induction es with
  | nil => rfl
  | cons e es ih =>
    rw [List.forall_mem_cons] at hf hb
    have htake : (entryBytes e ++ es.flatMap entryBytes).take 7 = entryBytes e :=
      List.take_left' (entryBytes_length e)
    have hdrop : (entryBytes e ++ es.flatMap entryBytes).drop 7 = es.flatMap entryBytes :=
      List.drop_left' (entryBytes_length e)
    simp only [List.length_cons, List.flatMap_cons, readEntries, htake, hdrop, readEntry_entryBytes hf.1 hb.1,
      ih hf.2 hb.2]

/-- Entries that are read stand in seven bytes each and are in their ranges. -/
theorem fits_of_readEntries {n : Nat} {bs : List Byte} {es : List AdvertEntry} (h : readEntries n bs = some es) :
    es.length = n ∧ bs.length = 7 * n ∧ ∀ e ∈ es, EntryFits e := by
  induction n generalizing bs es with
  | zero =>
    unfold readEntries at h
    split at h
    · next hempty =>
      cases h
      simpa using hempty
    · cases h
  | succ n ih =>
    unfold readEntries at h
    split at h
    · next e rest hentry hrest =>
      cases h
      obtain ⟨hseven, hfits⟩ := fits_of_readEntry hentry
      obtain ⟨hcount, hlength, hfitsRest⟩ := ih hrest
      rw [List.length_take] at hseven
      rw [List.length_drop] at hlength
      exact ⟨congrArg (· + 1) hcount, by omega, List.forall_mem_cons.2 ⟨hfits, hfitsRest⟩⟩
    · cases h

theorem entriesRise_iff (es : List AdvertEntry) : entriesRise es = true ↔ (es.map (·.exit)).Pairwise (· < ·) := by
  rw [← List.isChain_iff_pairwise]
  induction es with
  | nil => simp [entriesRise]
  | cons e es ih =>
    cases es with
    | nil => simp [entriesRise]
    | cons f es => simpa [entriesRise] using fun _ => ih

/-! ## A frame -/

/-- The fields of an ADVERT are in their ranges, with at most eight entries in rising order of their exits (R136). -/
structure AdvertFits (a : Advert) : Prop where
  station : 1 ≤ a.station ∧ a.station ≤ 15
  planId  : 1 ≤ a.planId ∧ a.planId ≤ 65535
  count   : a.entries.length ≤ 8
  entries : ∀ e ∈ a.entries, EntryFits e
  rise    : (a.entries.map (·.exit)).Pairwise (· < ·)

/-- The bytes of a body before its entries. -/
def advertHead (a : Advert) : List Byte := [0x30, byte1 a.station] ++ byte2 a.planId ++ [byte1 a.entries.length]

theorem readAdvert_advertBody {a : Advert} (hf : AdvertFits a) (hb : ∀ e ∈ a.entries, EntryEncodable e) :
    readAdvert (advertBody a) = some a := by
  obtain ⟨station, planId, entries⟩ := a
  obtain ⟨hstation, hplan, hcount, hfits, hrise⟩ := hf
  dsimp only at hstation hplan hcount hfits hrise hb
  have hst : (byte1 station).toNat = station := byte1_toNat (by omega)
  have hn : (byte1 entries.length).toNat = entries.length := byte1_toNat (by omega)
  show readAdvert (0x30 :: byte1 station :: byte1 (planId / 256) :: byte1 planId :: byte1 entries.length ::
    entries.flatMap entryBytes) = _
  simp only [readAdvert, hst, hn, num2_byte2 hplan.2, readEntries_entryBytes hfits hb,
    (entriesRise_iff entries).2 hrise,
    hcount, hstation, hplan, and_self, if_true]

theorem num2_le (a b : Byte) : num2 a b ≤ 65535 := by
  have := a.isLt
  have := b.isLt
  simp only [num2]
  omega

/-- A body that is read as an ADVERT is the head of one in its ranges, and seven bytes for each of its entries. -/
theorem fits_of_readAdvert {body : List Byte} {a : Advert} (h : readAdvert body = some a) :
    AdvertFits a ∧ body.length = 5 + 7 * a.entries.length ∧ body.take 5 = advertHead a := by
  unfold readAdvert at h
  split at h
  · next k st p1 p2 n rest =>
    split at h
    · next hhead =>
      obtain ⟨rfl, hcount, hst1, hst15, hplan⟩ := hhead
      split at h
      · next es hes =>
        split at h
        · next hrise =>
          cases h
          obtain ⟨hlen, hbytes, hfits⟩ := fits_of_readEntries hes
          refine ⟨⟨⟨hst1, hst15⟩, ⟨hplan, num2_le p1 p2⟩, hlen ▸ hcount, hfits, (entriesRise_iff es).1 hrise⟩, ?_, ?_⟩
          · simp only [List.length_cons, hbytes, hlen]
            omega
          · simp [advertHead, byte2_num2, byte1_toNat_self, hlen]
        · cases h
      · cases h
    · cases h
  · cases h

/-! ## The reserved flags bits -/

/-- Two bodies are alike but for the reserved bits of the flags bytes, which stand every seven bytes from a place on. -/
def FlagsAlike (first : Nat) (x y : List Byte) : Prop :=
  ∀ i : Nat, x[i]? = y[i]? ∨
    ((∃ k : Nat, i = first + 7 * k) ∧ ∃ m n : Byte, x[i]? = some m ∧ y[i]? = some n ∧ m.toNat % 8 = n.toNat % 8)

/-- Outside the places of flags bytes the bodies are the same. -/
theorem FlagsAlike.eq {first : Nat} {x y : List Byte} (h : FlagsAlike first x y) {i : Nat}
    (hi : ∀ k, i ≠ first + 7 * k) : x[i]? = y[i]? :=
  (h i).resolve_right fun hflag => hflag.1.elim hi

/-- Past an entry the next flags byte stands where this one's did. -/
theorem FlagsAlike.drop_entry {x y : List Byte} (h : FlagsAlike 6 x y) : FlagsAlike 6 (x.drop 7) (y.drop 7) := by
  intro i
  simp only [List.getElem?_drop]
  refine (h (7 + i)).imp id fun ⟨⟨k, hk⟩, hflag⟩ => ⟨⟨k - 1, by omega⟩, hflag⟩

theorem readEntry_of_length_ne {bs : List Byte} (h : bs.length ≠ 7) : readEntry bs = none :=
  Option.eq_none_iff_forall_not_mem.2 fun _ he => h (fits_of_readEntry he).1

/-- The three low bits of its last byte are all that an entry takes of it. -/
theorem readEntry_flags {before : List Byte} {m n : Byte} (h : m.toNat % 8 = n.toNat % 8) :
    readEntry (before ++ [m]) = readEntry (before ++ [n]) := by
  by_cases hlen : before.length = 6
  · match before, hlen with
    | [_, _, _, _, _, _], _ => simp only [List.cons_append, List.nil_append, readEntry, h]
  · rw [readEntry_of_length_ne (by simpa using hlen), readEntry_of_length_ne (by simpa using hlen)]

theorem FlagsAlike.readEntry_eq {x y : List Byte} (h : FlagsAlike 6 x y) :
    readEntry (x.take 7) = readEntry (y.take 7) := by
  have hbefore : x.take 6 = y.take 6 := List.ext_getElem? fun i => by
    simp only [List.getElem?_take]
    split
    · exact h.eq fun k => by omega
    · rfl
  have hseven (z : List Byte) : z.take 7 = z.take 6 ++ z[6]?.toList := List.take_add_one
  rw [hseven, hseven, hbefore]
  rcases h 6 with hsame | ⟨_, m, n, hm, hn, hmod⟩
  · rw [hsame]
  · rw [hm, hn]
    exact readEntry_flags hmod

theorem FlagsAlike.readEntries_eq {x y : List Byte} (h : FlagsAlike 6 x y) (hlen : x.length = y.length) (n : Nat) :
    readEntries n x = readEntries n y := by
  induction n generalizing x y with
  | zero => simp only [readEntries, ← List.length_eq_zero_iff, List.isEmpty_iff, hlen]
  | succ n ih => simp only [readEntries, h.readEntry_eq, ih h.drop_entry (by simp [hlen])]

theorem exists_of_length_five {l : List Byte} (h : l.length = 5) : ∃ a b c d e, l = [a, b, c, d, e] :=
  match l, h with
  | [a, b, c, d, e], _ => ⟨a, b, c, d, e, rfl⟩

theorem readAdvert_short {body : List Byte} (h : body.length < 5) : readAdvert body = none :=
  Option.eq_none_iff_forall_not_mem.2 fun a ha => by
    have := (fits_of_readAdvert ha).2.1
    omega

/-- The reserved bits of the flags bytes are not looked at (R136). -/
theorem FlagsAlike.readAdvert_eq {x y : List Byte} (h : FlagsAlike 11 x y) (hlen : x.length = y.length) :
    readAdvert x = readAdvert y := by
  have hhead : x.take 5 = y.take 5 := List.ext_getElem? fun i => by
    simp only [List.getElem?_take]
    split
    · exact h.eq fun k => by omega
    · rfl
  have hrest : FlagsAlike 6 (x.drop 5) (y.drop 5) := fun i => by
    simp only [List.getElem?_drop]
    exact (h (5 + i)).imp id fun ⟨⟨k, hk⟩, hflag⟩ => ⟨⟨k, by omega⟩, hflag⟩
  by_cases hfive : 5 ≤ y.length
  · obtain ⟨k, st, p1, p2, n, hy⟩ := exists_of_length_five (List.length_take_of_le hfive)
    rw [← List.take_append_drop 5 x, ← List.take_append_drop 5 y, hhead, hy]
    simp only [List.cons_append, List.nil_append, readAdvert, hrest.readEntries_eq (by simp [hlen])]
  · rw [readAdvert_short (Nat.lt_of_not_le (hlen ▸ hfive)), readAdvert_short (Nat.lt_of_not_le hfive)]

end Sys2Proof.Machine
end

section
/-! SUPPORT. What an ADVERT carries (R145 to R147): an entry for each PORTAL exit of its port, and the notes kept of a
published set's seeds. -/

namespace Sys2Proof.Machine

/-! ## The exits of a port -/

theorem onPort_iff (p : Plan) (exit : Nat) (port : PeerPort) :
    onPort p exit port = true ↔ ∃ f, portalOf p exit = some f ∧ f.port = port := by
  unfold onPort
  cases portalOf p exit <;> simp

theorem portalOf_inRange {p : Plan} {exit : Nat} {f : PortalFields} (h : portalOf p exit = some f) :
    exit < p.exits.length := by
  unfold portalOf at h
  split at h
  · next he => exact (List.getElem?_eq_some_iff.1 he).1
  · cases h

theorem mem_exitsOnPort (p : Plan) (port : PeerPort) (exit : Nat) :
    exit ∈ exitsOnPort p port ↔ ∃ f, portalOf p exit = some f ∧ f.port = port := by
  rw [exitsOnPort, List.mem_filter, List.mem_range, onPort_iff, and_iff_right_iff_imp]
  rintro ⟨f, hf, _⟩
  exact portalOf_inRange hf

theorem exitsOnPort_rise (p : Plan) (port : PeerPort) : (exitsOnPort p port).Pairwise (· < ·) :=
  List.pairwise_lt_range.filter _

/-! ## One entry -/

section
variable {p : Plan} {published : Option HeadingSet} {set : HeadingSet} {port : PeerPort} {st : PortState} {exit : Nat}
  {x : ExitRec}

theorem costEntry_exit (set : HeadingSet) (exit : Nat) (cost : Cost) (origin hop : Nat) :
    (costEntry set exit cost origin hop).exit = exit := by
  unfold costEntry
  split <;> rfl

/-- The entry of an exit whose node has no route (R147). -/
theorem buildEntry_unrouted (hx : p.exits[exit]? = some x) (hroute : routeOf (headingAt set x.node).choice = none) :
    buildEntry p (some set) port st exit = unknownEntry exit := by
  simp only [buildEntry, hx, hroute]

theorem buildEntry_routed {origin hop : Nat} (hx : p.exits[exit]? = some x)
    (hroute : routeOf (headingAt set x.node).choice = some (origin, hop)) :
    buildEntry p (some set) port st exit =
      if st = .miswired ∨ onPort p origin port = true then unknownEntry exit
      else costEntry set exit (headingAt set x.node).cost origin hop := by
  simp only [buildEntry, hx, hroute]

theorem buildEntry_exit (p : Plan) (published : Option HeadingSet) (port : PeerPort) (st : PortState) (exit : Nat) :
    (buildEntry p published port st exit).exit = exit := by
  cases published with
  | none => rfl
  | some set =>
    cases hx : p.exits[exit]? with
    | none => simp [buildEntry, hx, unknownEntry]
    | some x =>
      cases hroute : routeOf (headingAt set x.node).choice with
      | none => rw [buildEntry_unrouted hx hroute, unknownEntry]
      | some route =>
        rw [buildEntry_routed hx hroute]
        split
        · rfl
        · exact costEntry_exit _ _ _ _ _

/-- A MISWIRED port sends UNKNOWN entries (R147). -/
theorem buildEntry_miswired (hx : p.exits[exit]? = some x) :
    buildEntry p published port .miswired exit = unknownEntry exit := by
  cases published with
  | none => rfl
  | some set =>
    cases hroute : routeOf (headingAt set x.node).choice with
    | none => exact buildEntry_unrouted hx hroute
    | some route => exact (buildEntry_routed hx hroute).trans (if_pos (.inl rfl))

section
variable {origin hop : Nat} (hx : p.exits[exit]? = some x)
  (hroute : routeOf (headingAt set x.node).choice = some (origin, hop))
include hx hroute

/-- A route that leaves by the same port is not offered on it: poisoned reverse (R147). -/
theorem buildEntry_poisoned (hback : onPort p origin port = true) :
    buildEntry p (some set) port st exit = unknownEntry exit := by
  rw [buildEntry_routed hx hroute]
  exact if_pos (.inr hback)

theorem buildEntry_cost (hback : onPort p origin port = false) (hst : st ≠ .miswired) :
    buildEntry p (some set) port st exit = costEntry set exit (headingAt set x.node).cost origin hop := by
  rw [buildEntry_routed hx hroute]
  exact if_neg (by simp [hback, hst])

end

theorem costEntry_noted {n : SeedNote} {cost : Cost} {origin hop : Nat}
    (h : set.seeds.find? (fun y => decide (y.exit = origin)) = some n) :
    costEntry set exit cost origin hop =
      { exit := exit, cost := cost, hop := hop, isHere := decide (n.cost.x < cost.x), already := n.isHere || n.already
        unknown := false } := by
  simp only [costEntry, noteOf, h]

end

/-! ## The frame -/

section
variable (p : Plan) (published : Option HeadingSet) (port : PeerPort) (st : PortState)

theorem buildAdvert_exits : (buildAdvert p published port st).entries.map (·.exit) = exitsOnPort p port := by
  simp [buildAdvert, Function.comp_def, buildEntry_exit]

theorem buildAdvert_has (exit : Nat) :
    (∃ e ∈ (buildAdvert p published port st).entries, e.exit = exit) ↔
      ∃ f, portalOf p exit = some f ∧ f.port = port := by
  rw [← mem_exitsOnPort, ← buildAdvert_exits p published port st, List.mem_map]

variable {p published port st}

theorem entry_of_mem_buildAdvert {e : AdvertEntry} (h : e ∈ (buildAdvert p published port st).entries) :
    e = buildEntry p published port st e.exit := by
  obtain ⟨i, _, rfl⟩ := List.mem_map.1 h
  rw [buildEntry_exit]

end

/-! ## The notes of a set's seeds (R146) -/

theorem exitSeed_inRange {p : Plan} {exits : List ExitState} {portals : List (Nat × Option Advertisement)} {i : Nat}
    {sd : Seed} (h : exitSeed p exits portals i = some sd) : i < p.exits.length := by
  unfold exitSeed at h
  split at h
  · next he _ => exact (List.getElem?_eq_some_iff.1 he).1
  · cases h

/-- A note is kept for each exit that gives a seed, with its cost, and with the flags of its advertisement, clear where
there is none. -/
theorem mem_seedNotes (p : Plan) (snap : Snapshot) (n : SeedNote) :
    n ∈ seedNotes p snap ↔
      ∃ sd, exitSeed p snap.exits snap.portals n.exit = some sd ∧ n.cost = sd.cost ∧
        (∀ a, advertisementOf snap.portals n.exit = some a → n.isHere = a.isHere ∧ n.already = a.already) ∧
        (advertisementOf snap.portals n.exit = none → n.isHere = false ∧ n.already = false) := by
  obtain ⟨exit, cost, isHere, already⟩ := n
  simp only [seedNotes, List.mem_filterMap, List.mem_range, Option.map_eq_some_iff]
  constructor
  · rintro ⟨i, _, sd, hsd, hnote⟩
    cases hnote
    refine ⟨sd, hsd, rfl, fun a ha => ?_, fun hnone => ?_⟩
    · rw [ha]
      exact ⟨rfl, rfl⟩
    · rw [hnone]
      exact ⟨rfl, rfl⟩
  · rintro ⟨sd, hsd, rfl, hsome, hnone⟩
    refine ⟨exit, exitSeed_inRange hsd, sd, hsd, ?_⟩
    cases ha : advertisementOf snap.portals exit with
    | none => simp [hnone ha]
    | some a => simp [hsome a ha]

end Sys2Proof.Machine
end

section
/-! SUPPORT. A port that takes a state with its portals' advertisements (R138 to R142), at a valid ADVERT and at the age
timer's expiry. -/

namespace Sys2Proof.Machine

/-! ## The portals of a port -/

section
variable {plan : Option Plan} {port : PeerPort} {adv : Nat → Option Advertisement} {portals : List PortalRun}

/-- A field of the portal records that is no advertisement stays through an update. -/
theorem map_updatePortals {α : Type} {g : PortalRun → α} (hg : ∀ r a, g { r with advertisement := a } = g r) :
    (updatePortals plan port adv portals).map g = portals.map g := by
  rw [updatePortals, List.map_map]
  refine List.map_congr_left fun r _ => ?_
  rw [Function.comp_apply]
  (repeat' split) <;> simp only [hg]

theorem liveOnPort_eq (p : Plan) (port : PeerPort) (portals : List PortalRun) :
    liveOnPort (some p) port portals =
      (portals.filter fun r => onPort p r.exit port && r.advertisement.isSome).length := by
  simp only [liveOnPort, onPort_eq_isSome]

theorem matchedAdvert_found {entries : List AdvertEntry} {remote : Nat} {e : AdvertEntry}
    (h : entries.find? (fun x => decide (x.exit = remote)) = some e) :
    matchedAdvert entries remote =
      if e.unknown then none
      else some { cost := e.cost, hop := e.hop, isHere := e.isHere, already := e.already } := by
  simp only [matchedAdvert, h]

theorem matchedAdvert_unmatched {entries : List AdvertEntry} {remote : Nat} (h : ∀ e ∈ entries, e.exit ≠ remote) :
    matchedAdvert entries remote = none := by
  have hnone : entries.find? (fun x => decide (x.exit = remote)) = none :=
    List.find?_eq_none.2 fun e he => by simpa using h e he
  simp only [matchedAdvert, hnone]

end

/-! ## What a change of a port's record leaves -/

/-- From `s` to `v` nothing changes but the port's record, less its state, and what is counted, captured and told. -/
structure TouchesPort (port : PeerPort) (s v : State) : Prop where
  ps      : v.ps = s.ps
  di      : v.di = s.di
  zh      : v.zh = s.zh
  rsv     : v.rsv = s.rsv
  slc     : v.slc = s.slc
  tb      : v.tb = s.tb
  lines   : v.lines = s.lines
  portals : v.pp.portals = s.pp.portals
  state   : (portGet v.pp port).state = (portGet s.pp port).state
  other   : ∀ other : PeerPort, other ≠ port → portGet v.pp other = portGet s.pp other

theorem onPort_port (s : State) (port : PeerPort) (f : PortRec → PortRec) :
    portGet (s.onPort port f).pp port = f (portGet s.pp port) := by
  cases port <;> rfl

theorem onPort_other (s : State) {port other : PeerPort} (h : other ≠ port) (f : PortRec → PortRec) :
    portGet (s.onPort port f).pp other = portGet s.pp other := by
  cases port with
  | a =>
    cases other with
    | a => exact absurd rfl h
    | b => rfl
  | b =>
    cases other with
    | a => rfl
    | b => exact absurd rfl h

theorem onPort_portals (s : State) (port : PeerPort) (f : PortRec → PortRec) :
    (s.onPort port f).pp.portals = s.pp.portals := by
  cases port <;> rfl

namespace TouchesPort

variable {port : PeerPort} {s v : State}

theorem refl (port : PeerPort) (s : State) : TouchesPort port s s := by
  constructor <;> intros <;> rfl

/-- A capture besides. -/
theorem capture (h : TouchesPort port s v) (k : FaultKind) (n : Nat) : TouchesPort port s (capture k n v) :=
  ⟨h.ps, h.di, h.zh, h.rsv, h.slc, h.tb, h.lines, h.portals, h.state, h.other⟩

/-- An event counted besides. -/
theorem fire (h : TouchesPort port s v) (i : CounterInput) (n : Nat) : TouchesPort port s (fire i n v) :=
  ⟨h.ps, h.di, h.zh, h.rsv, h.slc, h.tb, h.lines, h.portals, h.state, h.other⟩

/-- A change of the port's record that leaves its state besides. -/
theorem record (h : TouchesPort port s v) {f : PortRec → PortRec} (hf : ∀ r, (f r).state = r.state) :
    TouchesPort port s (v.onPort port f) where
  ps := (onPort_ps v port f).trans h.ps
  di := (onPort_di v port f).trans h.di
  zh := (onPort_zh v port f).trans h.zh
  rsv := (onPort_rsv v port f).trans h.rsv
  slc := (onPort_slc v port f).trans h.slc
  tb := (onPort_tb v port f).trans h.tb
  lines := (onPort_lines v port f).trans h.lines
  portals := (onPort_portals v port f).trans h.portals
  state := by rw [onPort_port, hf, h.state]
  other := fun other hne => (onPort_other v hne f).trans (h.other other hne)

end TouchesPort

/-! ## A port takes a state -/

section
variable {port : PeerPort} {s v : State} (h : TouchesPort port s v) (st : PortState) (adv : Nat → Option Advertisement)
include h

theorem TouchesPort.setPort_portals :
    (setPort port st adv v).pp.portals = updatePortals s.ps.active port adv s.pp.portals := by
  rw [setPort_pp, h.ps, h.portals]

/-- The other port's record and the other blocks stay. -/
theorem TouchesPort.setPort_frame :
    (∀ other : PeerPort, other ≠ port → portGet (setPort port st adv v).pp other = portGet s.pp other) ∧
    (setPort port st adv v).zh = s.zh ∧ (setPort port st adv v).di = s.di ∧ (setPort port st adv v).slc = s.slc ∧
    (setPort port st adv v).ps = s.ps ∧ (setPort port st adv v).tb = s.tb ∧ (setPort port st adv v).lines = s.lines :=
  ⟨fun other hne => by rw [setPort_port, if_neg hne, h.other other hne], (setPort_zh v ..).trans h.zh,
    (setPort_di v ..).trans h.di, (setPort_slc v ..).trans h.slc, (setPort_ps v ..).trans h.ps,
    (setPort_tb v ..).trans h.tb, (setPort_lines v ..).trans h.lines⟩

/-- A solve is wanted exactly where seed data change (R142). -/
theorem TouchesPort.setPort_seeds :
    let seeds (x : State) := x.pp.portals.map fun r => r.advertisement.map fun a => (a.cost, a.hop)
    (seeds s ≠ seeds (setPort port st adv v) → (setPort port st adv v).rsv =
      { s.rsv with wanted := true, stale := if s.rsv.state = .solving then true else s.rsv.stale }) ∧
    (seeds s = seeds (setPort port st adv v) → (setPort port st adv v).rsv = s.rsv) := by
  have hiff := seedDataChanged_iff (updatePortals_length (port := port) s.ps.active adv s.pp.portals)
  have hrsv := setPort_rsv port st adv v
  rw [h.ps, h.portals] at hrsv
  simp only [h.setPort_portals st adv]
  refine ⟨fun hne => ?_, fun heq => ?_⟩
  · rw [hrsv, if_pos (hiff.2 hne), wantSolve, h.rsv]
    by_cases hs : s.rsv.state = .solving <;> simp [hs]
  · rw [hrsv, if_neg fun hc => hiff.1 hc heq, h.rsv]

/-- LINE_STATE at a change of the port's state, and PORTAL_CHANGE where the port leaves UP or an advertisement changes,
told after what `u` tells (R140, R142; log entries 11, 30). -/
theorem TouchesPort.setPort_told {p : Plan} (hp : s.ps.active = some p) {u : State} (hmp : v.mp = u.mp)
    (hzh : v.zh = u.zh) (htb : v.tb = u.tb) :
    let t := setPort port st adv v
    let old := (portGet s.pp port).state
    let told := if old = st then u else raise (.lineState (portNumber port) (.port st) none) u
    let live := (t.pp.portals.filter fun r => onPort p r.exit port && r.advertisement.isSome).length
    let first := firstChanged s.pp.portals t.pp.portals
    ((old = .up ∧ st ≠ .up) ∨ first ≠ none → t.mp = (raise (.portalChange port st live first) told).mp) ∧
    (¬ (old = .up ∧ st ≠ .up) → first = none → t.mp = told.mp) := by
  intro t old told live first
  have htold : raiseIf (decide (old ≠ st)) (.lineState (portNumber port) (.port st) none) u = told := by
    by_cases hst : old = st <;> simp [raiseIf, told, hst]
  have hlive : liveOnPort s.ps.active port t.pp.portals = live := by rw [hp, liveOnPort_eq]
  have hall : t.mp = (raiseIf (decide (old = .up ∧ st ≠ .up) || decide (first ≠ none))
      (.portalChange port st live first) told).mp := by
    rw [← htold, ← hlive]
    have hnotices := setPort_mp port st adv hmp hzh htb
    simpa only [h.ps, h.portals, h.state, ← h.setPort_portals st adv, changedExits_head?, changedExits_isEmpty]
      using hnotices
  refine ⟨fun hsome => ?_, fun hstate hfirst => ?_⟩ <;> rw [hall, raiseIf]
  · rw [if_pos (by simpa only [Bool.or_eq_true, decide_eq_true_eq] using hsome)]
  · rw [if_neg (by simpa only [Bool.or_eq_true, decide_eq_true_eq, not_or] using ⟨hstate, by simpa using hfirst⟩)]

/-- What follows when the port's state and portals change from `s` to `t`, told after what `u` tells: a solve is wanted
where seed data change, and LINE_STATE and PORTAL_CHANGE rise. -/
def ChangeFollows (port : PeerPort) (p : Plan) (s u t : State) : Prop :=
  let seeds (x : State) := x.pp.portals.map fun r => r.advertisement.map fun a => (a.cost, a.hop)
  let old := (portGet s.pp port).state
  let new := (portGet t.pp port).state
  let told := if old = new then u else raise (.lineState (portNumber port) (.port new) none) u
  let live := (t.pp.portals.filter fun r => onPort p r.exit port && r.advertisement.isSome).length
  let first := firstChanged s.pp.portals t.pp.portals
  (seeds s ≠ seeds t → t.rsv =
    { s.rsv with wanted := true, stale := if s.rsv.state = .solving then true else s.rsv.stale }) ∧
  (seeds s = seeds t → t.rsv = s.rsv) ∧
  ((old = .up ∧ new ≠ .up) ∨ first ≠ none → t.mp = (raise (.portalChange port new live first) told).mp) ∧
  (¬ (old = .up ∧ new ≠ .up) → first = none → t.mp = told.mp)

theorem TouchesPort.setPort_follows {p : Plan} (hp : s.ps.active = some p) {u : State} (hmp : v.mp = u.mp)
    (hzh : v.zh = u.zh) (htb : v.tb = u.tb) : ChangeFollows port p s u (setPort port st adv v) := by
  have hnew : (portGet (setPort port st adv v).pp port).state = st := by rw [setPort_port, if_pos rfl]
  obtain ⟨hwant, hkeep⟩ := h.setPort_seeds st adv
  obtain ⟨hraise, hquiet⟩ := h.setPort_told st adv hp hmp hzh htb
  unfold ChangeFollows
  rw [hnew]
  exact ⟨hwant, hkeep, hraise, hquiet⟩

end

end Sys2Proof.Machine
end

section
/-! SUPPORT. The two events at which a port takes a state: a valid ADVERT and the age timer's expiry (R137 to R141). -/

namespace Sys2Proof.Machine

/-! ## Captures beside firings and port records -/

/-- Whether a capture fills the record does not depend on the event counters. -/
theorem recordIn_counters (fc : FaultCapture) (c : Vector Counter 2) (k : FaultKind) (subject seconds : Nat) :
    (recordIn { fc with counters := c } k subject seconds).2 = (recordIn fc k subject seconds).2 := by
  unfold recordIn
  dsimp only
  (repeat' split) <;> rfl

theorem capture_fire_mp (k : FaultKind) (n : Nat) (i : CounterInput) (m : Nat) (s : State) :
    (capture k n (fire i m s)).mp = (capture k n s).mp := by
  have hfilled := recordIn_counters (tallyIn s.fc k) (vecMap (fun c => countIn c i m) s.fc.counters) k n s.tb.seconds
  exact if_congr (by rw [← hfilled]; rfl) rfl rfl

theorem capture_onPort (k : FaultKind) (n : Nat) (port : PeerPort) (f : PortRec → PortRec) (s : State) :
    capture k n (s.onPort port f) = (capture k n s).onPort port f := by
  cases port <;> rfl

/-! ## A valid ADVERT -/

section
variable (port : PeerPort) (expected : Nat) (a : Advert) (s : State)

/-- An ADVERT's station is not the expected one, and the port was not yet MISWIRED. -/
def miswires : Bool := decide (a.station ≠ expected ∧ (portGet s.pp port).state ≠ .miswired)

theorem miswires_iff : miswires port expected a s = true ↔
    a.station ≠ expected ∧ (portGet s.pp port).state ≠ .miswired := decide_eq_true_iff

/-- The ADVERT counted, with its ids in the port's record and the age timer started. -/
def advertHeard : State :=
  (fire .advertTaken 1 s).onPort port fun r =>
    { r with station := some a.station, planId := some a.planId, age := some (ageTicks s) }

/-- The port before it takes a state: PORT_MISWIRED is captured where it is miswired anew. -/
def beforeTaken : State :=
  if miswires port expected a s then capture .portMiswired (portNumber port) (advertHeard port a s)
  else advertHeard port a s

/-- The state that an ADVERT gives its port. -/
def heardState : PortState := if a.station = expected then .up else .miswired

/-- The advertisements that an ADVERT gives the portals of its port, by their remote exit. -/
def heardAdverts : Nat → Option Advertisement := if a.station = expected then matchedAdvert a.entries else noAdvert

theorem advertTaken_eq : advertTaken port expected a s =
    setPort port (heardState expected a) (heardAdverts expected a) (beforeTaken port expected a s) := by
  by_cases hst : a.station = expected
  · simp [advertTaken, heardState, heardAdverts, beforeTaken, miswires, advertHeard, hst]
  · by_cases hmis : (portGet s.pp port).state = .miswired <;>
      simp [advertTaken, heardState, heardAdverts, beforeTaken, miswires, advertHeard, hst, hmis]

theorem touchesPort_beforeTaken : TouchesPort port s (beforeTaken port expected a s) := by
  have hheard : TouchesPort port s (advertHeard port a s) :=
    ((TouchesPort.refl port s).fire .advertTaken 1).record fun _ => by rfl
  unfold beforeTaken
  split
  · exact hheard.capture _ _
  · exact hheard

theorem beforeTaken_port : portGet (beforeTaken port expected a s).pp port =
    { portGet s.pp port with station := some a.station, planId := some a.planId, age := some (ageTicks s) } := by
  have hheard : portGet (advertHeard port a s).pp port = _ := onPort_port _ _ _
  unfold beforeTaken
  split <;> exact hheard

theorem beforeTaken_fc : (beforeTaken port expected a s).fc =
    (if miswires port expected a s then capture .portMiswired (portNumber port) (fire .advertTaken 1 s)
      else fire .advertTaken 1 s).fc := by
  unfold beforeTaken advertHeard
  split
  · rw [capture_onPort, onPort_fc]
  · rw [onPort_fc]

theorem beforeTaken_mp : (beforeTaken port expected a s).mp =
    (if miswires port expected a s then capture .portMiswired (portNumber port) s else s).mp := by
  unfold beforeTaken advertHeard
  split
  · rw [capture_onPort, onPort_mp, capture_fire_mp]
  · rw [onPort_mp, fire_mp]

/-! ### What an ADVERT leaves -/

theorem advertTaken_port : portGet (advertTaken port expected a s).pp port =
    { portGet s.pp port with
      state := heardState expected a, station := some a.station, planId := some a.planId
      age := some (ageTicks s) } := by
  rw [advertTaken_eq, setPort_port, if_pos rfl, beforeTaken_port]

theorem advertTaken_portals : (advertTaken port expected a s).pp.portals =
    updatePortals s.ps.active port (heardAdverts expected a) s.pp.portals := by
  rw [advertTaken_eq, (touchesPort_beforeTaken port expected a s).setPort_portals]

theorem advertTaken_fc : (advertTaken port expected a s).fc =
    (if miswires port expected a s then capture .portMiswired (portNumber port) (fire .advertTaken 1 s)
      else fire .advertTaken 1 s).fc := by
  rw [advertTaken_eq, setPort_fc, beforeTaken_fc]

/-- The other port's record and the other blocks stay. -/
theorem advertTaken_frame :
    let t := advertTaken port expected a s
    (∀ other : PeerPort, other ≠ port → portGet t.pp other = portGet s.pp other) ∧
    t.zh = s.zh ∧ t.di = s.di ∧ t.slc = s.slc ∧ t.ps = s.ps ∧ t.tb = s.tb ∧ t.lines = s.lines := by
  rw [advertTaken_eq]
  exact (touchesPort_beforeTaken port expected a s).setPort_frame _ _

theorem advertTaken_follows {p : Plan} (hp : s.ps.active = some p) :
    ChangeFollows port p s (if miswires port expected a s then capture .portMiswired (portNumber port) s else s)
      (advertTaken port expected a s) := by
  have htouch := touchesPort_beforeTaken port expected a s
  rw [advertTaken_eq]
  exact htouch.setPort_follows _ _ hp (beforeTaken_mp port expected a s) (htouch.zh.trans (by split <;> rfl))
    (htouch.tb.trans (by split <;> rfl))

end

/-! ## The age timer's expiry (R139) -/

section
variable {port : PeerPort} {s : State}

/-- The age timer stopped, and PEER_DOWN captured. -/
def beforeAged (port : PeerPort) (s : State) : State :=
  capture .peerDown (portNumber port) (s.onPort port fun r => { r with age := none })

theorem ageExpiry_due (h : (portGet s.pp port).age = some 0) :
    ageExpiry port s = setPort port .down noAdvert (beforeAged port s) := if_pos (by simp [timerDue, h])

theorem touchesPort_beforeAged (port : PeerPort) (s : State) : TouchesPort port s (beforeAged port s) :=
  ((TouchesPort.refl port s).record fun _ => by rfl).capture _ _

theorem beforeAged_fc (port : PeerPort) (s : State) :
    (beforeAged port s).fc = (capture .peerDown (portNumber port) s).fc := by
  rw [beforeAged, capture_onPort, onPort_fc]

theorem beforeAged_mp (port : PeerPort) (s : State) :
    (beforeAged port s).mp = (capture .peerDown (portNumber port) s).mp := by
  rw [beforeAged, capture_onPort, onPort_mp]

theorem beforeAged_port (port : PeerPort) (s : State) :
    portGet (beforeAged port s).pp port = { portGet s.pp port with age := none } := onPort_port _ _ _

theorem exec_ageTimerExpiry (hrun : s.phase = .running) (hdue : (portGet s.pp port).age = some 0) :
    exec (.ageTimerExpiry port) s = .next (setPort port .down noAdvert (beforeAged port s)) := by
  rw [← ageExpiry_due hdue]
  exact congrArg _ (whenRunning_running hrun _)

end

end Sys2Proof.Machine
end

section
/-! SUPPORT. When an ADVERT is sent (R144, R145): the triggers of the advertise and the spacing timer, and the end of a
frame. -/

namespace Sys2Proof.Machine

/-! ## A trigger on a port whose record has just changed -/

theorem onPort_onPort (s : State) (port : PeerPort) (f g : PortRec → PortRec) :
    (s.onPort port f).onPort port g = s.onPort port (g ∘ f) := by
  cases port <;> rfl

theorem onPort_mark (s : State) (port : PeerPort) (f : PortRec → PortRec) (id : LineId) :
    (s.onPort port f).mark id = s.mark id := by simp [State.mark]

section
variable {s : State} {port : PeerPort} {p : Plan} {f g : PortRec → PortRec} (hp : s.ps.active = some p)
  (hused : expectedId p.header port ≠ 0 ∧ s.mark (portLine port) = .running)
include hp

theorem sendTrigger_onPort :
    sendTrigger port (s.onPort port f) =
      s.onPort port (triggeredPort p s.rsv.published (s.mark (portLine port)) port ∘ f) := by
  rw [sendTrigger_eq (p := p) (by simpa using hp), onPort_rsv, onPort_mark, onPort_onPort]

include hused

/-- A trigger on a free port sends at once; `g` is the change of the record to which it comes in all. -/
theorem sendTrigger_sends (hspacing : (f (portGet s.pp port)).spacing = none)
    (hsending : (f (portGet s.pp port)).sending = none)
    (hg : g (portGet s.pp port) =
      { f (portGet s.pp port) with
        sending := some ⟨buildAdvert p s.rsv.published port (f (portGet s.pp port)).state, false⟩ }) :
    sendTrigger port (s.onPort port f) = s.onPort port g := by
  rw [sendTrigger_onPort hp]
  exact onPort_congr ((triggeredPort_sends _ _ _ _ _ hused hspacing hsending).trans hg.symm)

/-- A trigger within the spacing or while a frame is being sent is pending. -/
theorem sendTrigger_pends (hbusy : (f (portGet s.pp port)).spacing ≠ none ∨ (f (portGet s.pp port)).sending ≠ none)
    (hg : g (portGet s.pp port) = { f (portGet s.pp port) with sendPending := true }) :
    sendTrigger port (s.onPort port f) = s.onPort port g := by
  rw [sendTrigger_onPort hp]
  exact onPort_congr ((triggeredPort_pends _ _ _ _ _ hused hbusy).trans hg.symm)

end

/-! ## The timers -/

section
variable {s : State} {port : PeerPort}

theorem exec_advertTimerExpiry (hrun : s.phase = .running) (h : (portGet s.pp port).advertise = some 0) :
    exec (.advertTimerExpiry port) s =
      .next (sendTrigger port (s.onPort port fun r => { r with advertise := some (advertiseTicks s) })) :=
  congrArg _ ((whenRunning_running hrun _).trans (if_pos (by simp [timerDue, h])))

theorem exec_spacingTimerExpiry (hrun : s.phase = .running) (h : (portGet s.pp port).spacing = some 0) :
    exec (.spacingTimerExpiry port) s =
      .next (if (portGet s.pp port).sendPending then
          sendTrigger port (s.onPort port fun r => { r with spacing := none, sendPending := false })
        else s.onPort port fun r => { r with spacing := none, sendPending := false }) :=
  congrArg _ ((whenRunning_running hrun _).trans (if_pos (by simp [timerDue, h])))

/-! ## The end of a frame -/

/-- A port's record and the count once a frame has been sent, before its entries are recorded. -/
def frameEnded (port : PeerPort) (s : State) : State :=
  (fire .advertSent 1 s).onPort port fun r =>
    { r with sending := none, spacing := if portInUse s port then some (spacingTicks s) else none }

/-- The portal records after a frame: a frame begun under the plan in force sets the last sent entries it carried. -/
def portalsSent (f : AdvertSending) (portals : List PortalRun) : List PortalRun :=
  if f.former then portals else recordEntries f.frame.entries portals

/-- The end of a frame: its entries recorded besides. -/
def frameSent (port : PeerPort) (f : AdvertSending) (s : State) : State :=
  { frameEnded port s with pp := { (frameEnded port s).pp with portals := portalsSent f s.pp.portals } }

theorem exec_advertFrameSent (hrun : s.phase = .running) {f : AdvertSending}
    (h : (portGet s.pp port).sending = some f) :
    exec (.advertFrameSent port) s = .next (frameSent port f s) := by
  refine congrArg _ ((whenRunning_running hrun _).trans ?_)
  have hportals : (frameEnded port s).pp.portals = s.pp.portals := onPort_portals _ _ _
  unfold advertSent frameSent portalsSent
  rw [h, ← hportals]
  dsimp only
  split <;> rfl

/-- Both ports' records at the end of a frame: the sender's spacing timer starts (R144). -/
theorem frameSent_port (port other : PeerPort) (f : AdvertSending) (s : State) :
    portGet (frameSent port f s).pp other =
      if other = port then
        { portGet s.pp port with
          sending := none, spacing := if portInUse s port then some (spacingTicks s) else none }
      else portGet s.pp other := by
  cases port <;> cases other <;> rfl

theorem frameSent_fc (port : PeerPort) (f : AdvertSending) (s : State) :
    (frameSent port f s).fc = (fire .advertSent 1 s).fc := onPort_fc _ _ _

/-- The end of a frame touches the Peer Ports and a counter alone. -/
theorem frameSent_frame (port : PeerPort) (f : AdvertSending) (s : State) :
    let t := frameSent port f s
    t.phase = s.phase ∧ t.pending = s.pending ∧ t.rsv = s.rsv ∧ t.zh = s.zh ∧ t.di = s.di ∧ t.slc = s.slc ∧
      t.ps = s.ps ∧ t.mp = s.mp ∧ t.tb = s.tb ∧ t.lines = s.lines := by
  simp [frameSent, frameEnded]

end

end Sys2Proof.Machine
end

section
/-! SUPPORT. The Peer Ports, clause by clause (R136 to R147): O59. -/

namespace Sys2Proof.Machine

/-! ## What a port hands on to (R137) -/

section
variable {s : State} {port : PeerPort}

theorem advertEvent_noPlan (h : s.ps.active = none) (ev : RxEvent) : advertEvent port s ev = s := by
  simp only [advertEvent, h]

theorem advertEvent_unused {p : Plan} (h : s.ps.active = some p) (hid : expectedId p.header port = 0) (ev : RxEvent) :
    advertEvent port s ev = s := by
  simp only [advertEvent, h]
  exact if_pos hid

theorem advertEvent_used {p : Plan} (h : s.ps.active = some p) (hid : expectedId p.header port ≠ 0) (ev : RxEvent) :
    advertEvent port s ev =
      match ev with
      | .badCheck err => advertInvalid port err s
      | .frame body err =>
        if err then advertInvalid port true s
        else match readAdvert body with
          | some a => advertTaken port (expectedId p.header port) a s
          | none => advertInvalid port false s := by
  simp only [advertEvent, h]
  exact if_neg hid

/-! ## The portals of a port after an ADVERT -/

/-- What a port's ADVERT leaves of a portal record: of its own portals those of its expected station hold the matching
entry, and the other portals stay (R141). -/
theorem heard_portal {p : Plan} {a : Advert} {expected : Nat} {r : PortalRun}
    (hr : r ∈ updatePortals (some p) port (heardAdverts expected a) s.pp.portals) :
    (∀ f, portalOf p r.exit = some f → f.port = port →
      (a.station ≠ expected → r.advertisement = none) ∧
      (a.station = expected →
        (∀ e, a.entries.find? (fun x => decide (x.exit = f.remote)) = some e → r.advertisement =
          if e.unknown then none
          else some { cost := e.cost, hop := e.hop, isHere := e.isHere, already := e.already }) ∧
        ((∀ e ∈ a.entries, e.exit ≠ f.remote) → r.advertisement = none))) ∧
    ((∀ f, portalOf p r.exit = some f → f.port ≠ port) → r ∈ s.pp.portals) := by
  rcases mem_updatePortals hr with ⟨g, hg, hport, hadv⟩ | ⟨hoff, hkept⟩
  · refine ⟨fun f hf _ => ?_, fun hoff => absurd hport (hoff g hg)⟩
    cases hg.symm.trans hf
    rw [hadv, heardAdverts]
    refine ⟨fun hother => by rw [if_neg hother]; rfl, fun hst => ?_⟩
    rw [if_pos hst]
    exact ⟨fun e he => matchedAdvert_found he, matchedAdvert_unmatched⟩
  · exact ⟨fun f hf hport => absurd hport (hoff f hf), fun _ => hkept⟩

/-! ## A port's portals after it goes DOWN -/

theorem downed_portal {p : Plan} {r : PortalRun} (hr : r ∈ updatePortals (some p) port noAdvert s.pp.portals)
    (hoff : onPort p r.exit port = false) : r ∈ s.pp.portals := by
  rcases mem_updatePortals hr with ⟨f, hf, hport, _⟩ | ⟨_, hkept⟩
  · rw [(onPort_iff p r.exit port).2 ⟨f, hf, hport⟩] at hoff
    cases hoff
  · exact hkept

end

/-- Settles O59, clause by clause: the bodies and what a receiver hands on; what a frame carries, with the notes of
seeds; the solve and the notices of a change; a valid ADVERT, the age timer's expiry, and the sending. -/
theorem adverts : Obligations.adverts := by
  refine ⟨fun a => ⟨fun ⟨h1, h15, hp1, hp, hcount, hentries, hrise⟩ hb => ?_, fun body h => ?_⟩,
    fun x y hlen halike => FlagsAlike.readAdvert_eq halike hlen, fun s port ev h => advertEvent_noPlan h ev,
    fun s port p hp => ⟨fun hid => advertEvent_unused hp hid, fun hid => ?_⟩, fun p published port st => ?_,
    fun p snap nodes prev n => mem_seedNotes p snap n, fun s port p hp => ⟨fun a expected => ?_, ?_⟩,
    fun s port p a hp hid => ?_, fun s port hrun hdue => ?_, fun s port p hrun hp hid hmark => ?_⟩
  · exact readAdvert_advertBody ⟨⟨h1, h15⟩, ⟨hp1, hp⟩, hcount, hentries, hrise⟩ hb
  · obtain ⟨⟨⟨h1, h15⟩, ⟨hp1, hp⟩, hcount, hentries, hrise⟩, hbytes, hhead⟩ := fits_of_readAdvert h
    exact ⟨⟨h1, h15, hp1, hp, hcount, hentries, hrise⟩, hbytes, hhead⟩
  · simp only [advertEvent_used hp hid]
    refine ⟨fun body a ha => ?_, fun body hno => ?_, fun body => rfl, fun err => rfl⟩
    · simp only [ha, Bool.false_eq_true, if_false]
    · simp only [hno, Bool.false_eq_true, if_false]
      rfl
  · refine ⟨rfl, rfl, ?_, buildAdvert_has p published port st, fun e he x hx => ?_⟩
    · rw [buildAdvert_exits]
      exact exitsOnPort_rise p port
    · rw [entry_of_mem_buildAdvert he, buildEntry_exit]
      refine ⟨fun h => ?_, fun set hset => ?_⟩
      · rcases h with rfl | rfl
        · rfl
        · exact buildEntry_miswired hx
      · subst hset
        refine ⟨fun hnone => buildEntry_unrouted hx (by rw [hnone]; rfl), fun origin hop hroute =>
          ⟨fun hback => buildEntry_poisoned hx hroute ((onPort_iff p origin port).2 hback), fun hback hst n hn => ?_⟩⟩
        have hother : onPort p origin port = false := by
          rw [Bool.eq_false_iff, ne_eq, onPort_iff]
          rintro ⟨o, ho, hport⟩
          exact hback o ho hport
        rw [buildEntry_cost hx hroute hother hst]
        exact costEntry_noted hn
  · have hfollows := advertTaken_follows port expected a s hp
    simp only [miswires_iff] at hfollows
    exact hfollows
  · intro hrun hdue t ht
    rw [exec_ageTimerExpiry hrun hdue] at ht
    cases ht
    have htouch := touchesPort_beforeAged port s
    exact htouch.setPort_follows _ _ hp (beforeAged_mp port s) htouch.zh htouch.tb
  · intro t
    have hport := advertTaken_port port (expectedId p.header port) a s
    have hportals := advertTaken_portals port (expectedId p.header port) a s
    have hfc := advertTaken_fc port (expectedId p.header port) a s
    have hage : ageTicks s = timingTicks p.header.ageLimit := by simp only [ageTicks, hp]
    obtain ⟨hother, hrest⟩ := advertTaken_frame port (expectedId p.header port) a s
    refine ⟨by rw [hport], by rw [hport], by rw [hport, hage], by rw [hport]; rfl, ?_, ?_, hother, fun r hr => ?_,
      fun hst hmis => ?_, fun hno => ?_, fun hsame => ?_, hrest⟩
    · exact (congrArg _ hportals).trans (map_updatePortals fun _ _ => rfl)
    · exact (congrArg _ hportals).trans (map_updatePortals fun _ _ => rfl)
    · rw [hportals, hp] at hr
      exact heard_portal hr
    · rw [hfc, if_pos ((miswires_iff ..).2 ⟨hst, hmis⟩)]
    · rw [hfc, if_neg]
      simpa only [miswires_iff, not_and_or, not_not] using hno
    · obtain ⟨_, hkeep, _⟩ := advertTaken_follows port (expectedId p.header port) a s hp
      exact hkeep (congrArg _ hsame).symm
  · have htouch := touchesPort_beforeAged port s
    obtain ⟨hother, hrest⟩ := htouch.setPort_frame .down noAdvert
    have hportals := htouch.setPort_portals .down noAdvert
    have hport : portGet (setPort port .down noAdvert (beforeAged port s)).pp port =
        { portGet s.pp port with state := .down, age := none } := by
      rw [setPort_port, if_pos rfl, beforeAged_port]
    refine ⟨_, exec_ageTimerExpiry hrun hdue, by rw [hport], by rw [hport],
      (setPort_fc ..).trans (beforeAged_fc port s), hother, ?_, ?_, fun p r hp hr hoff => ?_,
      fun p r hp hr hon => ?_, hrest⟩
    · exact (congrArg _ hportals).trans (map_updatePortals fun _ _ => rfl)
    · exact (congrArg _ hportals).trans (map_updatePortals fun _ _ => rfl)
    · rw [hportals, hp] at hr
      exact downed_portal hr hoff
    · rw [hportals, hp] at hr
      exact updatePortals_unknown hr hon
  · intro r begun
    have hused : expectedId p.header port ≠ 0 ∧ s.mark (portLine port) = .running := ⟨hid, hmark⟩
    have hadvertise : advertiseTicks s = timingTicks p.header.advertise := by simp only [advertiseTicks, hp]
    have hspacing : spacingTicks s = timingTicks p.header.spacing := by simp only [spacingTicks, hp]
    refine ⟨fun hdue => ⟨fun hfree hidle => ?_, fun hbusy => ?_⟩,
      fun hdue => ⟨fun hno => ?_, fun hpending hidle => ?_⟩, fun f hf => ?_⟩
    · rw [exec_advertTimerExpiry hrun hdue, hadvertise]
      exact congrArg _ (sendTrigger_sends hp hused hfree hidle rfl)
    · rw [exec_advertTimerExpiry hrun hdue, hadvertise]
      exact congrArg _ (sendTrigger_pends hp hused hbusy rfl)
    · rw [exec_spacingTimerExpiry hrun hdue, if_neg (by rw [hno]; exact Bool.false_ne_true)]
      exact congrArg _ (onPort_congr (by rw [← hno]))
    · rw [exec_spacingTimerExpiry hrun hdue, if_pos hpending]
      exact congrArg _ (sendTrigger_sends hp hused rfl hidle rfl)
    · have hinUse : portInUse s port = true := by simp [portInUse, hp, hid]
      refine ⟨_, exec_advertFrameSent hrun hf, ?_, frameSent_fc port f s, fun hformer => ?_, fun hcurrent => ?_,
        fun other hne => ?_, frameSent_frame port f s⟩
      · rw [frameSent_port, if_pos rfl, if_pos hinUse, hspacing]
      · exact if_pos hformer
      · exact if_neg (by simp [hcurrent])
      · rw [frameSent_port, if_neg hne]

end Sys2Proof.Machine
end

section
/-! SUPPORT. The Message Port's input slots, and what a request can come to (R156 to R158, R164, R167, R172): O16, O17,
O18, O19, O20. -/

namespace Sys2Proof.Machine

/-! ## What no request reaches -/

/-- The parts of a state that no request's effect reaches: the queue, the phase, the Timebase, the waiting slot and the
transmitter. -/
def unreached (s : State) : List Instr × Phase × Timebase × Option Request × Transmitter :=
  (s.pending, s.phase, s.tb, s.mp.waiting, s.mp.transmitter)

section
variable (s : State)

@[simp] theorem unreached_raise (b : NoticeBody) : unreached (raise b s) = unreached s := by
  have hmp : (raise b s).mp = _ := raiseIn_rest s.mp b s.zh.clock s.tb.seconds
  simp only [unreached, hmp]
  rfl

@[simp] theorem unreached_raiseIf (c : Bool) (b : NoticeBody) : unreached (raiseIf c b s) = unreached s := by
  cases c
  · rfl
  · exact unreached_raise s b

@[simp] theorem unreached_capture (k : FaultKind) (n : Nat) : unreached (capture k n s) = unreached s := by
  simp only [unreached, capture]
  split
  · rw [raiseIn_rest]
  · rfl

/-- An operation that leaves the whole Message Port. -/
theorem unreached_of_mp {s t : State} (hpending : t.pending = s.pending) (hphase : t.phase = s.phase)
    (htb : t.tb = s.tb) (hmp : t.mp = s.mp) : unreached t = unreached s := by
  simp only [unreached, hpending, hphase, htb, hmp]

/-! ### Zones and the evacuation state -/

@[simp] theorem unreached_checkNoRoute : unreached (checkNoRoute s) = unreached s := by
  rcases checkNoRoute_cases s with h | ⟨e, c, n, a, h⟩ <;> simp [h]

@[simp] theorem unreached_setEvac (n : EvacState) (c : EvacCause) : unreached (setEvac n c s) = unreached s := by
  unfold setEvac
  split
  · rfl
  · exact unreached_raise _ _

@[simp] theorem unreached_enterActive (c : EvacCause) : unreached (enterActive c s) = unreached s :=
  (unreached_checkNoRoute _).trans (unreached_raise _ _)

@[simp] theorem unreached_leaveActive (c : EvacCause) : unreached (leaveActive c s) = unreached s :=
  unreached_setEvac _ _ _

@[simp] theorem unreached_zoneChanged (zone : Nat) (a b : ZoneState) :
    unreached (zoneChanged zone a b s) = unreached s := by
  have hrisen : unreached (raise (.zoneChange zone a b) (wantSolve s)) = unreached s := unreached_raise _ _
  unfold zoneChanged evacAfterZone
  (repeat' split) <;> simp [hrisen]

@[simp] theorem unreached_updateZone (zone : Nat) (a b : ZoneRun) :
    unreached (updateZone zone a b s) = unreached s := by
  unfold updateZone
  split
  · rfl
  · exact unreached_zoneChanged _ _ _ _

/-! ### Lines, signs and ports -/

@[simp] theorem unreached_setLock (n : LockState × Nat × Nat) (t : Timer) (p : Option Nat) :
    unreached (setLock n t p s) = unreached s := by
  have hset : unreached (lockSet n t p s) = unreached s := rfl
  rw [setLock_eq]
  split <;> simp [hset]

@[simp] theorem unreached_onPort (port : PeerPort) (f : PortRec → PortRec) :
    unreached (s.onPort port f) = unreached s := unreached_of_mp (by simp) (by simp) (by simp) (by simp)

@[simp] theorem unreached_setPort (port : PeerPort) (st : PortState) (adv : Nat → Option Advertisement) :
    unreached (setPort port st adv s) = unreached s := by
  have hwant (c : Bool) (u : State) : unreached (wantSolveIf c u) = unreached u :=
    unreached_of_mp (by simp) (by simp) (by simp) (by simp)
  simp only [setPort, unreached_raiseIf, hwant]
  exact unreached_onPort s port _

theorem unreached_haltPort (port : PeerPort) : unreached (haltPort port s) = unreached s := by
  have hclosed : unreached (closedLine port s) = unreached s := unreached_onPort _ _ _
  rw [haltPort_eq, unreached_setPort, beforeDown]
  split <;> simp [hclosed]

theorem unreached_runPort (port : PeerPort) : unreached (runPort port s) = unreached s := by
  unfold runPort
  dsimp only
  split
  · exact unreached_of_mp (by simp) (by simp) (by simp) (by simp)
  · rfl

theorem unreached_drainEnded : unreached (drainEnded s) = unreached s := by
  unfold drainEnded
  (repeat' split)
  · exact unreached_of_mp (by simp) (by simp) (by simp) (by simp)
  · rfl
  · rfl

theorem unreached_runSign : unreached (runSign s) = unreached s := by
  have hdrained := unreached_drainEnded
    (s.onLine .sign fun l => { l with mark := .running, inUse := l.format, rx := [] })
  unfold runSign
  dsimp only
  split
  · exact (unreached_of_mp (by simp) (by simp) (by simp) (by simp)).trans hdrained
  · exact hdrained

@[simp] theorem unreached_haltLine (id : LineId) : unreached (haltLine id s) = unreached s := by
  cases id with
  | message => rfl
  | detector => exact unreached_setLock _ _ _ _
  | sign => rfl
  | peerA => exact unreached_haltPort s .a
  | peerB => exact unreached_haltPort s .b

@[simp] theorem unreached_runLine (id : LineId) : unreached (runLine id s) = unreached s := by
  cases id with
  | message => rfl
  | detector => rfl
  | sign => exact unreached_runSign s
  | peerA => exact unreached_runPort s .a
  | peerB => exact unreached_runPort s .b

/-! ### The swap -/

theorem unreached_swapPort (port : PeerPort) : unreached (swapPort port s) = unreached s := by
  unfold swapPort
  (repeat' split) <;> simp

theorem unreached_evacAfterSwap : unreached (evacAfterSwap s) = unreached s := by
  unfold evacAfterSwap
  split
  · rfl
  · exact unreached_setEvac _ _ _

@[simp] theorem unreached_swap : unreached (swap s) = unreached s := by
  unfold swap
  split
  · next p _ =>
    have hblocks : unreached (swapBlocks p s) = unreached s := unreached_raise { s with ps := swapStore p s.ps } _
    rw [swapTo_eq, unreached_swapPort, unreached_swapPort]
    exact (unreached_evacAfterSwap _).trans hblocks
  · rfl

end

/-! ### Notices -/

/-- Flags cleared leave the waiting slot and the transmitter. -/
theorem foldl_clearFlagIn_slots (ks : List NoticeKind) (mp : MessagePort) :
    (ks.foldl clearFlagIn mp).waiting = mp.waiting ∧ (ks.foldl clearFlagIn mp).transmitter = mp.transmitter := by
  induction ks generalizing mp with
  | nil => exact ⟨rfl, rfl⟩
  | cons k ks ih => exact ih (clearFlagIn mp k)

/-! ## What a request can come to (R158) -/

/-- What performing a request in a state can come to: it is turned away, the state as it was and no body; or it is
answered OK or CLAMPED, with an effect that leaves the parts no request reaches. -/
inductive RequestOutcome (s : State) : Answer → Prop
  | away (st : ReplyStatus) : RequestOutcome s (turnedAway st s)
  | done {t : State} (fields : List Byte) (h : unreached t = unreached s) : RequestOutcome s (answered fields t)
  | doneClamped {t : State} (clamped : Bool) (fields : List Byte) (h : unreached t = unreached s) :
    RequestOutcome s (answeredClamped clamped fields t)

namespace RequestOutcome

variable {s : State} {a : Answer}

/-- A request answered with a status other than OK and CLAMPED was turned away. -/
theorem turned_away (h : RequestOutcome s a) (hok : a.status ≠ .ok) (hclamped : a.status ≠ .clamped) :
    a.state = s ∧ a.fields = [] := by
  cases h with
  | away st => exact ⟨rfl, rfl⟩
  | done => exact absurd rfl hok
  | doneClamped clamped =>
    cases clamped with
    | false => exact absurd rfl hok
    | true => exact absurd rfl hclamped

theorem unreached_eq (h : RequestOutcome s a) : unreached a.state = unreached s := by
  cases h with
  | away st => rfl
  | done _ h => exact h
  | doneClamped _ _ h => exact h

theorem withoutFields (fields : List Byte) {f : State → Answer} (h : RequestOutcome s (f s)) :
    RequestOutcome s (withoutFields fields s f) := by
  unfold Machine.withoutFields
  split
  · exact h
  · exact .away _

theorem withPlan {f : Plan → Answer} (h : ∀ p, RequestOutcome s (f p)) : RequestOutcome s (withPlan s f) := by
  unfold Machine.withPlan
  split
  · exact .away _
  · exact h _

/-- Turned away where a test fails, and done where it holds. -/
theorem ite {c : Prop} [Decidable c] {b : Answer} (ha : RequestOutcome s a) (hb : RequestOutcome s b) :
    RequestOutcome s (if c then a else b) := by
  split
  · exact ha
  · exact hb

end RequestOutcome

/-! ## Each request -/

section
variable (s : State) (f : List Byte)

theorem unreached_setStaging (g : Staging) : unreached (setStaging g s) = unreached s := rfl

/-! ### Plan requests (R9 to R16) -/

theorem outcome_planBegin : RequestOutcome s (answerPlanBegin f s) :=
  .withoutFields f (.ite (.away _) (.done _ (unreached_setStaging s _)))

theorem outcome_planDiscard : RequestOutcome s (answerPlanDiscard f s) :=
  .withoutFields f (.ite (.away _) (.ite (.done _ rfl) (.done _ (unreached_setStaging s _))))

theorem outcome_planCheck : RequestOutcome s (answerPlanCheck f s) :=
  .withoutFields f (.ite (.away _) (.ite (.away _) (.done _ (unreached_setStaging s _))))

theorem outcome_putStaged (sect : Section) (first : Nat) (rs : List (List Byte)) :
    RequestOutcome s (putStaged sect first rs s) := by
  refine .ite (.away _) ?_
  split
  · exact .away _
  · exact .doneClamped _ _ (unreached_setStaging s _)

theorem outcome_planPut : RequestOutcome s (answerPlanPut f s) := by
  unfold answerPlanPut
  repeat' split
  case' h_3.isFalse => exact outcome_putStaged s _ _ _
  all_goals exact .away _

theorem outcome_planActivate : RequestOutcome s (answerPlanActivate f s) := by
  refine .withoutFields f (.ite (.done _ ?_) (.away _))
  split
  · exact (unreached_swap _).trans (unreached_setStaging s _)
  · rfl

theorem outcome_planRead : RequestOutcome s (answerPlanRead f s) := by
  unfold answerPlanRead
  repeat' split
  case' h_2 => exact .doneClamped _ _ rfl
  all_goals exact .away _

/-! ### Exits, zones and groups (R55, R56, R60, R61, R71, R104) -/

theorem outcome_exitSet : RequestOutcome s (answerExitSet f s) := by
  unfold answerExitSet
  split
  · refine .withPlan fun _ => ?_
    split
    · exact .done _ rfl
    · exact .away _
  · exact .away _

theorem outcome_zoneForce : RequestOutcome s (answerZoneForce f s) := by
  unfold answerZoneForce
  split
  · refine .withPlan fun _ => ?_
    split
    · exact .done _ (unreached_updateZone s _ _ _)
    · exact .done _ (unreached_updateZone _ _ _ _)
    · exact .away _
  · exact .away _

theorem outcome_zoneReset : RequestOutcome s (answerZoneReset f s) := by
  unfold answerZoneReset
  split
  · refine .withPlan fun _ => ?_
    split
    · exact .away _
    · exact .ite (.ite (.away _) (.done _ (unreached_updateZone s _ _ _))) (.done _ rfl)
  · exact .away _

theorem outcome_evacuate : RequestOutcome s (answerEvacuate f s) := by
  refine .withoutFields f (.done _ ?_)
  split
  · rfl
  · exact unreached_enterActive _ _

theorem outcome_standDown : RequestOutcome s (answerStandDown f s) :=
  .withoutFields f (.ite (.ite (.away _) (.done _ (unreached_leaveActive s _))) (.done _ rfl))

theorem outcome_groupSet : RequestOutcome s (answerGroupSet f s) := by
  unfold answerGroupSet
  repeat' split
  case' h_1 => exact .doneClamped _ _ rfl
  all_goals exact .away _

/-! ### Queries (R58, R96, R132, R150, R162) -/

theorem outcome_nodeQuery : RequestOutcome s (answerNodeQuery f s) := by
  unfold answerNodeQuery
  split
  · refine .withPlan fun _ => ?_
    split
    · exact .away _
    · exact .done _ rfl
  · exact .away _

theorem outcome_signQuery : RequestOutcome s (answerSignQuery f s) := by
  unfold answerSignQuery
  split
  · refine .withPlan fun _ => ?_
    split
    · exact .done _ rfl
    · exact .away _
  · exact .away _

theorem outcome_zoneQuery : RequestOutcome s (answerZoneQuery f s) := by
  unfold answerZoneQuery
  split
  · refine .withPlan fun _ => ?_
    split
    · exact .away _
    · exact .done _ rfl
  · exact .away _

theorem outcome_detectorQuery : RequestOutcome s (answerDetectorQuery f s) := by
  unfold answerDetectorQuery
  split
  · exact .withPlan fun _ => .ite (.away _) (.done _ rfl)
  · exact .away _

theorem outcome_portalQuery : RequestOutcome s (answerPortalQuery f s) := by
  unfold answerPortalQuery
  split
  · refine .withPlan fun _ => ?_
    split
    · exact .done _ rfl
    · exact .away _
  · exact .away _

/-! ### Notices, faults, counters and outputs (R173, R174, R177 to R180) -/

theorem outcome_noticeSetup : RequestOutcome s (answerNoticeSetup f s) := by
  unfold answerNoticeSetup
  split
  · split
    · exact .doneClamped _ _ rfl
    · exact .away _
  · exact .away _

theorem outcome_clearFlags : RequestOutcome s (answerClearFlags f s) := by
  unfold answerClearFlags
  split
  · refine .ite ?_ (.away _)
    split
    · next ks _ =>
      obtain ⟨hw, ht⟩ := foldl_clearFlagIn_slots ks s.mp
      exact .done _ (by simp only [unreached, hw, ht])
    · exact .away _
  · exact .away _

theorem outcome_faultClear : RequestOutcome s (answerFaultClear f s) := by
  unfold answerFaultClear
  split
  · split
    · exact .done _ rfl
    · exact .away _
  · exact .away _

theorem outcome_counterSetup : RequestOutcome s (answerCounterSetup f s) := by
  unfold answerCounterSetup
  repeat' split
  case' h_1 => exact .done _ rfl
  all_goals exact .away _

theorem outcome_outputSetup : RequestOutcome s (answerOutputSetup f s) := by
  unfold answerOutputSetup
  split
  · refine .ite ?_ (.away _)
    split
    · split
      · exact .done _ rfl
      · split
        · exact .done _ rfl
        · exact .away _
      · exact .away _
    · exact .away _
  · exact .away _

/-! ### Lines and RESTART (R163 to R167) -/

theorem outcome_setupFormat (line : Nat) (g : Option Format) : RequestOutcome s (setupFormat line g s) := by
  refine .ite (.away _) ?_
  split
  · exact .away _
  · split
    · exact .away _
    · split
      · exact .done _ rfl
      · exact .ite (.away _) (.done _ rfl)

theorem outcome_setupContact (line : Nat) (mode : Option ContactMode) (a : Nat) :
    RequestOutcome s (setupContact line mode a s) := by
  refine .ite (.away _) (.ite (.away _) ?_)
  split
  · exact .away _
  · exact .ite (.away _) (.done _ rfl)

theorem outcome_lineSetup : RequestOutcome s (answerLineSetup f s) := by
  unfold answerLineSetup
  split
  · exact outcome_setupFormat s _ _
  · exact outcome_setupContact s _ _ _
  · exact .away _

theorem outcome_lineHalt : RequestOutcome s (answerLineHalt f s) := by
  unfold answerLineHalt
  split
  · split
    · exact .away _
    · exact .ite (.done _ rfl) (.ite (.away _) (.done _ (unreached_haltLine s _)))
  · exact .away _

theorem outcome_lineRun : RequestOutcome s (answerLineRun f s) := by
  unfold answerLineRun
  split
  · split
    · exact .away _
    · exact .ite (.done _ rfl) (.done _ (unreached_runLine s _))
  · exact .away _

theorem outcome_restart : RequestOutcome s (answerRestart f s) :=
  .withoutFields f (.ite (.away _) (.ite (.away _) (.done _ rfl)))

end

/-- Every request comes to one of the outcomes, kind by kind. -/
theorem outcome_perform (r : Request) (s : State) : RequestOutcome s (perform r s) := by
  unfold perform performKind
  split
  case h_1 => exact .withoutFields _ (.done _ rfl)
  case h_2 => exact .withoutFields _ (.done _ rfl)
  case h_3 => exact outcome_planBegin s _
  case h_4 => exact outcome_planCheck s _
  case h_5 => exact outcome_planActivate s _
  case h_6 => exact outcome_planDiscard s _
  case h_7 => exact outcome_planPut s _
  case h_8 => exact outcome_planRead s _
  case h_9 => exact outcome_exitSet s _
  case h_10 => exact outcome_zoneForce s _
  case h_11 => exact outcome_zoneReset s _
  case h_12 => exact outcome_evacuate s _
  case h_13 => exact outcome_standDown s _
  case h_14 => exact outcome_groupSet s _
  case h_15 => exact outcome_nodeQuery s _
  case h_16 => exact outcome_signQuery s _
  case h_17 => exact outcome_zoneQuery s _
  case h_18 => exact outcome_detectorQuery s _
  case h_19 => exact outcome_portalQuery s _
  case h_20 => exact outcome_noticeSetup s _
  case h_21 => exact outcome_clearFlags s _
  case h_22 => exact .withoutFields _ (.done _ rfl)
  case h_23 => exact outcome_faultClear s _
  case h_24 => exact outcome_counterSetup s _
  case h_25 => exact .withoutFields _ (.done _ rfl)
  case h_26 => exact outcome_outputSetup s _
  case h_27 => exact outcome_lineSetup s _
  case h_28 => exact outcome_lineHalt s _
  case h_29 => exact outcome_lineRun s _
  case h_30 => exact outcome_restart s _
  case h_31 => exact .away _

/-- Settles O18: of a request's outcomes only the turning away has such a status. -/
theorem turned_away_changes_nothing : Obligations.turned_away_changes_nothing :=
  fun r s hok hclamped => (outcome_perform r s).turned_away hok hclamped

/-! ## Requests placed and taken (R156, R157) -/

section
variable {s : State}

/-- With a reply held no request is taken. -/
theorem takeNext_replying (h : s.mp.reply ≠ none) : takeNext s = s := by
  unfold takeNext
  split
  · next hr _ => exact absurd hr h
  · rfl

/-- While an effect waits for or after a reply no request is taken. -/
theorem takeNext_deferred (h : s.mp.deferred ≠ .none) : takeNext s = s := by
  unfold takeNext
  split
  · next hd => exact absurd hd h
  · rfl

/-- With the reply slot empty and nothing deferred the request in hand is taken. -/
theorem takeNext_free (hr : s.mp.reply = none) (hd : s.mp.deferred = .none) :
    takeNext s = match s.mp.hand with
      | none => s
      | some r => takeRequest r s := by
  cases hh : s.mp.hand <;> simp [takeNext, hh, hr, hd]

theorem sendReply_eq (t : Transmitter) : sendReply t = if t = .idle then .reply else t := by
  cases t <;> rfl

end

/-- A request taken: its effect, its reply placed and sent by a free transmitter, and the waiting frame moved up. -/
theorem takeRequest_eq (r : Request) (s : State) :
    takeRequest r s =
      { (perform r s).state with
        mp := { (perform r s).state.mp with
          hand := (perform r s).state.mp.waiting, waiting := none
          reply := some { kind := r.kind, tag := r.tag, status := (perform r s).status, fields := (perform r s).fields }
          transmitter := if s.mp.transmitter = .idle then .reply else s.mp.transmitter }
        free := (perform r s).state.free + Config.freeBlock } := by
  have h := (outcome_perform r s).unreached_eq
  simp only [unreached, Prod.mk.injEq] at h
  obtain ⟨_, _, _, _, ht⟩ := h
  simp only [takeRequest, State.onMp, sendReply_eq, ht]

section
variable {c : Instr} {r : Request} {s : State} (hr : requestOf c = some r) (hrun : s.phase = .running)
include hr hrun

theorem exec_request_running : exec c s = .next (receiveRequest r s) := by
  rw [exec_request c r s hr, whenRunning, if_pos hrun]

/-! ### A frame that completes while a reply is held -/

theorem exec_request_hand (hreply : s.mp.reply ≠ none) (hh : s.mp.hand = none) :
    exec c s = .next { s with mp := { s.mp with hand := some r } } := by
  rw [exec_request_running hr hrun]
  simp only [receiveRequest, hh]
  exact congrArg _ (takeNext_replying hreply)

theorem exec_request_waiting (hreply : s.mp.reply ≠ none) (hh : s.mp.hand ≠ none) (hw : s.mp.waiting = none) :
    exec c s = .next { s with mp := { s.mp with waiting := some r } } := by
  obtain ⟨x, hx⟩ := Option.ne_none_iff_exists'.1 hh
  have hplaced : receiveRequest r s = takeNext (s.onMp fun mp => { mp with waiting := some r }) := by
    simp only [receiveRequest, hx, hw]
  rw [exec_request_running hr hrun, hplaced]
  exact congrArg _ (takeNext_replying hreply)

theorem exec_request_dropped (hh : s.mp.hand ≠ none) (hw : s.mp.waiting ≠ none) :
    exec c s = .next (raise (.overrun .messagePort) (capture .portFrameDropped 0 s)) := by
  obtain ⟨x, hx⟩ := Option.ne_none_iff_exists'.1 hh
  obtain ⟨y, hy⟩ := Option.ne_none_iff_exists'.1 hw
  rw [exec_request_running hr hrun]
  simp only [receiveRequest, hx, hy]

end

/-- Settles O16, by the two input slots. -/
theorem request_frame_placed : Obligations.request_frame_placed :=
  fun _ _ _ hr hrun hreply => ⟨exec_request_hand hr hrun hreply, exec_request_waiting hr hrun hreply,
    exec_request_dropped hr hrun⟩

/-- Settles O17: the request is taken as it completes, and its effect reaches neither the waiting slot nor the
transmitter. -/
theorem request_answered_once : Obligations.request_answered_once := by
  intro c r s hr hs
  obtain ⟨hrun, _, hw, _, _⟩ := id hs
  have h := (outcome_perform r (inHand r s)).unreached_eq
  simp only [unreached, Prod.mk.injEq] at h
  obtain ⟨hpending, hphase, htb, hwaiting, _⟩ := h
  refine ⟨_, _, _, exec_ready c r s hr hs, rfl, hwaiting.trans hw, rfl, ?_, hpending, hphase.trans hrun, htb⟩
  rw [takeRequest_eq]
  rfl

/-! ## Kinds and lengths (R158 steps 1 and 2) -/

section
variable {s : State} {f : List Byte}

/-- A kind that names no request. -/
theorem performKind_unknown {k : Nat} (h : k = 0 ∨ 30 < k) : performKind k f s = turnedAway .unknownKind s := by
  unfold performKind
  split
  case h_31 => rfl
  all_goals omega

theorem answerGroupSet_badLength (h : f.length ≠ 10) : answerGroupSet f s = turnedAway .badLength s := by
  cases f with
  | nil => rfl
  | cons n rest => exact if_neg fun h9 => h (congrArg (· + 1) h9)

theorem answerOutputSetup_badLength (h : f.length ≠ 16) : answerOutputSetup f s = turnedAway .badLength s := by
  unfold answerOutputSetup
  split
  · exact if_neg fun h13 => h (congrArg (· + 3) h13)
  · rfl

/-- A request of a fixed length whose body has another: one without fields has a first byte, and one with fields does
not match the list of its bytes. -/
theorem performKind_badLength {k n : Nat} (hk : fixedFields k = some n) (h : f.length ≠ n) :
    performKind k f s = turnedAway .badLength s := by
  unfold fixedFields at hk
  split at hk <;> cases hk
  case h_13 => exact answerGroupSet_badLength h
  case h_24 => exact answerOutputSetup_badLength h
  case h_1 | h_2 | h_3 | h_4 | h_5 | h_6 | h_11 | h_12 | h_20 | h_23 | h_27 =>
    cases f with
    | nil => exact absurd rfl h
    | cons => rfl
  all_goals
    simp only [performKind, answerPlanRead, answerExitSet, answerZoneForce, answerZoneReset, answerNodeQuery,
      answerSignQuery, answerZoneQuery, answerDetectorQuery, answerPortalQuery, answerNoticeSetup, answerFaultClear,
      answerCounterSetup, answerLineHalt, answerLineRun]
    split
    · exact absurd rfl h
    · rfl

end

/-- Settles O19, by the kind and then by the length. -/
theorem unknown_kind_and_bad_length : Obligations.unknown_kind_and_bad_length :=
  ⟨fun _ _ _ _ hs hk => turnedAway_of _ _ rfl hs (performKind_unknown hk),
    fun c r _ _ hr hs hn hl => turnedAway_of c r hr hs (performKind_badLength hn hl)⟩

/-! ## The end of a reply, and the change of format (R157, R164, R167, R172) -/

/-- The state in which the transmitter, free and with no reply held, has chosen before the next reply is placed: a
listed notice's frame begins when it chooses first (log entry 45). -/
def noticeChosen (first : Bool) (u : State) : State :=
  match first, u.mp.notices with
  | true, n :: rest =>
    { u with
      mp := { u.mp with notices := rest, transmitter := .notice (noticeFrame u.free n) }
      free := u.free + Config.freeBlock }
  | _, _ => u

section
variable {u : State} (first : Bool)

theorem noticeChosen_slots (u : State) :
    (noticeChosen first u).mp.reply = u.mp.reply ∧ (noticeChosen first u).mp.deferred = u.mp.deferred := by
  unfold noticeChosen
  split <;> exact ⟨rfl, rfl⟩

/-- With the transmitter free, no reply held and no format due, the transmitter chooses and the taking follows. -/
theorem takeOrNotice_eq (ht : u.mp.transmitter = .idle) (hr : u.mp.reply = none)
    (hd : formatIsDue u.mp.deferred = false) : takeOrNotice first u = takeNext (noticeChosen first u) := by
  cases first with
  | false => rfl
  | true =>
    rw [takeOrNotice_true]
    cases hn : u.mp.notices with
    | nil => simp only [noticeStart_empty u hn, noticeChosen, hn]
    | cons n rest => simp only [noticeStart_begins u n rest ht hr hn hd, noticeChosen, hn]

/-- While a format is due nothing is sent and nothing taken. -/
theorem takeOrNotice_formatDue (hd : formatIsDue u.mp.deferred = true) : takeOrNotice first u = u := by
  have hn : u.mp.deferred ≠ .none := fun h => by simp [h, formatIsDue] at hd
  cases first with
  | false => exact takeNext_deferred hn
  | true =>
    have hstart : noticeStart u = u := by
      unfold noticeStart
      split
      · exact if_pos hd
      · rfl
    rw [takeOrNotice_true, hstart, takeNext_deferred hn]

/-- With a restart due a notice may go, and nothing is taken. -/
theorem takeOrNotice_restartDue (ht : u.mp.transmitter = .idle) (hr : u.mp.reply = none)
    (hd : u.mp.deferred = .restartDue) : takeOrNotice first u = noticeChosen first u := by
  obtain ⟨_, hdef⟩ := noticeChosen_slots first u
  rw [takeOrNotice_eq first ht hr (by rw [hd]; rfl), takeNext_deferred (by rw [hdef, hd]; exact Deferred.noConfusion)]

/-- With nothing deferred the request in hand is taken after the choice. -/
theorem takeOrNotice_free (ht : u.mp.transmitter = .idle) (hr : u.mp.reply = none) (hd : u.mp.deferred = .none) :
    takeOrNotice first u =
      match (noticeChosen first u).mp.hand with
      | none => noticeChosen first u
      | some r => takeRequest r (noticeChosen first u) := by
  obtain ⟨hrep, hdef⟩ := noticeChosen_slots first u
  rw [takeOrNotice_eq first ht hr (by rw [hd]; rfl), takeNext_free (hrep.trans hr) (hdef.trans hd)]

end

section
variable {s : State} (first : Bool)

/-- The end of a reply: its slot empties, and what waited for it becomes due. -/
theorem exec_replySent (hrun : s.phase = .running) (ht : s.mp.transmitter = .reply) :
    exec (.replySent first) s = .next (takeOrNotice first
      { s with mp := { s.mp with reply := none, transmitter := .idle, deferred := afterReply s.mp.deferred } }) := by
  simp only [exec, execReplySent, whenRunning, if_pos hrun, replySent, if_pos ht]
  rfl

theorem exec_messagePortFormatChange {speed stop : Nat} {parity : Parity} (hrun : s.phase = .running)
    (hd : s.mp.deferred = .formatDue speed parity stop) :
    exec (.messagePortFormatChange first) s = .next (takeOrNotice first
      { s with
        mp := { s.mp with deferred := .none }
        lines := { s.lines with
          message := { s.lines.message with
            format := { speed := speed, parity := parity, stop := stop }
            inUse := { speed := speed, parity := parity, stop := stop }, rx := [] } } }) := by
  simp only [exec, execMessagePortFormatChange, whenRunning, if_pos hrun, messageFormatChange, hd]
  rfl

end

/-- Settles O20, by what waited for the reply. -/
theorem reply_sent_takes_next : Obligations.reply_sent_takes_next := by
  intro s first hrun noticed onward
  have honward (u : State) (ht : u.mp.transmitter = .idle) (hr : u.mp.reply = none) (hd : u.mp.deferred = .none) :
      takeOrNotice first u = onward u := by
    rw [takeOrNotice_free first ht hr hd]
    simp only [takeRequest_eq]
    rfl
  refine ⟨fun ht => ⟨fun hd => ?_, fun speed parity stop hd => ?_, fun hd => ?_⟩, fun speed stop parity hd ht hr => ?_⟩
  · have hkept : afterReply s.mp.deferred = s.mp.deferred := by rw [hd]; rfl
    rw [exec_replySent first hrun ht, hkept]
    exact congrArg _ (honward _ rfl rfl hd)
  · rw [exec_replySent first hrun ht, hd]
    exact congrArg _ (takeOrNotice_formatDue first rfl)
  · rw [exec_replySent first hrun ht, hd]
    exact congrArg _ (takeOrNotice_restartDue first rfl rfl rfl)
  · rw [exec_messagePortFormatChange first hrun hd]
    exact congrArg _ (honward _ ht hr rfl)

end Sys2Proof.Machine
end

section
/-! SUPPORT. What every step keeps of the notice list and of a recorded major fault (R170 to R174, R176, R177): O3,
O50. -/

namespace Sys2Proof.Machine

/-! ## The place of a notice on the list (R171) -/

/-- A notice stands behind those of its priority and of a higher one. -/
theorem insertNotice_eq (n : Notice) (l : List Notice) :
    insertNotice n l =
      l.takeWhile (fun m => n.priority ≤ m.priority) ++ n :: l.dropWhile (fun m => n.priority ≤ m.priority) := by
  induction l with
  | nil => rfl
  | cons m rest ih => by_cases h : n.priority ≤ m.priority <;> simp [insertNotice, h, ih]

theorem insertNotice_perm (n : Notice) (l : List Notice) : (insertNotice n l).Perm (n :: l) := by
  rw [insertNotice_eq]
  exact List.perm_middle.trans (by rw [List.takeWhile_append_dropWhile])

theorem mem_insertNotice {n m : Notice} {l : List Notice} : m ∈ insertNotice n l ↔ m = n ∨ m ∈ l := by
  rw [(insertNotice_perm n l).mem_iff, List.mem_cons]

theorem insertNotice_ordered {n : Notice} {l : List Notice} (h : l.Pairwise fun a b => b.priority ≤ a.priority) :
    (insertNotice n l).Pairwise fun a b => b.priority ≤ a.priority := by
  induction l with
  | nil => exact List.pairwise_singleton _ n
  | cons m rest ih =>
    obtain ⟨hm, hrest⟩ := List.pairwise_cons.1 h
    unfold insertNotice
    split
    · next hle =>
      refine List.pairwise_cons.2 ⟨fun x hx => ?_, ih hrest⟩
      rcases mem_insertNotice.1 hx with rfl | hx
      · exact hle
      · exact hm x hx
    · next hlt =>
      refine List.pairwise_cons.2 ⟨fun x hx => ?_, h⟩
      rcases List.mem_cons.1 hx with rfl | hx
      · omega
      · exact (hm x hx).trans (by omega)

theorem insertNotice_distinct {n : Notice} {l : List Notice} (h : l.Pairwise fun a b => a.kind ≠ b.kind)
    (hn : ∀ m ∈ l, n.kind ≠ m.kind) : (insertNotice n l).Pairwise fun a b => a.kind ≠ b.kind :=
  (List.Perm.pairwise_iff (fun hab => Ne.symm hab) (insertNotice_perm n l)).2 (List.pairwise_cons.2 ⟨hn, h⟩)

/-! ## What keeps the list in order -/

section
variable {a b : MessagePort}

/-- Notices that leave the list, while the flags of those that stay are set. -/
theorem NoticesOk.of_sublist (ok : NoticesOk a) (hn : b.notices.Sublist a.notices)
    (hk : ∀ n ∈ b.notices, a.kinds[n.kind.idx].flag = true → b.kinds[n.kind.idx].flag = true) : NoticesOk b :=
  ⟨ok.distinct.sublist hn, fun n h => hk n h (ok.flagged n (hn.subset h)), ok.ordered.sublist hn⟩

/-- The same list, no flag cleared. -/
theorem NoticesOk.of_flags (ok : NoticesOk a) (hn : b.notices = a.notices)
    (hk : ∀ k : NoticeKind, a.kinds[k.idx].flag = true → b.kinds[k.idx].flag = true) : NoticesOk b :=
  ok.of_sublist (by simp [hn]) fun n _ => hk n.kind

theorem NoticesOk.of_same (ok : NoticesOk a) (hk : b.kinds = a.kinds) (hn : b.notices = a.notices) : NoticesOk b :=
  ok.of_flags hn fun _ h => hk ▸ h

/-- With an empty list. -/
theorem noticesOk_nil (h : a.notices = []) : NoticesOk a := by
  constructor <;> simp [h]

theorem clearFlagIn_other (mp : MessagePort) {k j : NoticeKind} (h : j ≠ k) :
    (clearFlagIn mp k).kinds[j.idx] = mp.kinds[j.idx] := by
  have hi : k.idx.val ≠ j.idx.val := fun e => h (noticeKind_idx_inj _ _ e).symm
  simp [clearFlagIn, Vector.getElem_set_ne _ _ hi]

theorem noticesOk_clearFlagIn (k : NoticeKind) (ok : NoticesOk a) : NoticesOk (clearFlagIn a k) := by
  refine ok.of_sublist List.filter_sublist fun n hn hf => ?_
  have hne : n.kind ≠ k := by simpa [clearFlagIn] using (List.mem_filter.1 hn).2
  rwa [clearFlagIn_other a hne]

theorem noticesOk_foldl_clearFlagIn (ks : List NoticeKind) (ok : NoticesOk a) :
    NoticesOk (ks.foldl clearFlagIn a) := by
  induction ks generalizing a with
  | nil => exact ok
  | cons k ks ih => exact ih (noticesOk_clearFlagIn k ok)

end

section
variable {s : State}

/-- A rise leaves every flag that is set. -/
theorem raise_flag_mono (b : NoticeBody) (k : NoticeKind) (h : s.mp.kinds[k.idx].flag = true) :
    (raise b s).mp.kinds[k.idx].flag = true := by
  rw [raise_kinds]
  split
  · rfl
  · exact h

/-- A rise queues at most one notice, and that of a kind that had none: its flag was clear. -/
theorem noticesOk_raise (b : NoticeBody) (ok : NoticesOk s.mp) : NoticesOk (raise b s).mp := by
  by_cases hf : s.mp.kinds[b.kind.idx].flag = true
  · rwa [raise_set b s hf]
  have hnew : ∀ m ∈ s.mp.notices, b.kind ≠ m.kind := fun m hm e => hf (by simpa only [e] using ok.flagged m hm)
  have hlist : (raise b s).mp.notices = s.mp.notices ∨
      ∃ p e, (raise b s).mp.notices = insertNotice ⟨b.kind, p, e⟩ s.mp.notices := by
    rw [raise_clear b s (by simpa using hf)]
    dsimp only
    split
    · exact .inr ⟨_, _, rfl⟩
    · exact .inl rfl
  rcases hlist with h | ⟨p, e, h⟩
  · exact ok.of_flags h (raise_flag_mono b)
  · refine ⟨?_, fun m hm => ?_, ?_⟩ <;> rw [h] at *
    · exact insertNotice_distinct ok.distinct hnew
    · rcases mem_insertNotice.1 hm with rfl | hm
      · exact raise_flag b s
      · exact raise_flag_mono b m.kind (ok.flagged m hm)
    · exact insertNotice_ordered ok.ordered

/-! ## Captures -/

/-- A capture leaves the Message Port, or raises FAULT_CAPTURED (R176). -/
theorem capture_mp_cases (k : FaultKind) (n : Nat) (s : State) :
    (capture k n s).mp = s.mp ∨ (capture k n s).mp = (raise (.faultCaptured k n) s).mp := by
  unfold capture
  dsimp only
  split
  · exact .inr rfl
  · exact .inl rfl

/-- No capture displaces a record of a major fault (R176). -/
theorem capture_record_major {r : FaultRecord} (k : FaultKind) (n : Nat) (h : s.fc.record = some r)
    (hr : faultClassOf r.kind = .major) : (capture k n s).fc.record = some r := by
  have ht : (tallyIn s.fc k).record = some r := h
  show (recordIn (tallyIn s.fc k) k n s.tb.seconds).1.record = some r
  rw [recordIn_cases, ht]
  cases faultClassOf k with
  | minor =>
    dsimp only
    split
    · exact ht
    · rfl
  | major => simp only [hr]

end

/-! ## What a change keeps -/

/-- The change from `s` to `t` keeps the notice list in order, and a record of a major fault. -/
structure KeepsReports (s t : State) : Prop where
  notices : NoticesOk s.mp → NoticesOk t.mp
  major   : ∀ r, s.fc.record = some r → faultClassOf r.kind = .major → t.fc.record = some r

/-- The parts of a state of which the two properties speak: the notice kinds and list, and the fault record. -/
def reportParts (s : State) : Vector KindRec 10 × List Notice × Option FaultRecord :=
  (s.mp.kinds, s.mp.notices, s.fc.record)

namespace KeepsReports

variable {s t u : State}

theorem refl (s : State) : KeepsReports s s := ⟨id, fun _ h _ => h⟩

theorem trans (h : KeepsReports s t) (h' : KeepsReports t u) : KeepsReports s u :=
  ⟨h'.notices ∘ h.notices, fun r hs hr => h'.major r (h.major r hs hr) hr⟩

/-- A change of the Message Port alone. -/
theorem of_mp (hf : t.fc = s.fc) (hn : NoticesOk s.mp → NoticesOk t.mp) : KeepsReports s t :=
  ⟨hn, fun _ h _ => hf ▸ h⟩

/-- A change that leaves the notice kinds and list and the fault record. -/
theorem of_same (h : reportParts t = reportParts s) : KeepsReports s t := by
  simp only [reportParts, Prod.mk.injEq] at h
  obtain ⟨hk, hn, hf⟩ := h
  exact ⟨fun ok => ok.of_same hk hn, fun _ hs _ => hf.trans hs⟩

/-- A change made on a state that has those parts of another. -/
theorem after (h : KeepsReports t u) (e : reportParts t = reportParts s) : KeepsReports s u := (of_same e).trans h

/-- A change followed by one that leaves those parts. -/
theorem then_same (h : KeepsReports s t) (e : reportParts u = reportParts t) : KeepsReports s u := h.trans (of_same e)

/-- A change followed by a flag's rise. -/
theorem raise (h : KeepsReports s t) (b : NoticeBody) : KeepsReports s (raise b t) :=
  h.trans (of_mp rfl (noticesOk_raise b))

/-- A change followed by a capture. -/
theorem capture (h : KeepsReports s t) (k : FaultKind) (n : Nat) : KeepsReports s (capture k n t) := by
  refine h.trans ⟨fun ok => ?_, fun r => capture_record_major k n⟩
  rcases capture_mp_cases k n t with e | e <;> rw [e]
  · exact ok
  · exact noticesOk_raise _ ok

/-- A change followed by a counter input's firing. -/
theorem fire (h : KeepsReports s t) (i : CounterInput) (n : Nat) : KeepsReports s (fire i n t) := h.then_same rfl

/-- A change, or another that a condition puts in its place. -/
theorem ite {c : Prop} [Decidable c] (h : KeepsReports s t) (h' : KeepsReports s u) :
    KeepsReports s (if c then t else u) := by
  split
  · exact h
  · exact h'

theorem raiseIf (h : KeepsReports s t) (c : Bool) (b : NoticeBody) : KeepsReports s (raiseIf c b t) :=
  .ite (h.raise b) h

/-- A run of changes. -/
theorem foldl {α : Type} {f : State → α → State} (hf : ∀ s x, KeepsReports s (f s x)) (xs : List α) :
    ∀ s : State, KeepsReports s (xs.foldl f s) := by
  induction xs with
  | nil => exact refl
  | cons x xs ih => exact fun s => (hf s x).trans (ih _)

/-- What happens to a running part. -/
theorem whenRunning {f : State → State} (hf : ∀ s, KeepsReports s (f s)) (s : State) :
    KeepsReports s (whenRunning f s) := ite (hf s) (refl s)

end KeepsReports

variable (s : State)

/-! ## Zones and the evacuation state -/

theorem keepsReports_checkNoRoute : KeepsReports s (checkNoRoute s) := by
  rcases checkNoRoute_cases s with e | ⟨_, _, _, _, e⟩ <;> rw [e]
  · exact .refl s
  · exact (KeepsReports.refl s).raise _

theorem keepsReports_setEvac (n : EvacState) (c : EvacCause) : KeepsReports s (setEvac n c s) :=
  .ite (.refl s) (((KeepsReports.refl _).raise _).after rfl)

theorem keepsReports_enterActive (c : EvacCause) : KeepsReports s (enterActive c s) := by
  refine .trans ?_ (keepsReports_checkNoRoute _)
  exact ((KeepsReports.refl _).raise _).after rfl

theorem keepsReports_leaveActive (c : EvacCause) : KeepsReports s (leaveActive c s) :=
  (keepsReports_setEvac _ _ _).after rfl

theorem keepsReports_zoneChanged (zone : Nat) (a b : ZoneState) : KeepsReports s (zoneChanged zone a b s) := by
  have hrisen : KeepsReports s (raise (.zoneChange zone a b) (wantSolve s)) := ((KeepsReports.refl _).raise _).after rfl
  exact .ite hrisen (.ite (hrisen.trans (keepsReports_enterActive _ _)) (hrisen.trans (keepsReports_setEvac _ _ _)))

theorem keepsReports_updateZone (zone : Nat) (a b : ZoneRun) : KeepsReports s (updateZone zone a b s) :=
  .ite (.of_same rfl) ((keepsReports_zoneChanged _ _ _ _).after rfl)

theorem keepsReports_evaluateZone (zone : Nat) (peak : Level) : KeepsReports s (evaluateZone zone peak s) := by
  unfold evaluateZone
  split
  · exact .refl s
  · exact keepsReports_updateZone s _ _ _

theorem keepsReports_suspectExpiry (zone : Nat) : KeepsReports s (suspectExpiry zone s) := by
  unfold suspectExpiry
  split
  · exact .refl s
  · exact .ite (.ite (.of_same rfl) (keepsReports_updateZone s _ _ _)) (.refl s)

theorem keepsReports_clearHoldExpiry (zone : Nat) : KeepsReports s (clearHoldExpiry zone s) := by
  unfold clearHoldExpiry
  split
  · exact .refl s
  · exact .ite (keepsReports_updateZone s _ _ _) (.refl s)

/-! ## Detector Intake -/

theorem keepsReports_onLine (id : LineId) (f : LineRec → LineRec) : KeepsReports s (s.onLine id f) := .of_same rfl

theorem keepsReports_makeReport (a : Nat) (l : Level) (q : Option Nat) (src : Source) :
    KeepsReports s (makeReport a l q src s) := by
  unfold makeReport
  split
  · exact .of_same rfl
  · split
    · exact (KeepsReports.refl s).capture _ _
    · exact .ite (.of_same rfl)
        (.ite (.of_same rfl) ((((KeepsReports.refl s).capture _ _).fire _ _).raise _))

theorem keepsReports_setLock (n : LockState × Nat × Nat) (t : Timer) (p : Option Nat) :
    KeepsReports s (setLock n t p s) := by
  have hset : KeepsReports s (lockSet n t p s) := .of_same rfl
  rw [setLock_eq]
  exact .ite ((hset.raiseIf _ _).capture _ _) (hset.raiseIf _ _)

theorem keepsReports_detectorValid (f : DetectorFrame) : KeepsReports s (detectorValid f s) := by
  cases f with
  | supervise panel => exact keepsReports_setLock s _ _ _
  | report a l q =>
    have hlock := keepsReports_setLock s (lockAfterValid s.di) (some (silenceTicks s)) s.di.panel
    exact .ite (hlock.trans (keepsReports_makeReport _ _ _ _ _)) hlock

theorem keepsReports_detectorInvalid (err : Bool) : KeepsReports s (detectorInvalid err s) :=
  (KeepsReports.ite ((KeepsReports.refl s).capture _ _) (.refl s)).trans (keepsReports_setLock _ _ _ _)

theorem keepsReports_detectorEvent (e : RxEvent) : KeepsReports s (detectorEvent s e) := by
  unfold detectorEvent
  split
  · exact keepsReports_detectorInvalid s _
  · refine .ite (keepsReports_detectorInvalid s _) ?_
    split
    · exact keepsReports_detectorValid s _
    · exact keepsReports_detectorInvalid s _

theorem keepsReports_detectorChar (c : RxChar) : KeepsReports s (detectorChar s c) := by
  unfold detectorChar
  dsimp only
  split
  · exact .refl s
  · exact (keepsReports_onLine s _ _).trans (.foldl keepsReports_detectorEvent _ _)

theorem keepsReports_setChannel (n : Fin 8) (c : Channel) : KeepsReports s (setChannel n c s) := .of_same rfl

theorem keepsReports_contactReport (n : Fin 8) (a : Nat) (l : Option Level) :
    KeepsReports s (contactReport n a l s) := by
  unfold contactReport
  split
  · exact .refl s
  · exact .ite (.refl s) (keepsReports_makeReport s _ _ _ _)

theorem keepsReports_acceptChange (n : Fin 8) : KeepsReports s (acceptChange n s) := by
  unfold acceptChange
  dsimp only
  split
  · exact (keepsReports_contactReport _ _ _ _).after rfl
  · exact .refl s

theorem keepsReports_widthLimit (n : Fin 8) : KeepsReports s (widthLimit n s) := by
  unfold widthLimit
  dsimp only
  split
  · exact .refl s
  · exact .refl s
  · exact .ite ((keepsReports_contactReport _ _ _ _).after rfl) (.refl s)

theorem keepsReports_sampleContacts (levels : BitVec 8) : KeepsReports s (sampleContacts levels s) :=
  .foldl (fun s n => ((keepsReports_acceptChange s n).trans (keepsReports_widthLimit _ n)).trans
    (keepsReports_setChannel _ _ _)) _ s

/-! ## Takes -/

theorem keepsReports_takeBegin : KeepsReports s (takeBegin s) := by
  unfold takeBegin
  split
  · exact .ite (((KeepsReports.refl _).capture _ _).after rfl) (.of_same rfl)
  · exact .refl s

theorem keepsReports_applyTake (e : PendingEntry) (r : DetectorRec) : KeepsReports s (applyTake e r s) :=
  (keepsReports_evaluateZone _ _ _).after rfl

theorem keepsReports_setUntracked (zone : Nat) : KeepsReports s (setUntracked zone s) := by
  unfold setUntracked
  split
  · exact .of_same rfl
  · exact .refl s

theorem keepsReports_untrackedTake (e : PendingEntry) : KeepsReports s (untrackedTake e s) := by
  have hcap := (KeepsReports.refl s).capture .detectorTableFull e.address
  exact (KeepsReports.ite (hcap.trans (keepsReports_setUntracked _ _)) hcap).trans (keepsReports_evaluateZone _ _ _)

theorem keepsReports_tableTake (e : PendingEntry) : KeepsReports s (tableTake e s) := by
  unfold tableTake
  split
  · split
    · exact .refl s
    · exact ((KeepsReports.refl s).capture _ _).trans (keepsReports_applyTake _ _ _)
    · exact keepsReports_applyTake s _ _
  · refine .ite (keepsReports_applyTake s _ _) ?_
    split
    · exact (keepsReports_applyTake _ _ _).after rfl
    · exact keepsReports_untrackedTake s e

theorem keepsReports_takeComplete : KeepsReports s (takeComplete s) := by
  unfold takeComplete
  split
  · exact .refl s
  · exact .ite (((KeepsReports.refl _).capture _ _).after rfl) ((keepsReports_tableTake _ _).after rfl)

/-! ## Sign Line Controller: only a sign that becomes FAULTY or LOST, and a character in error, is reported -/

theorem reportParts_cycleStart : reportParts (cycleStart s) = reportParts s := by simp [reportParts]

theorem reportParts_requestStart : reportParts (requestStart s) = reportParts s := by simp [reportParts]

theorem reportParts_exchangeEnded : reportParts (exchangeEnded s) = reportParts s := by
  have hfire (i : CounterInput) (n : Nat) (u : State) : (fire i n u).fc.record = u.fc.record := rfl
  unfold exchangeEnded cycleCut cycleEnd
  dsimp only
  (repeat' split) <;> simp [reportParts, hfire]

theorem keepsReports_refreshExpiry : KeepsReports s (refreshExpiry s) :=
  .of_same (by unfold refreshExpiry; dsimp only; (repeat' split) <;> simp [reportParts])

theorem keepsReports_signTroubled (k : FaultKind) (i : Nat) (g : SignRun) : KeepsReports s (signTroubled k i g s) :=
  ((KeepsReports.refl s).capture k g.address).raise _

theorem keepsReports_putSign (t : Target) (g : SignRun) : KeepsReports s (putSign t g s) :=
  .of_same (by simp [reportParts])

theorem keepsReports_replyTaken (t : Target) (lamp : Lamp) : KeepsReports s (replyTaken t lamp s) := by
  unfold replyTaken
  split
  · exact .refl s
  · have hput := keepsReports_putSign s t
    exact .ite ((hput _).trans (keepsReports_signTroubled _ _ _ _)) (hput _)

theorem keepsReports_signMissed (t : Target) (o : SignOutcome) : KeepsReports s (signMissed t o s) := by
  unfold signMissed
  split
  · exact .refl s
  · have hput := fun g => ((KeepsReports.refl s).fire .replyMissed 1).trans (keepsReports_putSign _ t g)
    exact .ite ((hput _).trans (keepsReports_signTroubled _ _ _ _)) (hput _)

theorem keepsReports_showSent : KeepsReports s (showSent s) :=
  .of_same (by unfold showSent recordSent; (repeat' split) <;> rfl)

theorem keepsReports_fallbackSent : KeepsReports s (fallbackSent s) := by
  unfold fallbackSent
  split
  · exact .ite (.of_same (reportParts_exchangeEnded s)) (.refl s)
  · exact .refl s

theorem keepsReports_drainEnded : KeepsReports s (drainEnded s) := by
  unfold drainEnded
  split
  · exact .ite (.of_same (reportParts_exchangeEnded s)) (.refl s)
  · exact .refl s

theorem keepsReports_signEvent (ev : RxEvent) : KeepsReports s (signEvent s ev) := by
  unfold signEvent
  split
  · refine .ite ?_ (.refl s)
    split
    · exact (keepsReports_replyTaken s _ _).then_same (reportParts_exchangeEnded _)
    · exact .of_same rfl
    · exact .refl s
  · exact .refl s

theorem keepsReports_charErrorIn (c : RxChar) : KeepsReports s (charErrorIn c s) := by
  unfold charErrorIn
  split
  · exact .ite (((KeepsReports.refl _).capture _ _).after rfl) (.refl s)
  · exact .refl s

theorem keepsReports_signChar (c : RxChar) : KeepsReports s (signChar s c) :=
  .ite (((keepsReports_charErrorIn s c).trans (keepsReports_onLine _ _ _)).trans
    ((KeepsReports.foldl keepsReports_signEvent _ _).trans (keepsReports_drainEnded _))) (.refl s)

theorem keepsReports_windowClosed : KeepsReports s (windowClosed s) := by
  unfold windowClosed
  split
  · split
    · have hmissed := keepsReports_signMissed s
      exact .ite ((hmissed _ _).then_same (reportParts_exchangeEnded _)) ((hmissed _ _).then_same rfl)
    · exact .refl s
    · exact .refl s
  · exact .refl s

theorem keepsReports_signGap : KeepsReports s (signGap s) :=
  (keepsReports_onLine s _ _).trans (keepsReports_drainEnded _)

theorem keepsReports_emphasisExpiry (i : Nat) : KeepsReports s (emphasisExpiry i s) :=
  .of_same (by unfold emphasisExpiry; (repeat' split) <;> rfl)

theorem keepsReports_runSign : KeepsReports s (runSign s) := by
  have hrun := (keepsReports_onLine s .sign fun l => { l with mark := .running, inUse := l.format, rx := [] }).trans
    (keepsReports_drainEnded _)
  exact .ite (hrun.then_same (reportParts_requestStart _)) hrun

/-! ## Peer Ports -/

theorem keepsReports_onPort (port : PeerPort) (f : PortRec → PortRec) : KeepsReports s (s.onPort port f) :=
  .of_same (by simp [reportParts])

theorem keepsReports_wantSolveIf (c : Bool) : KeepsReports s (wantSolveIf c s) := .ite (.of_same rfl) (.refl s)

theorem keepsReports_setPort (port : PeerPort) (st : PortState) (adv : Nat → Option Advertisement) :
    KeepsReports s (setPort port st adv s) := by
  refine .raiseIf (.trans (.raiseIf ?_ _ _) (keepsReports_wantSolveIf _ _)) _ _
  exact (keepsReports_onPort s _ _).then_same rfl

theorem keepsReports_sendTrigger (port : PeerPort) : KeepsReports s (sendTrigger port s) :=
  .of_same (by simp [reportParts])

theorem keepsReports_advertTaken (port : PeerPort) (expected : Nat) (a : Advert) :
    KeepsReports s (advertTaken port expected a s) := by
  have hport := fun f => ((KeepsReports.refl s).fire .advertTaken 1).trans (keepsReports_onPort _ port f)
  exact .ite ((hport _).trans (keepsReports_setPort _ _ _ _))
    ((KeepsReports.ite (hport _) ((hport _).capture _ _)).trans (keepsReports_setPort _ _ _ _))

theorem keepsReports_advertInvalid (port : PeerPort) (err : Bool) : KeepsReports s (advertInvalid port err s) :=
  .ite ((KeepsReports.refl s).capture _ _) (.refl s)

theorem keepsReports_advertEvent (port : PeerPort) (ev : RxEvent) : KeepsReports s (advertEvent port s ev) := by
  unfold advertEvent
  split
  · exact .refl s
  · refine .ite (.refl s) ?_
    split
    · exact keepsReports_advertInvalid s _ _
    · refine .ite (keepsReports_advertInvalid s _ _) ?_
      split
      · exact keepsReports_advertTaken s _ _ _
      · exact keepsReports_advertInvalid s _ _

theorem keepsReports_advertChar (port : PeerPort) (c : RxChar) : KeepsReports s (advertChar port s c) := by
  unfold advertChar
  dsimp only
  split
  · exact .refl s
  · exact (keepsReports_onLine s _ _).trans (.foldl (keepsReports_advertEvent · port) _ _)

theorem keepsReports_advertGap (port : PeerPort) : KeepsReports s (advertGap port s) := by
  have hline := keepsReports_onLine s (portLine port)
  exact .ite ((hline _).capture _ _) (hline _)

theorem keepsReports_ageExpiry (port : PeerPort) : KeepsReports s (ageExpiry port s) :=
  .ite (((keepsReports_onPort s _ _).capture _ _).trans (keepsReports_setPort _ _ _ _)) (.refl s)

theorem keepsReports_advertSent (port : PeerPort) : KeepsReports s (advertSent port s) := by
  unfold advertSent
  split
  · exact .refl s
  · have hport := fun f => ((KeepsReports.refl s).fire .advertSent 1).trans (keepsReports_onPort _ port f)
    exact .ite (hport _) ((hport _).then_same rfl)

theorem keepsReports_spacingExpiry (port : PeerPort) : KeepsReports s (spacingExpiry port s) := by
  have hport := keepsReports_onPort s port
  exact .ite (.ite ((hport _).trans (keepsReports_sendTrigger _ _)) (hport _)) (.refl s)

theorem keepsReports_advertiseExpiry (port : PeerPort) : KeepsReports s (advertiseExpiry port s) :=
  .ite ((keepsReports_onPort s _ _).trans (keepsReports_sendTrigger _ _)) (.refl s)

theorem keepsReports_haltPort (port : PeerPort) : KeepsReports s (haltPort port s) := by
  have hclosed : KeepsReports s (closedLine port s) := (keepsReports_onLine s _ _).trans (keepsReports_onPort _ _ _)
  rw [haltPort_eq]
  exact (KeepsReports.ite (hclosed.capture _ _) hclosed).trans (keepsReports_setPort _ _ _ _)

theorem keepsReports_runPort (port : PeerPort) : KeepsReports s (runPort port s) := by
  have hline := keepsReports_onLine s (portLine port)
  exact .ite (((hline _).trans (keepsReports_onPort _ _ _)).trans (keepsReports_sendTrigger _ _)) (hline _)

/-! ## Route Solver, Plan Store, the swap and the resets -/

theorem keepsReports_announce (c : Converged) (set : HeadingSet) (stale : Bool) :
    KeepsReports s (announce c set stale s) := by
  have hfired : KeepsReports s (if stale then fire .solveStale 1 (fire .solveDone 1 s) else fire .solveDone 1 s) :=
    .ite (.of_same rfl) (.of_same rfl)
  have htold := fun b => (hfired.fire .headingChange (changedCount set)).raise b
  exact .ite ((htold _).trans (keepsReports_checkNoRoute _)) (htold _)

theorem keepsReports_publication (p : Plan) (snap : Snapshot) : KeepsReports s (publication p snap s) := by
  have htold (c set stale) : KeepsReports s (announce c set stale (publishSet c set s)) :=
    (keepsReports_announce _ _ _ _).after rfl
  have hquiet (u : State) : reportParts (publicationAdverts (signPublication u)) = reportParts u := by
    simp [reportParts, publicationAdverts]
  exact (htold _ _ _).then_same (hquiet _)

theorem reportParts_solveStart : reportParts (solveStart s) = reportParts s := by simp [reportParts]

theorem keepsReports_swapPort (port : PeerPort) : KeepsReports s (swapPort port s) := by
  have hport := fun f => (keepsReports_onPort s port f)
  exact .ite (.ite ((hport _).trans (keepsReports_onPort _ _ _)) (hport _))
    (((hport _).trans (keepsReports_onPort _ _ _)).trans (keepsReports_setPort _ _ _ _))

theorem keepsReports_swapTo (p : Plan) : KeepsReports s (swapTo p s) := by
  have hraised : KeepsReports s
      (raise (.planEvent .activated p.header.planId none) { s with ps := swapStore p s.ps }) :=
    ((KeepsReports.refl _).raise _).after rfl
  have hblocks : KeepsReports s (swapBlocks p s) := hraised.then_same rfl
  have hevac (u : State) : KeepsReports u (evacAfterSwap u) := .ite (.refl u) (keepsReports_setEvac u _ _)
  have hbefore : KeepsReports s (swapBeforePorts p s) := (hblocks.trans (hevac _)).then_same rfl
  rw [swapTo_eq]
  exact (hbefore.trans (keepsReports_swapPort _ _)).trans (keepsReports_swapPort _ _)

theorem keepsReports_swap : KeepsReports s (swap s) := by
  unfold swap
  split
  · exact keepsReports_swapTo s _
  · exact .refl s

theorem keepsReports_solveEnd : KeepsReports s (solveEnd s) := by
  unfold solveEnd
  split
  · exact .ite ((keepsReports_swap _).after rfl)
      ((keepsReports_publication s _ _).then_same (reportParts_solveStart _))
  · exact .refl s

theorem keepsReports_endCheck : KeepsReports s (endCheck s) :=
  .ite (((KeepsReports.refl _).raise _).after rfl) (.refl s)

theorem keepsReports_endStore (readBack : List Byte) : KeepsReports s (endStore readBack s) :=
  .ite (.ite (((KeepsReports.refl _).raise _).after rfl) ((((KeepsReports.refl _).raise _).capture _ _).after rfl))
    (.refl s)

/-- After a reset the notice list is empty. -/
theorem noticesOk_blocksAfter (kind : ResetKind) (ph : Phase) (plan : Option Plan) (c : MemoryCondition)
    (m : PlanMemory) (k : Settings) : NoticesOk (blocksAfter kind ph plan c m k s).mp := noticesOk_nil rfl

theorem noticesOk_resetWith (kind : ResetKind) (k : Settings) (m : PlanMemory) :
    NoticesOk (resetWith kind k m s).mp := by
  have hblocks := fun plan c => noticesOk_blocksAfter s kind .loading plan c m k
  unfold resetWith
  dsimp only
  split
  · exact ((KeepsReports.refl _).capture _ _).notices (hblocks _ _)
  · exact hblocks _ _

/-- RESTART keeps the fault record (R168). -/
theorem keepsReports_restart (m : PlanMemory) : KeepsReports s (resetWith .restart (keptSettings s) m s) := by
  have hblocks (plan c) : KeepsReports s (blocksAfter .restart .loading plan c m (keptSettings s) s) :=
    .of_mp rfl fun _ => noticesOk_blocksAfter s _ _ _ _ _ _
  exact .ite ((hblocks _ _).capture _ _) (hblocks _ _)

theorem keepsReports_tickStart : KeepsReports s (tickStart s) :=
  .ite (.of_same (reportParts_cycleStart s)) (.refl s)

/-! ## Requests -/

theorem keepsReports_withoutFields (fields : List Byte) {f : State → Answer} (hf : KeepsReports s (f s).state) :
    KeepsReports s (withoutFields fields s f).state := by
  unfold withoutFields
  split
  · exact hf
  · exact .refl s

theorem keepsReports_withPlan {f : Plan → Answer} (hf : ∀ p, KeepsReports s (f p).state) :
    KeepsReports s (withPlan s f).state := by
  unfold withPlan
  split
  · exact .refl s
  · exact hf _

theorem keepsReports_planPut (f : List Byte) : KeepsReports s (answerPlanPut f s).state := by
  unfold answerPlanPut putStaged
  (repeat' split) <;> exact .of_same rfl

theorem keepsReports_planActivate (f : List Byte) : KeepsReports s (answerPlanActivate f s).state := by
  refine keepsReports_withoutFields s f ?_
  dsimp only
  split
  · simp only [answered_state]
    split
    · exact (keepsReports_swap _).after rfl
    · exact .of_same rfl
  · exact .refl s

theorem keepsReports_exitSet (f : List Byte) : KeepsReports s (answerExitSet f s).state := by
  unfold answerExitSet
  split
  · refine keepsReports_withPlan s fun _ => ?_
    split <;> exact .of_same rfl
  · exact .refl s

theorem keepsReports_zoneForce (f : List Byte) : KeepsReports s (answerZoneForce f s).state := by
  unfold answerZoneForce
  split
  · refine keepsReports_withPlan s fun _ => ?_
    split
    · exact keepsReports_updateZone s _ _ _
    · exact (keepsReports_updateZone _ _ _ _).after rfl
    · exact .refl s
  · exact .refl s

theorem keepsReports_zoneReset (f : List Byte) : KeepsReports s (answerZoneReset f s).state := by
  unfold answerZoneReset
  split
  · refine keepsReports_withPlan s fun _ => ?_
    repeat' split
    case' h_2.isTrue.isFalse => exact keepsReports_updateZone s _ _ _
    all_goals exact .refl s
  · exact .refl s

theorem keepsReports_evacuate (f : List Byte) : KeepsReports s (answerEvacuate f s).state :=
  keepsReports_withoutFields s f (.ite (.of_same rfl) ((keepsReports_enterActive _ _).after rfl))

theorem keepsReports_standDown (f : List Byte) : KeepsReports s (answerStandDown f s).state := by
  refine keepsReports_withoutFields s f ?_
  repeat' split
  case' isTrue.isFalse => exact keepsReports_leaveActive s _
  all_goals exact .refl s

/-- NOTICE SETUP leaves the flags (R173). -/
theorem keepsReports_noticeSetup (f : List Byte) : KeepsReports s (answerNoticeSetup f s).state := by
  have hset (k : NoticeKind) (e : Bool) (p t : Nat) : KeepsReports s (setNotice k e p t s) := by
    refine .of_mp rfl fun ok => ok.of_sublist (List.Sublist.refl _) fun n _ hf => ?_
    by_cases hi : k.idx.val = n.kind.idx.val
    · obtain rfl := noticeKind_idx_inj _ _ hi
      simpa [setNotice] using hf
    · simpa [setNotice, Vector.getElem_set_ne _ _ hi] using hf
  unfold answerNoticeSetup
  split
  · split
    · exact hset _ _ _ _
    · exact .refl s
  · exact .refl s

theorem keepsReports_clearFlags (f : List Byte) : KeepsReports s (answerClearFlags f s).state := by
  unfold answerClearFlags
  split
  · split
    · split
      · exact .of_mp rfl (noticesOk_foldl_clearFlagIn _)
      · exact .refl s
    · exact .refl s
  · exact .refl s

theorem keepsReports_haltLine (id : LineId) : KeepsReports s (haltLine id s) := by
  cases id with
  | message => exact .refl s
  | detector => exact (keepsReports_onLine s _ _).trans (keepsReports_setLock _ _ _ _)
  | sign => exact .of_same rfl
  | peerA => exact keepsReports_haltPort s _
  | peerB => exact keepsReports_haltPort s _

theorem keepsReports_runLine (id : LineId) : KeepsReports s (runLine id s) := by
  cases id with
  | message => exact .refl s
  | detector => exact .of_same rfl
  | sign => exact keepsReports_runSign s
  | peerA => exact keepsReports_runPort s _
  | peerB => exact keepsReports_runPort s _

theorem keepsReports_lineHalt (f : List Byte) : KeepsReports s (answerLineHalt f s).state := by
  unfold answerLineHalt
  repeat' split
  case' h_2.isFalse.isFalse => exact keepsReports_haltLine _ _
  all_goals exact .refl s

theorem keepsReports_lineRun (f : List Byte) : KeepsReports s (answerLineRun f s).state := by
  unfold answerLineRun
  repeat' split
  case' h_2.isFalse => exact keepsReports_runLine _ _
  all_goals exact .refl s

/-- Every request but FAULT CLEAR keeps the list in order and a major fault. -/
theorem keepsReports_perform (r : Request) (hk : r.kind ≠ 0x17) : KeepsReports s (perform r s).state := by
  unfold perform performKind
  split
  case h_3 => exact keepsReports_withoutFields s _ (by split <;> exact .of_same rfl)
  case h_4 => exact keepsReports_withoutFields s _ (by (repeat' split) <;> exact .of_same rfl)
  case h_5 => exact keepsReports_planActivate s _
  case h_6 => exact keepsReports_withoutFields s _ (by (repeat' split) <;> exact .of_same rfl)
  case h_7 => exact keepsReports_planPut s _
  case h_9 => exact keepsReports_exitSet s _
  case h_10 => exact keepsReports_zoneForce s _
  case h_11 => exact keepsReports_zoneReset s _
  case h_12 => exact keepsReports_evacuate s _
  case h_13 => exact keepsReports_standDown s _
  case h_14 => unfold answerGroupSet; (repeat' split) <;> exact .of_same rfl
  case h_20 => exact keepsReports_noticeSetup s _
  case h_21 => exact keepsReports_clearFlags s _
  case h_23 h => exact absurd (BitVec.eq_of_toNat_eq h) hk
  case h_24 => unfold answerCounterSetup; (repeat' split) <;> exact .of_same rfl
  case h_26 => unfold answerOutputSetup outputAnswer; (repeat' split) <;> exact .of_same rfl
  case h_27 => unfold answerLineSetup setupFormat setupContact; (repeat' split) <;> exact .of_same rfl
  case h_28 => exact keepsReports_lineHalt s _
  case h_29 => exact keepsReports_lineRun s _
  case h_30 => exact keepsReports_withoutFields s _ (by (repeat' split) <;> exact .of_same rfl)
  all_goals simpa using KeepsReports.refl s

/-- FAULT CLEAR leaves the Message Port. -/
theorem answerFaultClear_mp (f : List Byte) : (answerFaultClear f s).state.mp = s.mp := by
  unfold answerFaultClear
  (repeat' split) <;> rfl

theorem noticesOk_perform (r : Request) (ok : NoticesOk s.mp) : NoticesOk (perform r s).state.mp := by
  by_cases hk : r.kind = 0x17
  · have hclear : perform r s = answerFaultClear r.fields s := by rw [perform, hk]; rfl
    rwa [hclear, answerFaultClear_mp]
  · exact (keepsReports_perform s r hk).notices ok

/-! ## The Message Port -/

section
variable {s}

theorem noticesOk_takeNext (ok : NoticesOk s.mp) : NoticesOk (takeNext s).mp := by
  unfold takeNext
  split
  · exact (noticesOk_perform s _ ok).of_same rfl rfl
  · exact ok

theorem keepsReports_dropped : KeepsReports s (raise (.overrun .messagePort) (capture .portFrameDropped 0 s)) :=
  ((KeepsReports.refl s).capture _ _).raise _

theorem noticesOk_receiveRequest (r : Request) (ok : NoticesOk s.mp) : NoticesOk (receiveRequest r s).mp := by
  unfold receiveRequest
  split
  · exact noticesOk_takeNext (ok.of_same rfl rfl)
  · split
    · exact noticesOk_takeNext (ok.of_same rfl rfl)
    · exact keepsReports_dropped.notices ok

theorem noticesOk_messageEvent (e : RxEvent) (ok : NoticesOk s.mp) : NoticesOk (messageEvent s e).mp := by
  unfold messageEvent
  split
  · exact ok
  · split
    · exact ((KeepsReports.refl s).capture _ _).notices ok
    · split
      · exact noticesOk_receiveRequest _ ok
      · exact ok

theorem noticesOk_foldl {α : Type} {f : State → α → State} (hf : ∀ s x, NoticesOk s.mp → NoticesOk (f s x).mp)
    (xs : List α) : ∀ {s : State}, NoticesOk s.mp → NoticesOk (xs.foldl f s).mp := by
  induction xs with
  | nil => exact id
  | cons x xs ih => exact fun ok => ih (hf _ x ok)

theorem noticesOk_messageChar (c : RxChar) (ok : NoticesOk s.mp) : NoticesOk (messageChar s c).mp :=
  noticesOk_foldl (fun _ e => noticesOk_messageEvent e) _ ok

/-- The notice whose frame begins leaves the list. -/
theorem keepsReports_noticeStart : KeepsReports s (noticeStart s) := by
  refine .of_mp (by simp) fun ok => ?_
  unfold noticeStart
  split
  · next n rest _ _ hn =>
    split
    · exact ok
    · exact ok.of_sublist (b := { s.mp with notices := rest, transmitter := _ })
        (hn ▸ List.sublist_cons_self n rest) fun _ _ h => h
  · exact ok

theorem noticesOk_takeOrNotice (first : Bool) (ok : NoticesOk s.mp) : NoticesOk (takeOrNotice first s).mp := by
  cases first with
  | false => exact noticesOk_takeNext ok
  | true => exact noticesOk_takeNext (keepsReports_noticeStart.notices ok)

/-- With no request in hand the end of a reply and a change of format take none. -/
theorem keepsReports_takeOrNotice (first : Bool) (hh : s.mp.hand = none) : KeepsReports s (takeOrNotice first s) := by
  have hnext {u : State} (hu : u.mp.hand = none) : takeNext u = u := by simp [takeNext, hu]
  have hstart : (noticeStart s).mp.hand = s.mp.hand := by unfold noticeStart; (repeat' split) <;> rfl
  cases first with
  | false => rw [takeOrNotice_false, hnext hh]; exact .refl s
  | true => rw [takeOrNotice_true, hnext (hstart.trans hh)]; exact keepsReports_noticeStart

theorem noticesOk_replySent (first : Bool) (ok : NoticesOk s.mp) : NoticesOk (replySent first s).mp := by
  unfold replySent
  split
  · exact noticesOk_takeOrNotice first (ok.of_same rfl rfl)
  · exact ok

theorem noticesOk_messageFormatChange (first : Bool) (ok : NoticesOk s.mp) :
    NoticesOk (messageFormatChange first s).mp := by
  unfold messageFormatChange
  split
  · exact noticesOk_takeOrNotice first (ok.of_same rfl rfl)
  · exact ok

theorem keepsReports_replySent (first : Bool) (hh : s.mp.hand = none) : KeepsReports s (replySent first s) := by
  unfold replySent
  split
  · refine (keepsReports_takeOrNotice first ?_).after rfl
    exact hh
  · exact .refl s

theorem keepsReports_messageFormatChange (first : Bool) (hh : s.mp.hand = none) :
    KeepsReports s (messageFormatChange first s) := by
  unfold messageFormatChange
  split
  · refine (keepsReports_takeOrNotice first ?_).after rfl
    exact hh
  · exact .refl s

/-- A request that is no FAULT CLEAR, arriving with none in hand, is taken or waits in hand. -/
theorem keepsReports_receiveRequest (r : Request) (hh : s.mp.hand = none) (hk : r.kind ≠ 0x17) :
    KeepsReports s (receiveRequest r s) := by
  simp only [receiveRequest, hh, takeNext]
  split
  · next hr _ _ =>
    obtain rfl : r = _ := Option.some.inj hr
    exact .after (t := inHand r s) (.then_same (keepsReports_perform (inHand r s) r hk) rfl) rfl
  · exact .of_same rfl

theorem keepsReports_noticeSent : KeepsReports s (noticeSent s) := by
  unfold noticeSent
  split <;> exact .of_same rfl

theorem keepsReports_gapAbort (line : LineId) : KeepsReports s (gapAbort line s) := by
  refine .ite (.refl s) ?_
  cases line with
  | message => exact keepsReports_onLine s _ _
  | detector => exact (keepsReports_onLine s _ _).trans (keepsReports_detectorInvalid _ _)
  | sign => exact keepsReports_signGap s
  | peerA => exact keepsReports_advertGap s _
  | peerB => exact keepsReports_advertGap s _

end

/-! ## Every command, and the step -/

/-- The commands by which a request in hand or a frame received may be performed, and those after which the fault record
is not what it was: requests, characters on the message port, the end of a reply, the change of format, power-on, the
reset line and the loss of supply. -/
inductive RequestOrReset : Instr → Prop
  | request {c : Instr} {r : Request} (hr : requestOf c = some r) : RequestOrReset c
  | received (cs : List RxChar) : RequestOrReset (.messageFrameReceived cs)
  | replySent (first : Bool) : RequestOrReset (.replySent first)
  | formatChange (first : Bool) : RequestOrReset (.messagePortFormatChange first)
  | reset {c : Instr} (hc : c ∈ [.powerOn, .resetLine, .resetLineAsserted, .powerLoss]) : RequestOrReset c

/-- Every other command has a next state, and keeps the list in order and a major fault. -/
theorem keepsReports_exec (c : Instr) : RequestOrReset c ∨ ∃ t, exec c s = .next t ∧ KeepsReports s t := by
  cases hr : requestOf c with
  | some r => exact .inl (.request hr)
  | none =>
    cases c
    case powerOn | resetLine | resetLineAsserted | powerLoss => exact .inl (.reset (by simp))
    case messageFrameReceived cs => exact .inl (.received cs)
    case replySent first => exact .inl (.replySent first)
    case messagePortFormatChange first => exact .inl (.formatChange first)
    all_goals refine .inr ⟨_, rfl, ?_⟩
    case restartBegin => exact .whenRunning (fun s => .ite (keepsReports_restart s _) (.refl s)) s
    case startUpLoadEnd => exact .ite (.of_same rfl) (.refl s)
    case tenthTick =>
      have htick : KeepsReports s (tickAll s) := .of_same rfl
      split
      · exact .refl s
      · exact .refl s
      · exact htick
      · exact htick.trans (keepsReports_tickStart _)
    case detectorFrameReceived cs => exact .whenRunning (.foldl keepsReports_detectorChar cs) s
    case signFrameReceived cs => exact .whenRunning (.foldl keepsReports_signChar cs) s
    case advertReceived port cs => exact .whenRunning (.foldl (keepsReports_advertChar · port) cs) s
    case noticeFrameStart => exact .whenRunning (fun _ => keepsReports_noticeStart) s
    case noticeFrameSent => exact .whenRunning (fun _ => keepsReports_noticeSent) s
    case frameGapAbort line => exact .whenRunning (fun _ => keepsReports_gapAbort line) s
    case silenceTimerExpiry => exact .whenRunning (fun s => .ite (keepsReports_setLock s _ _ _) (.refl s)) s
    case contactChangeAccepted n => exact .whenRunning (keepsReports_acceptChange · n) s
    case pulseWidthLimit n => exact .whenRunning (keepsReports_widthLimit · n) s
    case contactSample levels => exact .whenRunning (keepsReports_sampleContacts · levels) s
    case takeBegin => exact .whenRunning keepsReports_takeBegin s
    case takeComplete => exact .whenRunning keepsReports_takeComplete s
    case suspectTimerExpiry z => exact .whenRunning (keepsReports_suspectExpiry · z) s
    case clearHoldTimerExpiry z => exact .whenRunning (keepsReports_clearHoldExpiry · z) s
    case planCheckEnd => exact .whenRunning keepsReports_endCheck s
    case planStoreEnd bs => exact .whenRunning (keepsReports_endStore · bs) s
    case solveStart => exact .whenRunning (fun s => .of_same (reportParts_solveStart s)) s
    case solveEnd => exact .whenRunning keepsReports_solveEnd s
    case refreshTimerExpiry => exact .whenRunning keepsReports_refreshExpiry s
    case showFrameSent => exact .whenRunning keepsReports_showSent s
    case replyWindowClose => exact .whenRunning keepsReports_windowClosed s
    case fallbackFrameSent => exact .whenRunning keepsReports_fallbackSent s
    case emphasisTimerExpiry i => exact .whenRunning (keepsReports_emphasisExpiry · i) s
    case ageTimerExpiry port => exact .whenRunning (keepsReports_ageExpiry · port) s
    case advertTimerExpiry port => exact .whenRunning (keepsReports_advertiseExpiry · port) s
    case spacingTimerExpiry port => exact .whenRunning (keepsReports_spacingExpiry · port) s
    case advertFrameSent port => exact .whenRunning (keepsReports_advertSent · port) s
    all_goals cases hr

section
variable {s}

/-- What a running part does keeps the list in order when it does. -/
theorem noticesOk_whenRunning {f : State → State} (hf : NoticesOk s.mp → NoticesOk (f s).mp) (ok : NoticesOk s.mp) :
    NoticesOk (whenRunning f s).mp := by
  unfold whenRunning
  split
  · exact hf ok
  · exact ok

theorem noticesOk_exec (c : Instr) (ok : NoticesOk s.mp) : ∃ t, exec c s = .next t ∧ NoticesOk t.mp := by
  rcases keepsReports_exec s c with hc | ⟨t, ht, keeps⟩
  · cases hc with
    | request hr => exact ⟨_, exec_request _ _ s hr, noticesOk_whenRunning (noticesOk_receiveRequest _) ok⟩
    | received cs =>
      exact ⟨_, rfl, noticesOk_whenRunning (noticesOk_foldl (fun _ c => noticesOk_messageChar c) cs) ok⟩
    | replySent first => exact ⟨_, rfl, noticesOk_whenRunning (noticesOk_replySent first) ok⟩
    | formatChange first => exact ⟨_, rfl, noticesOk_whenRunning (noticesOk_messageFormatChange first) ok⟩
    | reset hc =>
      simp only [List.mem_cons, List.not_mem_nil, or_false] at hc
      rcases hc with rfl | rfl | rfl | rfl <;> refine ⟨_, rfl, ?_⟩
      · exact noticesOk_resetWith s _ _ _
      · split
        · exact ok
        · exact noticesOk_resetWith s _ _ _
      · split
        · exact ok
        · exact noticesOk_blocksAfter s _ _ _ _ _ _
      · exact noticesOk_blocksAfter s _ _ _ _ _ _
  · exact ⟨t, ht, keeps.notices ok⟩

/-- With no request in hand, a command that is no reset, no loss of supply, no receipt of characters on the message port
and no FAULT CLEAR keeps the reports. -/
theorem keepsReports_exec_quiet {c : Instr} (hh : s.mp.hand = none)
    (hreset : c ∉ [.powerOn, .resetLine, .resetLineAsserted, .powerLoss])
    (hchars : ∀ cs, c ≠ .messageFrameReceived cs) (hclear : ∀ q, requestOf c = some q → q.kind ≠ 0x17) :
    ∃ t, exec c s = .next t ∧ KeepsReports s t := by
  rcases keepsReports_exec s c with hc | h
  · have hrun {f : State → State} (hf : KeepsReports s (f s)) : KeepsReports s (whenRunning f s) := .ite hf (.refl s)
    cases hc with
    | request hr => exact ⟨_, exec_request _ _ s hr, hrun (keepsReports_receiveRequest _ hh (hclear _ hr))⟩
    | received cs => exact absurd rfl (hchars cs)
    | replySent first => exact ⟨_, rfl, hrun (keepsReports_replySent first hh)⟩
    | formatChange first => exact ⟨_, rfl, hrun (keepsReports_messageFormatChange first hh)⟩
    | reset hc => exact absurd hc hreset
  · exact h

end

/-- A step idles on an empty queue, or runs the command at its front (log entry 3). -/
theorem step_next_cases {t : State} (h : step s = .next t) :
    t = s ∨ ∃ c rest, s.pending = c :: rest ∧ exec c { s with pending := rest } = .next t := by
  unfold step at h
  split at h
  · cases h
    exact .inl rfl
  · next c rest hp => exact .inr ⟨c, rest, hp, h⟩

/-- Settles O3, by the command at the front of the queue. -/
theorem step_keeps_notices_ok : Obligations.step_keeps_notices_ok := by
  intro s t ok h
  rcases step_next_cases s h with rfl | ⟨c, rest, _, h⟩
  · exact ok
  · obtain ⟨u, hu, ok'⟩ := noticesOk_exec (s := { s with pending := rest }) c ok
    cases hu.symm.trans h
    exact ok'

/-- Settles O50, by the command at the front of the queue. -/
theorem major_fault_is_kept : Obligations.major_fault_is_kept := by
  intro s t r hr hmajor hh hfront h
  rcases step_next_cases s h with rfl | ⟨c, rest, hp, h⟩
  · exact hr
  · obtain ⟨hreset, hchars, hclear⟩ := hfront c rest hp
    obtain ⟨u, hu, keeps⟩ := keepsReports_exec_quiet (s := { s with pending := rest }) hh hreset hchars hclear
    cases hu.symm.trans h
    exact keeps.major r hr hmajor

end Sys2Proof.Machine
end

section
/-! SUPPORT. The notice frames (R170, R172, R186, R188): O21. -/

namespace Sys2Proof.Machine

variable {s : State}

theorem exec_noticeFrameStart {n : Notice} {rest : List Notice} (hrun : s.phase = .running)
    (ht : s.mp.transmitter = .idle) (hr : s.mp.reply = none) (hd : s.mp.deferred = .none)
    (hn : s.mp.notices = n :: rest) :
    exec .noticeFrameStart s =
      .next { s with
        mp := { s.mp with notices := rest, transmitter := .notice (noticeFrame s.free n) }
        free := s.free + Config.freeBlock } := by
  rw [← noticeStart_begins s n rest ht hr hn (by rw [hd]; rfl)]
  exact congrArg _ (whenRunning_running hrun _)

theorem exec_noticeFrameSent {body : List Byte} (hrun : s.phase = .running) (ht : s.mp.transmitter = .notice body) :
    exec .noticeFrameSent s =
      .next { s with mp := { s.mp with transmitter := if s.mp.reply.isSome then .reply else .idle } } := by
  simp only [exec, execNoticeFrameSent, whenRunning, if_pos hrun, noticeSent, ht]
  rfl

/-- Settles O21: the frame's head, its own fields kind by kind, and the codes. -/
theorem notice_frames : Obligations.notice_frames := by
  refine ⟨?_, rfl, fun _ => rfl, rfl, rfl, rfl, rfl, rfl, rfl, rfl, rfl, fun s body => exec_noticeFrameSent⟩
  intro flag opt fields s n rest hrun ht hr hd hn
  have hfields (free : Nat) (body : NoticeBody) : noticeFields free body = fields free body := by
    cases body with
    | evacState prev new declared cause => cases cause <;> rfl
    | zoneChange => rfl
    | routePublished => rfl
    | noRoute => rfl
    | signTrouble i address st misses lamp => cases lamp <;> rfl
    | portalChange port st live lowest => cases port <;> cases lowest <;> rfl
    | faultCaptured k subject => cases k <;> rfl
    | lineState line condition panel => cases condition <;> cases panel <;> rfl
    | planEvent outcome id failure => cases failure <;> rfl
    | overrun cause => cases cause <;> rfl
  rw [exec_noticeFrameStart hrun ht hr hd hn, ← hfields]
  rfl

end Sys2Proof.Machine
end

section
/-! SUPPORT. NOTICE SETUP and CLEAR FLAGS (R173, R174): O47. -/

namespace Sys2Proof.Machine

/-! ## Codes -/

/-- A number names a notice kind exactly when it is the kind's place counted from 1. -/
theorem noticeKindOf_eq_some {n : Nat} {k : NoticeKind} : noticeKindOf n = some k ↔ n = k.idx.val + 1 := by
  constructor
  · intro h
    unfold noticeKindOf at h
    split at h <;> cases h <;> rfl
  · rintro rfl
    cases k <;> rfl

theorem noticeKindOf_none {n : Nat} (h : n = 0 ∨ 10 < n) : noticeKindOf n = none := by
  refine Option.eq_none_iff_forall_ne_some.2 fun k hk => ?_
  have hn := noticeKindOf_eq_some.1 hk
  omega

theorem noticeKindOf_isSome {n : Nat} (h1 : 1 ≤ n) (h2 : n ≤ 10) : ∃ k, noticeKindOf n = some k := by
  interval_cases n <;> exact ⟨_, rfl⟩

theorem strictFlagOf_some : ∀ {n : Nat}, n ≤ 1 → strictFlagOf n = some (decide (n = 1))
  | 0, _ | 1, _ => rfl

/-! ## NOTICE SETUP -/

section
variable {k en pr th : Byte} {s : State}

theorem answerNoticeSetup_badValue (h : k.toNat = 0 ∨ 10 < k.toNat ∨ 1 < en.toNat) :
    answerNoticeSetup [k, en, pr, th] s = turnedAway .badValue s := by
  rcases or_assoc.2 h with h | h
  · simp [answerNoticeSetup, noticeKindOf_none h]
  · simp [answerNoticeSetup, strictFlagOf_none h]

/-- Priority and threshold are stored at the nearer end of their ranges. -/
theorem answerNoticeSetup_ok {kind : NoticeKind} (hk : noticeKindOf k.toNat = some kind) (hen : en.toNat ≤ 1) :
    answerNoticeSetup [k, en, pr, th] s =
      answeredClamped (decide (3 < pr.toNat ∨ th.toNat = 0 ∨ 3 < th.toNat))
        [k, en, byte1 (if 3 < pr.toNat then 3 else pr.toNat),
          byte1 (if th.toNat = 0 then 1 else if 3 < th.toNat then 3 else th.toNat)]
        (setNotice kind (decide (en.toNat = 1)) (if 3 < pr.toNat then 3 else pr.toNat)
          (if th.toNat = 0 then 1 else if 3 < th.toNat then 3 else th.toNat) s) := by
  have hflag := strictFlagOf_some hen
  simp [answerNoticeSetup, hk, hflag, flagByte_of hflag, quantity, clampTo_eq, outside]

end

/-! ## CLEAR FLAGS -/

theorem readKinds_none {named : List Byte} (h : ∃ b ∈ named, b.toNat = 0 ∨ 10 < b.toNat) : readKinds named = none := by
  induction named with
  | nil => simp at h
  | cons b rest ih =>
    obtain ⟨c, hc, hbad⟩ := h
    rcases List.mem_cons.1 hc with rfl | hc
    · simp [readKinds, noticeKindOf_none hbad]
    · simp [readKinds, ih ⟨c, hc, hbad⟩]

/-- Bytes that are all kinds' numbers name exactly those kinds. -/
theorem readKinds_some {named : List Byte} (h : ∀ b ∈ named, 1 ≤ b.toNat ∧ b.toNat ≤ 10) :
    ∃ ks, readKinds named = some ks ∧ ∀ k : NoticeKind, k ∈ ks ↔ ∃ b ∈ named, b.toNat = k.idx.val + 1 := by
  induction named with
  | nil => exact ⟨[], rfl, by simp⟩
  | cons b rest ih =>
    obtain ⟨hb, hrest⟩ := List.forall_mem_cons.1 h
    obtain ⟨ks, hks, hmem⟩ := ih hrest
    obtain ⟨j, hj⟩ := noticeKindOf_isSome hb.1 hb.2
    refine ⟨j :: ks, by simp [readKinds, hj, hks], fun k => ?_⟩
    have hhead : k = j ↔ b.toNat = k.idx.val + 1 := by
      rw [← noticeKindOf_eq_some, hj, Option.some.injEq, eq_comm]
    simp [hmem, hhead]

/-- A kind's record after flags are cleared. -/
theorem foldl_clearFlagIn_kinds (ks : List NoticeKind) (mp : MessagePort) (k : NoticeKind) :
    (ks.foldl clearFlagIn mp).kinds[k.idx] =
      if k ∈ ks then { mp.kinds[k.idx] with flag := false, event := none } else mp.kinds[k.idx] := by
  induction ks generalizing mp with
  | nil => simp
  | cons j ks ih =>
    rw [List.foldl_cons, ih]
    by_cases hj : k = j
    · subst hj
      simp [clearFlagIn]
    · rw [clearFlagIn_other mp hj]
      simp [hj]

/-- After flags are cleared only the kinds and the list are other than they were. -/
theorem foldl_clearFlagIn_eq (ks : List NoticeKind) (mp : MessagePort) :
    ks.foldl clearFlagIn mp =
      { mp with
        kinds := (ks.foldl clearFlagIn mp).kinds
        notices := mp.notices.filter fun n => n.kind ∉ ks } := by
  induction ks generalizing mp with
  | nil => simp
  | cons k ks ih =>
    rw [List.foldl_cons, ih]
    simp [clearFlagIn, List.filter_filter, Bool.and_comm]

theorem foldl_clearFlagIn_inHand (r : Request) (ks : List NoticeKind) (s : State) :
    ({ inHand r s with mp := ks.foldl clearFlagIn (inHand r s).mp } : State) =
      inHand r { s with mp := ks.foldl clearFlagIn s.mp } := by
  have h (mp : MessagePort) : ks.foldl clearFlagIn { mp with hand := some r } =
      { ks.foldl clearFlagIn mp with hand := some r } := by
    induction ks generalizing mp with
    | nil => rfl
    | cons k ks ih => exact ih (clearFlagIn mp k)
  exact congrArg (fun mp => { s with mp := mp }) (h s.mp)

section
variable {n : Byte} {named : List Byte} {s : State}

theorem answerClearFlags_badLength (h : named.length ≠ n.toNat) :
    answerClearFlags (n :: named) s = turnedAway .badLength s := if_neg h

theorem answerClearFlags_badValue (hl : named.length = n.toNat) (h : ∃ b ∈ named, b.toNat = 0 ∨ 10 < b.toNat) :
    answerClearFlags (n :: named) s = turnedAway .badValue s := by
  simp [answerClearFlags, hl, readKinds_none h]

theorem answerClearFlags_ok {ks : List NoticeKind} (hl : named.length = n.toNat) (h : readKinds named = some ks)
    (r : Request) :
    answerClearFlags (n :: named) (inHand r s) =
      answered (flagBytes { s with mp := ks.foldl clearFlagIn s.mp })
        (inHand r { s with mp := ks.foldl clearFlagIn s.mp }) := by
  rw [← foldl_clearFlagIn_inHand]
  simp only [answerClearFlags, if_pos hl, h]
  rw [foldl_clearFlagIn_inHand]
  rfl

end

theorem flagBytes_get (s : State) (k : NoticeKind) :
    (flagBytes s)[k.idx.val]? = some (if s.mp.kinds[k.idx].flag then 1 else 0) := by
  simp [flagBytes, flagByte]

/-- Settles O47: each request by what its bytes name. -/
theorem notice_setup_and_clear_flags : Obligations.notice_setup_and_clear_flags := by
  refine ⟨fun tag k en pr th s hs => ⟨fun h => ?_, fun kind hk hen => ?_⟩,
    fun tag n named s hs => ⟨fun hl => ?_, fun hl h => ?_, fun hl h => ?_⟩⟩
  · exact turnedAway_of _ _ rfl hs (answerNoticeSetup_badValue h)
  · obtain ⟨_, _, hw, _, _⟩ := id hs
    refine answers_of _ _ s _ _ _ rfl hs hw ((answerNoticeSetup_ok hk hen).trans ?_)
    simp only [answeredClamped, decide_eq_true_eq]
    rfl
  · exact turnedAway_of _ _ rfl hs (answerClearFlags_badLength hl)
  · exact turnedAway_of _ _ rfl hs (answerClearFlags_badValue hl h)
  · obtain ⟨ks, hks, hmem⟩ := readKinds_some h
    obtain ⟨_, _, hw, _, _⟩ := id hs
    have hrest := foldl_clearFlagIn_eq ks s.mp
    refine ⟨ks.foldl clearFlagIn s.mp, _, answers_of _ _ s _ _ _ rfl hs ?_ (answerClearFlags_ok hl hks _),
      fun k => ?_, by simp [flagBytes], ?_, ?_, ?_, ?_⟩
    · rw [hrest]
      exact hw
    · refine ⟨?_, ?_, flagBytes_get _ k, fun hn => ?_, fun hn => ?_⟩ <;>
        rw [foldl_clearFlagIn_kinds]
      · split <;> rfl
      · split <;> rfl
      · rw [if_pos ((hmem k).2 hn)]
      · exact if_neg fun hk => by
          obtain ⟨b, hb, hbk⟩ := (hmem k).1 hk
          exact hn b hb hbk
    · rw [hrest]
      refine List.filter_congr fun x _ => ?_
      rw [Bool.eq_iff_iff]
      simp [hmem]
    · rw [hrest]
    · rw [hrest]
    · rw [hrest]

end Sys2Proof.Machine
end

section
/-! SUPPORT. Rises, captures and firings (R170, R171, R175, R176, R178): O48. -/

namespace Sys2Proof.Machine

/-! ## Rises -/

/-- Where a notice is put: behind the first notices that are not of lower priority. -/
theorem insertNotice_split (n : Notice) (l : List Notice) :
    ∃ front back : List Notice, insertNotice n l = front ++ n :: back ∧ l = front ++ back ∧
      (∀ m ∈ front, n.priority ≤ m.priority) ∧ (∀ m rest, back = m :: rest → m.priority < n.priority) := by
  refine ⟨_, _, insertNotice_eq n l, List.takeWhile_append_dropWhile.symm, fun m hm => ?_, fun m rest hb => ?_⟩
  · simpa using List.mem_takeWhile_imp hm
  · have hhead := List.head?_dropWhile_not (fun m : Notice => decide (n.priority ≤ m.priority)) l
    simpa [hb] using hhead

section
variable {s : State}

/-- A rise leaves all but the kinds and the list of the Message Port. -/
theorem raise_rest (b : NoticeBody) (s : State) :
    raise b s = { s with mp := { s.mp with kinds := (raise b s).mp.kinds, notices := (raise b s).mp.notices } } :=
  congrArg (fun mp => { s with mp := mp }) (raiseIn_rest s.mp b s.zh.clock s.tb.seconds)

/-- A rise of a clear flag whose kind is not enabled at the threshold queues nothing. -/
theorem raise_unqueued (b : NoticeBody) (hf : s.mp.kinds[b.kind.idx].flag = false)
    (h : s.mp.kinds[b.kind.idx].enable = false ∨ s.mp.kinds[b.kind.idx].priority < s.mp.threshold) :
    (raise b s).mp.notices = s.mp.notices := by
  rw [raise_clear b s hf]
  refine if_neg fun hq => ?_
  obtain ⟨hen, hth⟩ := Bool.and_eq_true_iff.1 hq
  rcases h with h | h
  · exact Bool.false_ne_true (h.symm.trans hen)
  · exact Nat.not_le.2 h (of_decide_eq_true hth)

/-- A rise of a clear flag whose kind is enabled at the threshold queues its notice. -/
theorem raise_queued (b : NoticeBody) (hf : s.mp.kinds[b.kind.idx].flag = false)
    (hen : s.mp.kinds[b.kind.idx].enable = true) (hth : s.mp.threshold ≤ s.mp.kinds[b.kind.idx].priority) :
    (raise b s).mp.notices =
      insertNotice ⟨b.kind, s.mp.kinds[b.kind.idx].priority, ⟨b, s.zh.clock, s.tb.seconds⟩⟩ s.mp.notices := by
  rw [raise_clear b s hf]
  exact if_pos (Bool.and_eq_true_iff.2 ⟨hen, decide_eq_true hth⟩)

/-! ## Captures, by the table of R176 -/

variable {k : FaultKind} {n : Nat} {r : FaultRecord}

/-- The record as a capture fills it. -/
def capturedRecord (k : FaultKind) (n : Nat) (s : State) : FaultRecord :=
  { kind := k, subject := n, time := s.tb.seconds }

theorem capture_ignored (hk : faultClassOf k = .minor) (hi : s.fc.ignoreMinor = true) :
    capture k n s = { s with fc := tallyIn s.fc k } := by
  have hi' : (tallyIn s.fc k).ignoreMinor = true := hi
  simp [capture, recordIn, hk, hi']

theorem capture_fills (hk : faultClassOf k = .major ∨ s.fc.ignoreMinor = false) (hr : s.fc.record = none) :
    capture k n s =
      { s with
        fc := { tallyIn s.fc k with record := some (capturedRecord k n s) }
        mp := (raise (.faultCaptured k n) s).mp } := by
  have hr' : (tallyIn s.fc k).record = none := hr
  cases hc : faultClassOf k with
  | major => simp [capture, recordIn, hc, hr', raise, capturedRecord]
  | minor =>
    have hi' : (tallyIn s.fc k).ignoreMinor = false := hk.resolve_left (by simp [hc])
    simp [capture, recordIn, hc, hr', hi', raise, capturedRecord]

theorem capture_displaces (hk : faultClassOf k = .major) (hr : s.fc.record = some r)
    (hc : faultClassOf r.kind = .minor) :
    capture k n s =
      { s with
        fc := { tallyIn s.fc k with record := some (capturedRecord k n s), multipleMinor := true }
        mp := (raise (.faultCaptured k n) s).mp } := by
  have hr' : (tallyIn s.fc k).record = some r := hr
  simp [capture, recordIn, hk, hr', hc, raise, capturedRecord]

theorem capture_marks_minor (hk : faultClassOf k = .minor) (hi : s.fc.ignoreMinor = false)
    (hr : s.fc.record = some r) :
    capture k n s = { s with fc := { tallyIn s.fc k with multipleMinor := true } } := by
  have hr' : (tallyIn s.fc k).record = some r := hr
  have hi' : (tallyIn s.fc k).ignoreMinor = false := hi
  simp [capture, recordIn, hk, hr', hi']

theorem capture_marks_major (hk : faultClassOf k = .major) (hr : s.fc.record = some r)
    (hc : faultClassOf r.kind = .major) :
    capture k n s = { s with fc := { tallyIn s.fc k with multipleMajor := true } } := by
  have hr' : (tallyIn s.fc k).record = some r := hr
  simp [capture, recordIn, hk, hr', hc]

/-- A capture changes the record, the two multiple flags and the tallies of Fault Capture. -/
theorem capture_fc_rest (k : FaultKind) (n : Nat) (s : State) :
    (capture k n s).fc =
      { s.fc with
        record := (capture k n s).fc.record, multipleMinor := (capture k n s).fc.multipleMinor
        multipleMajor := (capture k n s).fc.multipleMajor, tallies := (capture k n s).fc.tallies } := by
  unfold capture recordIn
  (repeat' split) <;> rfl

/-- The tallies after a capture: its kind's one more, up to 255 (R175). -/
theorem capture_tallies (k j : FaultKind) (n : Nat) (s : State) :
    (capture k n s).fc.tallies[j.idx] =
      if j = k then min 255 (s.fc.tallies[k.idx] + 1) else s.fc.tallies[j.idx] := by
  rw [← tallyIn_tallies, ← (recordIn_counts (tallyIn s.fc k) k n s.tb.seconds).1]
  rfl

end

/-- Settles O48: a rise by the flag and the kind's settings, a capture by the table of R176, and a firing. -/
theorem rises_captures_and_firings : Obligations.rises_captures_and_firings := by
  refine ⟨fun body s => ⟨raise_set body s, fun hf => ⟨raise_rest body s, ?_, fun k => raise_other body s k,
    raise_unqueued body hf, fun hen hth => ?_⟩⟩, fun k subject s => ?_, fun input n s => ⟨rfl, fun i => ?_⟩⟩
  · rw [raise_kinds, if_pos ⟨rfl, hf⟩]
  · rw [raise_queued body hf hen hth]
    exact insertNotice_split _ _
  · refine ⟨rfl, capture_fc_rest k subject s, by rw [capture_tallies, if_pos rfl],
      fun j hj => by rw [capture_tallies, if_neg hj], fun hk hi => ?_, fun hk => ?_⟩
    · rw [capture_ignored hk hi]
      exact ⟨rfl, rfl, rfl, rfl⟩
    · cases hr : s.fc.record with
      | none => simp [capture_fills hk hr, tallyIn, capturedRecord]
      | some r =>
        cases hc : faultClassOf k with
        | minor =>
          have hi : s.fc.ignoreMinor = false := hk.resolve_left (by simp [hc])
          simp [capture_marks_minor hc hi hr, tallyIn, hr]
        | major =>
          cases hcr : faultClassOf r.kind with
          | minor => simp [capture_displaces hc hr hcr, tallyIn, capturedRecord, hcr]
          | major => simp [capture_marks_major hc hr hcr, tallyIn, hr, hcr]
  · rw [fire_counter]
    unfold countIn
    split
    · next h => rw [h]; rfl
    · rfl

end Sys2Proof.Machine
end

section
/-! SUPPORT. FAULT CLEAR, COUNTER SETUP and OUTPUT SETUP, and the signals of the outputs (R177 to R180): O49. -/

namespace Sys2Proof.Machine

/-! ## Codes -/

theorem counterInputOf_none {n : Nat} (h : 11 < n) : counterInputOf n = none := by
  unfold counterInputOf
  split
  case h_13 => rfl
  all_goals omega

theorem signalOf_none {n : Nat} (h : 11 < n) : signalOf n = none := by
  unfold signalOf
  split
  case h_13 => rfl
  all_goals omega

theorem counterInputCode_of {n : Nat} {i : CounterInput} (h : counterInputOf n = some i) : counterInputCode i = n := by
  unfold counterInputOf at h
  split at h <;> cases h <;> rfl

variable {s : State}

/-! ## FAULT CLEAR (R177) -/

section
variable {z i : Byte}

theorem answerFaultClear_badValue (h : 1 < z.toNat ∨ 1 < i.toNat) :
    answerFaultClear [z, i] s = turnedAway .badValue s := by
  rcases h with h | h <;> simp [answerFaultClear, strictFlagOf_none h]

/-- The fault data with the record empty and its flags clear. -/
theorem faultFields_clearFaults (zero ignore : Bool) :
    faultFields (clearFaults zero ignore s) =
      [0, 0xFF, 0xFF, 0xFF, 0xFF] ++ (List.range 4).map (fun k => Config.freeByte (s.free + k)) ++
        [0, 0, flagByte ignore] ++ (clearFaults zero ignore s).fc.tallies.toList.map byte1 := by
  rw [faultFields_eq]
  rfl

theorem clearFaults_tallies (ignore : Bool) :
    (clearFaults (decide (z.toNat = 1)) ignore s).fc.tallies =
      if z.toNat = 1 then #v[0, 0, 0, 0, 0, 0, 0, 0, 0, 0, 0, 0, 0] else s.fc.tallies := by
  simp only [clearFaults, decide_eq_true_eq]
  rfl

theorem answerFaultClear_ok (hz : z.toNat ≤ 1) (hi : i.toNat ≤ 1) :
    answerFaultClear [z, i] s =
      answered (faultFields (clearFaults (decide (z.toNat = 1)) (decide (i.toNat = 1)) s))
        (clearFaults (decide (z.toNat = 1)) (decide (i.toNat = 1)) s) := by
  simp [answerFaultClear, strictFlagOf_some hz, strictFlagOf_some hi]

end

/-! ## COUNTER SETUP (R178) -/

section
variable {n i : Byte}

theorem answerCounterSetup_badValue (h : 1 < n.toNat ∨ 11 < i.toNat) :
    answerCounterSetup [n, i] s = turnedAway .badValue s := by
  rcases h with h | h
  · simp [answerCounterSetup, show ¬ n.toNat < 2 by omega]
  · simp [answerCounterSetup, counterInputOf_none h]

theorem answerCounterSetup_ok {k : Fin 2} {input : CounterInput} (hk : n.toNat = k.val)
    (hi : counterInputOf i.toNat = some input) :
    answerCounterSetup [n, i] s = answered [n, i, 0, 0, 0] (setCounter k input s) := by
  have hbytes : counterBytes n.toNat { input := input, value := 0 } = [n, i, 0, 0, 0] := by
    have hzero : byte3 0 = [0, 0, 0] := by decide
    simp [counterBytes, counterInputCode_of hi, byte1_toNat_self, hzero]
  have hlt : n.toNat < 2 := hk ▸ k.isLt
  obtain rfl : k = ⟨n.toNat, hlt⟩ := Fin.ext hk.symm
  simp [answerCounterSetup, hlt, hi, hbytes]

end

/-! ## OUTPUT SETUP (R179, R180) -/

theorem readFlags_none {mask : List Byte} (h : ∃ b ∈ mask, 1 < b.toNat) : readFlags mask = none := by
  induction mask with
  | nil => simp at h
  | cons b rest ih =>
    obtain ⟨c, hc, hbad⟩ := h
    rcases List.mem_cons.1 hc with rfl | hc
    · simp [readFlags, strictFlagOf_none hbad]
    · simp [readFlags, ih ⟨c, hc, hbad⟩]

theorem readFlags_some {mask : List Byte} (h : ∀ b ∈ mask, b.toNat ≤ 1) :
    readFlags mask = some (mask.map fun b => decide (b.toNat = 1)) := by
  induction mask with
  | nil => rfl
  | cons b rest ih =>
    obtain ⟨hb, hrest⟩ := List.forall_mem_cons.1 h
    simp [readFlags, strictFlagOf_some hb, ih hrest]

/-- A kind's entry of the mask is the flag of the byte in its place. -/
theorem maskOf_get {mask : List Byte} (hl : mask.length = 13) (j : Fin 13) :
    (maskOf (mask.map fun b => decide (b.toNat = 1)))[j] = decide (mask[j.val]? = some 1) := by
  have hj : j.val < mask.length := by omega
  have hone (b : Byte) : b.toNat = 1 ↔ b = 1 := ⟨fun h => BitVec.eq_of_toNat_eq h, fun h => h ▸ rfl⟩
  simp [maskOf, hj, hone]

section
variable {n g given : Byte} {mask : List Byte} (hl : mask.length = 13)
include hl

theorem answerOutputSetup_badValue
    (h : 3 < n.toNat ∨ 11 < g.toNat ∨ 1 < given.toNat ∨ (given.toNat = 1 ∧ ∃ b ∈ mask, 1 < b.toNat)) :
    answerOutputSetup (n :: g :: given :: mask) s = turnedAway .badValue s := by
  rcases h with h | h | h | ⟨h1, h⟩
  · simp [answerOutputSetup, hl, show ¬ n.toNat < 4 by omega]
  · simp [answerOutputSetup, hl, signalOf_none h]
  · simp [answerOutputSetup, hl, strictFlagOf_none h]
  · have hflag : strictFlagOf given.toNat = some true := by rw [h1]; rfl
    cases hg : signalOf g.toNat <;> simp [answerOutputSetup, hl, hg, hflag, readFlags_none h]

theorem answerOutputSetup_kept {k : Fin 4} {sig : Signal} (hk : n.toNat = k.val) (hg : signalOf g.toNat = some sig)
    (h0 : given.toNat = 0) : answerOutputSetup (n :: g :: given :: mask) s = outputAnswer k sig none s := by
  have hlt : n.toNat < 4 := hk ▸ k.isLt
  obtain rfl : k = ⟨n.toNat, hlt⟩ := Fin.ext hk.symm
  have hflag : strictFlagOf given.toNat = some false := by rw [h0]; rfl
  simp [answerOutputSetup, hl, hlt, hg, hflag]

theorem answerOutputSetup_masked {k : Fin 4} {sig : Signal} (hk : n.toNat = k.val)
    (hg : signalOf g.toNat = some sig) (h1 : given.toNat = 1) (hm : ∀ b ∈ mask, b.toNat ≤ 1) :
    answerOutputSetup (n :: g :: given :: mask) s =
      outputAnswer k sig (some (maskOf (mask.map fun b => decide (b.toNat = 1)))) s := by
  have hlt : n.toNat < 4 := hk ▸ k.isLt
  obtain rfl : k = ⟨n.toNat, hlt⟩ := Fin.ext hk.symm
  have hflag : strictFlagOf given.toNat = some true := by rw [h1]; rfl
  simp [answerOutputSetup, hl, hlt, hg, hflag, readFlags_some hm]

end

theorem signalTrue_inHand (r : Request) (s : State) (g : Signal) : signalTrue (inHand r s) g = signalTrue s g := by
  cases g <;> rfl

/-- With supply an output is driven while its signal is true (R179). -/
theorem outputDriven_running (h : s.phase = .running) (n : Fin 4) :
    outputDriven s n = signalTrue s s.fc.outputs[n] := by
  simp [outputDriven, h]

/-- The reply of OUTPUT SETUP: the selections, the mask, and what each output is. -/
theorem outputFields_inHand (h : s.phase = .running) (r : Request) :
    outputFields (inHand r s) =
      s.fc.outputs.toList.map (fun x => byte1 (signalCode x)) ++ s.fc.mask.toList.map (fun x => if x then 1 else 0) ++
        (List.finRange 4).map (fun x => if outputDriven s x then 1 else 0) := by
  have hfour : s.fc.outputs.toList = (List.finRange 4).map (fun x => s.fc.outputs[x]) := by
    refine List.ext_getElem (by simp) fun i h1 h2 => ?_
    simp
  simp only [outputFields, signalTrue_inHand, outputDriven_running h]
  refine congrArg _ ?_
  show s.fc.outputs.toList.map _ = _
  rw [hfour, List.map_map]
  rfl

/-- The answer to an OUTPUT SETUP whose bytes name an output and a signal, with a mask or without. -/
theorem answers_outputSetup {tag : Byte} {fields : List Byte} {k : Fin 4} {sig : Signal}
    {mask : Option (Vector Bool 13)} (hs : Ready s)
    (h : ∀ u, answerOutputSetup fields u = outputAnswer k sig mask u) :
    let t := setOutput k sig mask s
    Answers (.outputSetup tag fields) s .ok
      (t.fc.outputs.toList.map (fun x => byte1 (signalCode x)) ++ t.fc.mask.toList.map (fun x => if x then 1 else 0) ++
        (List.finRange 4).map (fun x => if outputDriven t x then 1 else 0)) t := by
  obtain ⟨hrun, _, hw, _, _⟩ := id hs
  exact answers_of _ { kind := 0x1A, tag := tag, fields := fields } s _ _ _ rfl hs hw
    ((h _).trans (congrArg (answered · _) (outputFields_inHand (s := setOutput k sig mask s) hrun _)))

/-! ## Signals (R179, R180) -/

theorem evac_ne_quiet_iff (e : EvacState) : e ≠ .quiet ↔ e = .alert ∨ e = .active := by cases e <;> simp

theorem lock_ne_locked_iff (l : LockState) : l ≠ .locked ↔ l = .silent ∨ l = .seeking := by cases l <;> simp

theorem faultPresent_iff (fc : FaultCapture) :
    faultPresent fc = true ↔ ∃ r, fc.record = some r ∧ fc.mask[r.kind.idx] = false := by
  unfold faultPresent
  split
  · next r hr => simp [hr]
  · next hr => simp [hr]

theorem noticePending_iff (mp : MessagePort) :
    noticePending mp = true ↔ mp.notices ≠ [] ∨ ∃ k : Fin 10, mp.kinds[k].flag = true ∧ mp.kinds[k].enable = true := by
  simp [noticePending, Vector.any_eq_true, Fin.exists_iff]

/-- Settles O49: the three requests by what their bytes name, and each signal by what it is true of. -/
theorem fault_counter_and_output_setup : Obligations.fault_counter_and_output_setup := by
  refine ⟨fun tag s hs => ?_, fun s => ?_⟩
  · obtain ⟨_, _, hw, _, _⟩ := id hs
    refine ⟨fun z i => ⟨fun h => ?_, fun hz hi => ?_⟩, fun n i => ⟨fun h => ?_, fun k input hk hi => ?_⟩,
      fun n g given mask hl => ⟨fun h => ?_, fun k sig hk hg hgiven => ?_⟩⟩
    · exact turnedAway_of _ _ rfl hs (answerFaultClear_badValue h)
    · rw [← clearFaults_tallies (decide (i.toNat = 1))]
      refine answers_of _ _ s _ _ _ rfl hs hw ((answerFaultClear_ok hz hi).trans (congrArg (answered · _) ?_))
      rw [faultFields_clearFaults, flagByte_of (strictFlagOf_some hi)]
      rfl
    · exact turnedAway_of _ _ rfl hs (answerCounterSetup_badValue h)
    · exact answers_of _ _ s _ _ _ rfl hs hw (answerCounterSetup_ok hk hi)
    · exact turnedAway_of _ _ rfl hs (answerOutputSetup_badValue hl h)
    · rcases hgiven with h0 | ⟨h1, hm⟩
      · exact ⟨s.fc.mask, answers_outputSetup hs fun _ => answerOutputSetup_kept hl hk hg h0, fun _ => rfl,
          fun h1 => absurd (h0.symm.trans h1) (by decide)⟩
      · exact ⟨_, answers_outputSetup hs fun _ => answerOutputSetup_masked hl hk hg h1 hm,
          fun h0 => absurd (h0.symm.trans h1) (by decide), fun _ j => maskOf_get hl j⟩
  · refine ⟨fun n => ?_, rfl, decide_eq_true_iff, decide_eq_true_iff.trans (evac_ne_quiet_iff _), ?_,
      decide_eq_true_iff, ?_, ?_, faultPresent_iff s.fc, decide_eq_true_iff.trans (lock_ne_locked_iff _),
      Option.isNone_iff_eq_none, decide_eq_true_iff, noticePending_iff s.mp⟩
    · simp [outputDriven]
    · simp [signalTrue]
    · simp [signalTrue]
    · simp [signalTrue]

end Sys2Proof.Machine
end

section
/-! SUPPORT. The step by what its queue holds (log entry 3): O1. -/

namespace Sys2Proof.Machine

theorem step_of_pending_nil {s : State} (h : s.pending = []) : step s = .next s := by
  unfold step
  rw [h]

theorem step_of_pending_cons {s : State} {c : Instr} {rest : List Instr} (h : s.pending = c :: rest) :
    step s = exec c { s with pending := rest } := by
  unfold step
  rw [h]

/-- Settles O1: the two branches of the step, by what the queue holds. -/
theorem step_runs_front_command : Obligations.step_runs_front_command :=
  ⟨fun _ _ _ => step_of_pending_cons, fun _ => step_of_pending_nil⟩

end Sys2Proof.Machine
end
